-- ==== Sys2Proof/Word.lean ====
section
/-! DEFINITION. The one word the KP-628's links carry: the byte of R1. -/

namespace Sys2Proof

/-- One byte of a link frame (R1). -/
abbrev Byte := BitVec 8

end Sys2Proof
end

