-- ==== Sys2Proof/Syntax.lean ====
section
/-! DEFINITION. The commands of the KP-628: one constructor for each row of the opcode table, with the
row's operands. A request row carries the link, the tag and the payload bytes of the request that the
link takes (R5); an event row carries what the event brings with it (a byte, a lamp, a measurement). -/

namespace Sys2Proof

/-- The two message links (00_scope.md, chapter 1). -/
inductive Link where
  | control
  | lectern
  deriving DecidableEq, Repr

/-- The two lamps. -/
inductive LampId where
  | a
  | b
  deriving DecidableEq, Repr

/-- The six front-panel keys (section 2.2). -/
inductive Key where
  | power
  | input
  | mute
  | level
  | keyUp
  | keyDown
  deriving DecidableEq, Repr

/-- Inputs IN0 to IN7. -/
abbrev InputId := Fin 8

/-- Rule indices 0..15 (R45). -/
abbrev RuleId := Fin 16

/-- The two scan groups (R172). -/
abbrev GroupId := Fin 2

/-- The commands, in the order of the opcode table. -/
inductive Instr where
  /-- LINK_BYTE_RECEIVED (R2): a byte arrives on a link; `stop` is false when its stop bit is missing. -/
  | linkByteReceived (l : Link) (b : Byte) (stop : Bool)
  /-- FRAME_STALL (R3). -/
  | frameStall (l : Link)
  /-- UNKNOWN_KIND (R5): the link takes a request whose kind is none of the 42. -/
  | unknownKind (l : Link) (kind tag : Byte) (payload : List Byte)
  /-- FRAME_SEND_END (R12). -/
  | frameSendEnd (l : Link)
  /-- POWER_ON (R162). -/
  | powerOn (l : Link) (tag : Byte) (payload : List Byte)
  /-- POWER_OFF (R163). -/
  | powerOff (l : Link) (tag : Byte) (payload : List Byte)
  /-- SELECT_INPUT (R131). -/
  | selectInput (l : Link) (tag : Byte) (payload : List Byte)
  /-- PICTURE_MUTE (R142). -/
  | pictureMute (l : Link) (tag : Byte) (payload : List Byte)
  /-- SET_KEYSTONE (R144). -/
  | setKeystone (l : Link) (tag : Byte) (payload : List Byte)
  /-- SET_CORNER (R145). -/
  | setCorner (l : Link) (tag : Byte) (payload : List Byte)
  /-- RECALL_GEOMETRY (R157). -/
  | recallGeometry (l : Link) (tag : Byte) (payload : List Byte)
  /-- SET_LAMP_LEVEL (R90). -/
  | setLampLevel (l : Link) (tag : Byte) (payload : List Byte)
  /-- SET_LAMP_PLAN (R87). -/
  | setLampPlan (l : Link) (tag : Byte) (payload : List Byte)
  /-- SET_LOCKOUT (R57). -/
  | setLockout (l : Link) (tag : Byte) (payload : List Byte)
  /-- PRESENT_CREDENTIAL (R35). -/
  | presentCredential (l : Link) (tag : Byte) (payload : List Byte)
  /-- END_CREDENTIAL (R36). -/
  | endCredential (l : Link) (tag : Byte) (payload : List Byte)
  /-- COUNT_DOWN_DECREMENT (R54). -/
  | countDownDecrement (r : RuleId)
  /-- READ_STATUS (R14). -/
  | readStatus (l : Link) (tag : Byte) (payload : List Byte)
  /-- READ_LAMP (R99). -/
  | readLamp (l : Link) (tag : Byte) (payload : List Byte)
  /-- READ_INPUT (R127). -/
  | readInput (l : Link) (tag : Byte) (payload : List Byte)
  /-- READ_GEOMETRY (R158). -/
  | readGeometry (l : Link) (tag : Byte) (payload : List Byte)
  /-- STORE_GEOMETRY (R156). -/
  | storeGeometry (l : Link) (tag : Byte) (payload : List Byte)
  /-- READ_RULE (R60). -/
  | readRule (l : Link) (tag : Byte) (payload : List Byte)
  /-- WRITE_RULE (R61). -/
  | writeRule (l : Link) (tag : Byte) (payload : List Byte)
  /-- READ_MATRIX (R43). -/
  | readMatrix (l : Link) (tag : Byte) (payload : List Byte)
  /-- WRITE_MATRIX (R44). -/
  | writeMatrix (l : Link) (tag : Byte) (payload : List Byte)
  /-- READ_CARD (R33). -/
  | readCard (l : Link) (tag : Byte) (payload : List Byte)
  /-- WRITE_CARD (R33). -/
  | writeCard (l : Link) (tag : Byte) (payload : List Byte)
  /-- READ_GROUPS (R34). -/
  | readGroups (l : Link) (tag : Byte) (payload : List Byte)
  /-- WRITE_GROUPS (R34). -/
  | writeGroups (l : Link) (tag : Byte) (payload : List Byte)
  /-- READ_ENTRY (R182). -/
  | readEntry (l : Link) (tag : Byte) (payload : List Byte)
  /-- WRITE_ENTRY (R182). -/
  | writeEntry (l : Link) (tag : Byte) (payload : List Byte)
  /-- READ_EXCEPTIONS (R184). -/
  | readExceptions (l : Link) (tag : Byte) (payload : List Byte)
  /-- WRITE_EXCEPTION (R183). -/
  | writeException (l : Link) (tag : Byte) (payload : List Byte)
  /-- READ_CLOCK (R180). -/
  | readClock (l : Link) (tag : Byte) (payload : List Byte)
  /-- SET_CLOCK (R179). -/
  | setClock (l : Link) (tag : Byte) (payload : List Byte)
  /-- READ_FORMAT (R126). -/
  | readFormat (l : Link) (tag : Byte) (payload : List Byte)
  /-- WRITE_FORMAT (R126). -/
  | writeFormat (l : Link) (tag : Byte) (payload : List Byte)
  /-- READ_SETTING (R194). -/
  | readSetting (l : Link) (tag : Byte) (payload : List Byte)
  /-- WRITE_SETTING (R194). -/
  | writeSetting (l : Link) (tag : Byte) (payload : List Byte)
  /-- COMMIT (R192). -/
  | commit (l : Link) (tag : Byte) (payload : List Byte)
  /-- LEARN_BASE (R175). -/
  | learnBase (l : Link) (tag : Byte) (payload : List Byte)
  /-- SERVICE_CLEAR (R117). -/
  | serviceClear (l : Link) (tag : Byte) (payload : List Byte)
  /-- RESET_LAMP_WEAR (R103). -/
  | resetLampWear (l : Link) (tag : Byte) (payload : List Byte)
  /-- READ_INCIDENTS (R109). -/
  | readIncidents (l : Link) (tag : Byte) (payload : List Byte)
  /-- SET_TABLE_LOCK (R62). -/
  | setTableLock (l : Link) (tag : Byte) (payload : List Byte)
  /-- RESTART (R195). -/
  | restart (l : Link) (tag : Byte) (payload : List Byte)
  /-- RESTART_RESET (R195). -/
  | restartReset
  /-- SUPPLY_APPLIED (R195). -/
  | supplyApplied
  /-- SUPPLY_DIP (R195). -/
  | supplyDip
  /-- RESET_LINE (R195). -/
  | resetLine
  /-- KEY_PRESS (R24). -/
  | keyPress (k : Key)
  /-- KEY_RELEASE (R23). -/
  | keyRelease (k : Key)
  /-- KEY_REPEAT (R23). -/
  | keyRepeat (k : Key)
  /-- REMOTE_CODE (R28): address byte, command byte, repeat indication. -/
  | remoteCode (address command : Byte) (again : Bool)
  /-- CONFIRMATION_WINDOW_EXPIRY (R27). -/
  | confirmationWindowExpiry
  /-- HOLD_EXPIRY (R37). -/
  | holdExpiry
  /-- LIT_SENSE (R73). -/
  | litSense (x : LampId)
  /-- STRIKE_WINDOW_EXPIRY (R74). -/
  | strikeWindowExpiry (x : LampId)
  /-- RETRY_WAIT_EXPIRY (R75). -/
  | retryWaitExpiry (x : LampId)
  /-- RETRY_HOLD_REACHED (R75). -/
  | retryHoldReached (x : LampId)
  /-- BALLAST_FAULT (R76). -/
  | ballastFault (x : LampId)
  /-- WARMUP_EXPIRY (R77): `weak` is the lamp weak line as sampled at the expiry. -/
  | warmupExpiry (x : LampId) (weak : Bool)
  /-- COOLDOWN_EXPIRY (R81). -/
  | cooldownExpiry (x : LampId)
  /-- HOLD_REACHED (R82). -/
  | holdReached (x : LampId)
  /-- LIT_SECOND (R94). -/
  | litSecond (x : LampId)
  /-- THERMAL_ALARM (R111). -/
  | thermalAlarm
  /-- THERMAL_INPUT_RELEASE (R115). -/
  | thermalInputRelease
  /-- AT_LEVEL (R170). -/
  | atLevel (x : LampId)
  /-- WAKE_TIMER_EXPIRY (R170). -/
  | wakeTimerExpiry (x : LampId)
  /-- MEASUREMENT (R123): the four values of R120. -/
  | measurement (i : InputId) (sync : Bool) (width height rate : BitVec 16)
  /-- ACQUIRE_TIMEOUT (R122). -/
  | acquireTimeout (i : InputId)
  /-- BLANK_END (R132). -/
  | blankEnd
  /-- SETTLE_EXPIRY (R133). -/
  | settleExpiry
  /-- DEFERRAL_EXPIRY (R137). -/
  | deferralExpiry
  /-- SOURCE_HOLD_EXPIRY (R135). -/
  | sourceHoldExpiry
  /-- LOSS_GRACE_EXPIRY (R140). -/
  | lossGraceExpiry
  /-- IDLE_EXPIRY (R168). -/
  | idleExpiry
  /-- AUTO_OFF_EXPIRY (R171). -/
  | autoOffExpiry
  /-- SCAN_INTERVAL (R173): the count of horizontal syncs each input would give if sampled now. -/
  | scanInterval (g : GroupId) (samples : Vector (BitVec 16) 8)
  /-- MINUTE_START (R186). -/
  | minuteStart
  /-- CLOCK_END (R178). -/
  | clockEnd
  /-- SETTINGS_WRITE_END (R192). -/
  | settingsWriteEnd
  /-- LAMP_WRITE_END (R193). -/
  | lampWriteEnd
  /-- BALLAST_FAULT_RELEASE (R68). -/
  | ballastFaultRelease (x : LampId)
  /-- AT_LEVEL_RELEASE (R170). -/
  | atLevelRelease (x : LampId)
  deriving DecidableEq, Repr

end Sys2Proof
end

