-- ==== Sys2Proof/Decode.lean ====
section
/-! DEFINITION. The command that a word spells by the opcode table's bits. -/

namespace Sys2Proof

/-- The opcode table of this part gives no row any bits: its rows are requests taken from a link, whose
bytes the link's own frame carries (R1, R10), and events that no word spells. No word spells a command. -/
def decodeTableWord (_nbits _w : Nat) : Option Instr := none

end Sys2Proof
end

