-- ==== Sys2Proof/Config.lean ====
section
/-! DEFINITION. What the part fixes as a number, and the three values the manual leaves open. -/

namespace Sys2Proof.Config

/-- Places of the inbound request queue (R4). -/
def inboundPlaces : Nat := 4
/-- Places of the reply list (R8). -/
def replyPlaces : Nat := 4
/-- Places of the outbound report queue (R11). -/
def reportPlaces : Nat := 16
/-- The top of the saturating framing error count (R3). -/
def errorTop : Nat := 255
/-- The stall time of the frame assembler, in ms (R3). -/
def stallMs : Nat := 50
/-- The repeat period of KEY_UP and KEY_DOWN and of the remote, in ms (R23, R29). -/
def repeatMs : Nat := 300
/-- The confirmation window, in ms (R26). -/
def windowMs : Nat := 5000
/-- The strike window, in ms (R72). -/
def strikeWindowMs : Nat := 2000
/-- The strike charge, in wear units (R95). -/
def strikeCharge : Nat := 600
/-- The top of the saturating wear count (R93). -/
def wearTop : Nat := 4294967295
/-- The top of the saturating strike count (R72). -/
def strikeCountTop : Nat := 65535
/-- The top of the saturating wake-late count (R170). -/
def wakeLateTop : Nat := 255
/-- Wear units of one equivalent hour (section 5.1). -/
def unitsPerHour : Nat := 43200
/-- Wear units of one tenth-hour (section 5.1). -/
def unitsPerTenth : Nat := 4320
/-- Lit seconds from one checkpoint request to the next (R100). -/
def checkpointSeconds : Nat := 600
/-- Records of an incident history (R107). -/
def historyPlaces : Nat := 4
/-- The acquire timer, in ms (R122). -/
def acquireMs : Nat := 4000
/-- Measurements of a run that make an input STABLE (R122). -/
def stableRun : Nat := 3
/-- The BLANK phase, in ms (R132). -/
def blankMs : Nat := 100
/-- Records of the exception list (R183). -/
def exceptionPlaces : Nat := 16
/-- The longest a store write takes, in ms (R191). -/
def storeWriteMs : Nat := 200
/-- Minutes of a week (R178). -/
def weekMinutes : Nat := 10080

/-- FREE VALUE (assumption 19). The picture area of a picture quad whose shoelace sum of R148 is
negative, as a function of the quad's eight coordinates: rounding can turn a picture rectangle one
line or one pixel thin over, and 0..1000 then holds no figure that the sum gives. -/
opaque unstatedPictureArea : List Int → BitVec 16

/-- FREE VALUE (assumption 31). The two aspect bytes that READ_INPUT gives for a STABLE input whose format
has no aspect override and whose width or height does not fit one byte, as a function of the width and the
height: R127 gives each figure one byte, and the aspect of R125 is then the width to the height. -/
opaque unstatedAspectBytes : Nat → Nat → BitVec 16

/-- FREE VALUE (assumption 34). How long a reset that keeps the clock lasts, in ms, as a function of how many
such resets came before it: R178 and R190 let the clock count on through the reset, and no rule gives the
length of a reset. -/
opaque timeInReset : Nat → Nat

end Sys2Proof.Config
end

