-- ==== Sys2Proof/Machine/State.lean ====
section
/-! DEFINITION. The state of the KP-628: every queue, table, register, timer, flag and line that the
manual names, block by block, as plain data, with the state right after reset. -/

namespace Sys2Proof.Machine

/-- A timer: `none` stopped, `some n` running with `n` ms to go. A timer at `some 0` is due and waits
for the command of its expiry (assumptions 2 and 3). -/
abbrev Timer := Option Nat

/-! ## The enumerations of R16 and of the report layouts -/

/-- The requester classes (R16, R22). -/
inductive ReqClass where
  | control | lectern | panel | remote | schedule | auto
  deriving DecidableEq, Repr

/-- The credential classes (R16). -/
inductive CredClass where
  | none | unknown | group | staff | tech
  deriving DecidableEq, Repr

/-- The roles of a card table entry (section 2.5). -/
inductive Role where
  | staff | tech
  deriving DecidableEq, Repr

/-- The lockout levels (R41). -/
inductive Level where
  | opened | lecture | secure | service
  deriving DecidableEq, Repr

/-- The power states (chapter 9). -/
inductive PowerState where
  | standby | starting | on | dimmed | stopping | shutdown
  deriving DecidableEq, Repr

/-- The lamp states (chapter 4). -/
inductive LampState where
  | dark | ignite | retryWait | warmup | lit | dimmed | cooldown | hot | out
  deriving DecidableEq, Repr

/-- The lamp plans (section 4.6). -/
inductive Plan where
  | dual | alternate | fixedA | fixedB
  deriving DecidableEq, Repr

/-- The lamp level (section 4.7). -/
inductive LampLevel where
  | full | eco
  deriving DecidableEq, Repr

/-- The values of a ballast demand line (R67). -/
inductive Demand where
  | off | ignite | full | eco | dim
  deriving DecidableEq, Repr

/-- The causes of a LAMP_STATE report (R91). -/
inductive LampCause where
  | start | strike | litSense | strikeFailed | exhausted | double | warmed | level | dim | undim
  | extinguish | fault | thermal | cooled | ready | holdRaised | call | release | unavailable | service
  deriving DecidableEq, Repr

/-- The incident kinds (R16, R105). -/
inductive IncidentKind where
  | strikeFail | strikeExhausted | ballastFault | double | arcWeak | wakeLate | uncleanOff
  | wearWarn | wearEnd | expired | thermal
  deriving DecidableEq, Repr

/-- The incident classes (R16, R105). -/
inductive IncidentClass where
  | retry | note | abort | double
  deriving DecidableEq, Repr

/-- The signal states (section 7.1). -/
inductive SignalState where
  | dormant | absent | acquiring | stable | unsupported
  deriving DecidableEq, Repr

/-- The switch outcomes (R139). -/
inductive SwitchOutcome where
  | done | noSignal | superseded | deferralExpired | heldAtStart
  deriving DecidableEq, Repr

/-- The result codes (R10). -/
inductive Result where
  | ok | accepted | denied | held | busy | unknownKind | badLength | badValue | state | limit
  | locked | needsTech | full | clockUnset
  deriving DecidableEq, Repr

/-- The reset causes (R195). -/
inductive ResetCause where
  | powerOn | supplyDip | resetLine | restart
  deriving DecidableEq, Repr

/-- The causes of a POWER_STATE report (R166). -/
inductive PowerCause where
  | start | request | lamps | idle | activity | thermal | service
  deriving DecidableEq, Repr

/-- The outcomes of a POWER_STATE report (R166). -/
inductive PowerOutcome where
  | none | startFailed | degraded
  deriving DecidableEq, Repr

/-- The causes of an INPUT_STATE report (R124). -/
inductive InputCause where
  | measurement | table | power
  deriving DecidableEq, Repr

/-- How the picture rectangle was formed, and the aspect modes of R128. -/
inductive Fit where
  | fill | fit | native
  deriving DecidableEq, Repr

/-- The causes of a GEOMETRY report (R155). -/
inductive GeoCause where
  | request | source | start | startDefaulted
  deriving DecidableEq, Repr

/-- The causes of a CREDENTIAL report (R39). -/
inductive CredCause where
  | presented | ended | expired | standby
  deriving DecidableEq, Repr

/-- The causes of a LOCKOUT report (R59). -/
inductive LockoutCause where
  | request | escalation | scheduleRestore | start
  deriving DecidableEq, Repr

/-- The events of a RULE_EVENT report (R56). -/
inductive RuleEventKind where
  | limitReached | expired
  deriving DecidableEq, Repr

/-- The events of a CONFIRM report (R27). -/
inductive ConfirmEvent where
  | opened | confirmed | expired | cancelledKey | cancelledState
  deriving DecidableEq, Repr

/-- The events of a THERMAL report (R116). -/
inductive ThermalEvent where
  | alarm | latched | recovered | shutdown | cleared
  deriving DecidableEq, Repr

/-- The time modes of a rule (R45). -/
inductive TimeMode where
  | off | atBound | inside | outside
  deriving DecidableEq, Repr

/-- The verdict field of a rule (R45). -/
inductive RuleVerdict where
  | permit | deny | continue
  deriving DecidableEq, Repr

/-- The priority modes of a rule (R50). -/
inductive PriorityMode where
  | keep | atLeast | atMost | set
  deriving DecidableEq, Repr

/-- The map modes of a rule (R50). -/
inductive MapMode where
  | keep | add | mask | set
  deriving DecidableEq, Repr

/-- The counter modes of a rule (R45). -/
inductive CounterMode where
  | none | countUp | countDown
  deriving DecidableEq, Repr

/-- The counter units of a rule (R45). -/
inductive CounterUnit where
  | seconds | minutes
  deriving DecidableEq, Repr

/-- The actions of a week entry (R19). -/
inductive Action where
  | powerOn | powerOff | selectInput | setLockout | recallGeometry | setLampLevel | setRule | notice
  deriving DecidableEq, Repr

/-- The dispositions of a SCHEDULE_FIRED report (R188). -/
inductive Disposition where
  | fired | suppressed
  deriving DecidableEq, Repr

/-! ## The clock, incidents and geometry figures -/

/-- A calendar date (R178). -/
structure Date where
  year : Nat
  month : Nat
  day : Nat
  deriving DecidableEq, Repr

/-- A date and a time of day to the second (R178). -/
structure DateTime where
  date : Date
  hour : Nat
  minute : Nat
  second : Nat
  deriving DecidableEq, Repr

/-- A set clock: the date and time, and the ms of the running second (R178). -/
structure Clock where
  now : DateTime
  ms : Nat
  deriving DecidableEq, Repr

/-- One incident record (R104). -/
structure Incident where
  kind : IncidentKind
  cls : IncidentClass
  lampState : LampState
  wear : Nat
  time : Option DateTime
  deriving DecidableEq, Repr

/-- A point of the panel, or an edge between two (section 8.1). -/
structure Point where
  x : Int
  y : Int
  deriving DecidableEq, Repr

/-- Four corner points in the order TL, TR, BR, BL (section 8.1). -/
structure Quad where
  tl : Point
  tr : Point
  br : Point
  bl : Point
  deriving DecidableEq, Repr

/-- The geometry values: keystone V and H and the offset pair of each corner (section 8.1). -/
structure GeoValues where
  v : Int
  h : Int
  tl : Point
  tr : Point
  br : Point
  bl : Point
  deriving DecidableEq, Repr

/-- The picture rectangle of stage 4 (R150). -/
structure Rect where
  x0 : Nat
  y0 : Nat
  w : Nat
  h : Nat
  deriving DecidableEq, Repr

/-- What one scaler update carries (R153). -/
structure ScalerUpdate where
  quad : Quad
  area : Nat
  pictureQuad : Quad
  pictureArea : Nat
  deriving DecidableEq, Repr

/-! ## Records on the links -/

/-- The START report (R196). -/
structure StartReport where
  cause : ResetCause
  settingsDefaulted : Bool
  lampDefaulted : Bool
  clockKept : Bool
  litA : Bool
  litB : Bool
  deriving DecidableEq, Repr

/-- The POWER_STATE report (R166). -/
structure PowerReport where
  state : PowerState
  previous : PowerState
  cause : PowerCause
  outcome : PowerOutcome
  intent : Bool
  intentClass : Option ReqClass
  intentPriority : Nat
  calledA : Bool
  calledB : Bool
  degraded : Bool
  idleExpired : Bool
  plan : Plan
  deriving DecidableEq, Repr

/-- The LAMP_STATE report (R91). -/
structure LampReport where
  lamp : LampId
  state : LampState
  previous : LampState
  cause : LampCause
  demand : Demand
  flags : Byte
  attempts : Nat
  limit : Nat
  deriving DecidableEq, Repr

/-- The INPUT_STATE report (R124). -/
structure InputReport where
  input : InputId
  state : SignalState
  previous : SignalState
  cause : InputCause
  format : Option (Fin 16)
  width : Nat
  height : Nat
  rate : Nat
  deriving DecidableEq, Repr

/-- The SWITCH_DONE report (R139). -/
structure SwitchReport where
  input : InputId
  outcome : SwitchOutcome
  cls : ReqClass
  priority : Nat
  origin : Option (Link × Byte)
  selected : InputId
  signal : SignalState
  format : Option (Fin 16)
  deriving DecidableEq, Repr

/-- The GEOMETRY report (R155). -/
structure GeoReport where
  cause : GeoCause
  deferred : Bool
  input : InputId
  fit : Fit
  v : Int
  h : Int
  sent : ScalerUpdate
  deriving DecidableEq, Repr

/-- The CREDENTIAL report (R39). -/
structure CredReport where
  cause : CredCause
  cls : CredClass
  previous : CredClass
  link : Link
  minutes : Nat
  token : BitVec 48
  deriving DecidableEq, Repr

/-- The LOCKOUT report (R59). -/
structure LockoutReport where
  cause : LockoutCause
  level : Level
  previous : Level
  source : Byte
  deriving DecidableEq, Repr

/-- The RULE_EVENT report (R56); `origin` is the class and kind of the request of the last count. -/
structure RuleReport where
  rule : RuleId
  event : RuleEventKind
  origin : Option (ReqClass × Byte)
  escalated : Bool
  level : Level
  deriving DecidableEq, Repr

/-- The SCHEDULE_FIRED report (R188). -/
structure FiredReport where
  entry : Nat
  disposition : Disposition
  action : Action
  arg1 : Nat
  arg2 : Nat
  priority : Nat
  result : Option Result
  deciding : Byte
  minute : Nat
  deriving DecidableEq, Repr

/-- The NOTICE report (R187). -/
structure NoticeReport where
  code : Nat
  entry : Nat
  minute : Nat
  deriving DecidableEq, Repr

/-- The CONFIRM report (R27). -/
structure ConfirmReport where
  source : ReqClass
  event : ConfirmEvent
  state : PowerState
  deriving DecidableEq, Repr

/-- The THERMAL report (R116). -/
structure ThermalReport where
  event : ThermalEvent
  input : Bool
  recovery : Bool
  latch : Bool
  deriving DecidableEq, Repr

/-- The 14 report kinds of R10 with their fields. -/
inductive Report where
  | start (r : StartReport)
  | powerState (r : PowerReport)
  | lampState (r : LampReport)
  | incident (lamp : LampId) (r : Incident)
  | inputState (r : InputReport)
  | switchDone (r : SwitchReport)
  | geometry (r : GeoReport)
  | credential (r : CredReport)
  | lockout (r : LockoutReport)
  | ruleEvent (r : RuleReport)
  | scheduleFired (r : FiredReport)
  | notice (r : NoticeReport)
  | confirm (r : ConfirmReport)
  | thermal (r : ThermalReport)
  deriving DecidableEq, Repr

/-- A request as the link holds it: kind byte, tag, payload (R1). -/
structure Request where
  kind : Byte
  tag : Byte
  payload : List Byte
  deriving DecidableEq, Repr

/-- A reply: reply kind, tag, result and result payload (R7). -/
structure Reply where
  kind : Byte
  tag : Byte
  result : Result
  payload : List Byte
  deriving DecidableEq, Repr

/-- A frame on the outgoing line: a reply, or a report with its sequence number (R1, R9). -/
inductive OutFrame where
  | reply (r : Reply)
  | report (seq : Byte) (r : Report)
  deriving DecidableEq, Repr

/-- The four states of the frame assembler (R2). BODY and CHECK keep the length and the body bytes
gathered so far, oldest first. -/
inductive Assembler where
  | hunt
  | length
  | body (len : Nat) (got : List Byte)
  | check (len : Nat) (got : List Byte)
  deriving DecidableEq, Repr

/-- What each link keeps (chapter 1). -/
structure LinkState where
  /-- The frame assembler (R2). -/
  assembler : Assembler
  /-- The stall time of R3. -/
  stall : Timer
  /-- The inbound request queue, oldest first (R4). -/
  inbound : List Request
  /-- Set from the taking of a COMMIT to its reply: the link takes no further request (R8). -/
  awaiting : Bool
  /-- The reply list, oldest first (R8). -/
  replies : List Reply
  /-- A COMMIT reply produced while the reply list was full (assumption 9). -/
  owed : Option Reply
  /-- The outbound report queue, oldest first, each with its sequence number (R11). -/
  reports : List (Byte × Report)
  /-- The frame being sent on the outgoing line (R12). -/
  sending : Option OutFrame
  /-- The framing error count (R3). -/
  errors : Nat
  /-- The report sequence number (R9). -/
  sequence : Byte
  /-- The reports-lost flag (R11). -/
  lost : Bool
  deriving DecidableEq, Repr

/-! ## The tables of the settings record -/

/-- One cell of the lockout matrix (R42). -/
structure Cell where
  permit : Bool
  map : BitVec 8
  priority : Nat
  deriving DecidableEq, Repr

/-- One rule of the rule table, without its counter's current value (R45). -/
structure Rule where
  enabled : Bool
  requesters : BitVec 6
  kinds : BitVec 12
  credential : BitVec 5
  timeMode : TimeMode
  timeMin : Nat
  timeMax : Nat
  verdict : RuleVerdict
  priorityMode : PriorityMode
  priority : Nat
  mapMode : MapMode
  map : BitVec 8
  counterMode : CounterMode
  unit : CounterUnit
  limit : Nat
  escalate : Bool
  deriving DecidableEq, Repr

/-- One card table entry (section 2.5). -/
structure Card where
  enabled : Bool
  token : BitVec 48
  role : Role
  deriving DecidableEq, Repr

/-- The three filter flags (section 2.5). -/
structure FilterFlags where
  personalByBins : Bool
  inverse : Bool
  acceptAll : Bool
  deriving DecidableEq, Repr

/-- The table lock and its boundaries (section 3.7). -/
structure TableLock where
  on : Bool
  schedule : Nat
  rule : Nat
  deriving DecidableEq, Repr

/-- One format table entry (R125); `aspect` is the aspect override. -/
structure Format where
  enabled : Bool
  width : Nat
  height : Nat
  rateMin : Nat
  rateMax : Nat
  aspect : Option (Nat × Nat)
  deriving DecidableEq, Repr

/-- One week table entry (R181). -/
structure Entry where
  enabled : Bool
  days : BitVec 7
  minute : Nat
  action : Action
  arg1 : Nat
  arg2 : Nat
  priority : Nat
  deriving DecidableEq, Repr

/-- One exception record (R183). -/
structure ExceptionRecord where
  date : Date
  actions : BitVec 8
  deriving DecidableEq, Repr

/-- Everything the settings record carries (R191). The live values of the owning blocks and the stored
record have this one form. -/
structure Stored where
  /-- The setting items of R194, by item number; a number that names no item holds 0. -/
  items : Vector Nat 104
  /-- The lockout matrix: the cell of level `v` and class `c` is entry 6 v + c (R42). -/
  matrix : Vector Cell 24
  /-- The rule set of each requester class (R48). -/
  ruleSets : Vector (BitVec 16) 6
  /-- The rule table (R45). -/
  rules : Vector Rule 16
  /-- The card table (section 2.5). -/
  cards : Vector Card 8
  /-- The group bins (section 2.5). -/
  bins : BitVec 64
  /-- The filter flags (section 2.5). -/
  filter : FilterFlags
  /-- The table lock (section 3.7). -/
  lock : TableLock
  /-- The format table (R125). -/
  formats : Vector Format 16
  /-- The geometry values (section 8.1). -/
  geometry : GeoValues
  /-- The geometry presets (section 8.6). -/
  presets : Vector GeoValues 4
  /-- The week table (R181). -/
  week : Vector Entry 48
  /-- The exception list (R183). -/
  exceptions : List ExceptionRecord
  /-- The lamp plan (section 4.6). -/
  plan : Plan
  /-- The lamp level (section 4.7). -/
  lampLevel : LampLevel
  deriving DecidableEq, Repr

/-- What the lamp record carries for one lamp (R101). -/
structure LampEntry where
  wear : Nat
  strikeCount : Nat
  out : Bool
  wearUnknown : Bool
  wakeLate : Nat
  history : List Incident
  lit : Bool
  deriving DecidableEq, Repr

/-- The lamp record: both lamps (R101). -/
structure LampRecord where
  a : LampEntry
  b : LampEntry
  deriving DecidableEq, Repr

/-! ## The live state of the blocks -/

/-- An open confirmation window (R26). -/
structure Window where
  source : ReqClass
  left : Timer
  deriving DecidableEq, Repr

/-- The keypad as the decoder holds it (R23): which keys are held, and the time to the next repeat. -/
structure Keypad where
  power : Bool
  input : Bool
  mute : Bool
  level : Bool
  keyUp : Bool
  keyDown : Bool
  upRepeat : Timer
  downRepeat : Timer
  deriving DecidableEq, Repr

/-- The remote repeat memory (R29): the last matching code without the repeat indication, and the time
since the last request formed for KEY_UP and KEY_DOWN from the remote. -/
structure RemoteMemory where
  last : Option Byte
  sinceUp : Option Nat
  sinceDown : Option Nat
  deriving DecidableEq, Repr

/-- A credential hold that is present (section 2.6); `left` is its time still to run, in ms. -/
structure Hold where
  cls : CredClass
  token : BitVec 48
  left : Nat
  link : Link
  deriving DecidableEq, Repr

/-- A rule's counter: the current value, and the time to the end of the running unit (R54). -/
structure Counter where
  value : Nat
  unit : Timer
  deriving DecidableEq, Repr

/-- One lamp channel with its wear state, its wake-late count and wake timer, its incident history and
its sense lines (chapters 4, 5, 6; R170). -/
structure Lamp where
  state : LampState
  /-- The demand line (R67). -/
  demand : Demand
  called : Bool
  pendingOff : Bool
  waiting : Bool
  out : Bool
  attempts : Nat
  limit : Nat
  cap : Nat
  /-- The time since the last extinguish, in ms. -/
  since : Nat
  /-- The one running timer of the state: strike window, retry wait, warm-up or cooldown. -/
  timer : Timer
  strikeCount : Nat
  wear : Nat
  /-- The lit-time fraction, in ms (R94). -/
  fraction : Nat
  /-- Lit seconds since checkpoint (R100). -/
  litSeconds : Nat
  warning : Bool
  endOfLife : Bool
  expired : Bool
  wearUnknown : Bool
  wakeLate : Nat
  wakeTimer : Timer
  /-- The incident history, newest first (R107). -/
  history : List Incident
  /-- The ballast fault line (R68). -/
  faultLine : Bool
  /-- The at-level line (R68). -/
  atLevelLine : Bool
  deriving DecidableEq, Repr

/-- One measurement of an input (R120). -/
structure Measure where
  sync : Bool
  width : Nat
  height : Nat
  rate : Nat
  deriving DecidableEq, Repr

/-- The monitor's record of one input (section 7.1). -/
structure InputRecord where
  signal : SignalState
  format : Option (Fin 16)
  latest : Measure
  /-- The run: the entry matched and the count, or empty (R122). -/
  run : Option (Fin 16 × Nat)
  acquire : Timer
  activity : Nat
  deriving DecidableEq, Repr

/-- The phases of a switch (section 7.4). -/
inductive Phase where
  | blank | settle | awaitSignal
  deriving DecidableEq, Repr

/-- The switch record (section 7.4). -/
structure Switch where
  target : InputId
  cls : ReqClass
  priority : Nat
  origin : Option (Link × Byte)
  phase : Phase
  timer : Timer
  deriving DecidableEq, Repr

/-- The select in the pending slot (section 7.4). -/
structure Pending where
  input : InputId
  cls : ReqClass
  priority : Nat
  origin : Option (Link × Byte)
  deferral : Timer
  deriving DecidableEq, Repr

/-- A source hold that is present (R135); `left` is its time still to run, in ms. -/
structure SourceHold where
  input : InputId
  cls : ReqClass
  priority : Nat
  left : Nat
  deriving DecidableEq, Repr

/-- The loss watch (R140). -/
inductive Watch where
  | watching
  | grace
  | lost
  deriving DecidableEq, Repr

/-- The switch unit with the two outputs of R129 (section 7.4). -/
structure SwitchUnit where
  selected : InputId
  inFlight : Option Switch
  slot : Option Pending
  hold : Option SourceHold
  mute : Bool
  watch : Watch
  grace : Timer
  /-- The select lines (R129). -/
  selectLines : InputId
  /-- The blank line (R129). -/
  blankLine : Bool
  deriving DecidableEq, Repr

/-- The computed state of the geometry unit (section 8.1). -/
structure GeometryUnit where
  quad : Quad
  area : Nat
  rect : Rect
  fit : Fit
  pictureQuad : Quad
  pictureArea : Nat
  /-- The input used by stage 4 (R158). -/
  input : InputId
  deferred : Bool
  deriving DecidableEq, Repr

/-- The power unit, less the per-lamp counts and timers that stand with the lamps (R161). -/
structure PowerUnit where
  state : PowerState
  intent : Bool
  intentClass : Option ReqClass
  intentPriority : Nat
  degraded : Bool
  idleExpired : Bool
  idle : Timer
  autoOff : Timer
  deriving DecidableEq, Repr

/-- The running part of a scan group: interval timer and run counts by input (R172). -/
structure ScanGroup where
  interval : Timer
  runs : Vector Nat 8
  deriving DecidableEq, Repr

/-- A settings write in flight, with the COMMIT that it answers (R192). -/
structure SettingsWrite where
  content : Stored
  link : Link
  tag : Byte
  left : Timer
  deriving DecidableEq, Repr

/-- A lamp write in flight (R193). -/
structure LampWrite where
  content : LampRecord
  left : Timer
  deriving DecidableEq, Repr

/-- The whole part, and the queue of commands that are waiting. -/
structure State where
  /-- The commands waiting, first in, first out (the model's own field). -/
  pending : List Instr
  control : LinkState
  lectern : LinkState
  /-- Set when the RESTART reply has been sent completely: the restart is due (R8). -/
  restartDue : Bool
  /-- The live values of everything the settings record carries (R191). -/
  conf : Stored
  window : Option Window
  keypad : Keypad
  remote : RemoteMemory
  hold : Option Hold
  level : Level
  counters : Vector Counter 16
  lampA : Lamp
  lampB : Lamp
  lastStruck : Option LampId
  /-- The fan line (R69). -/
  fan : Bool
  recovery : Bool
  latch : Bool
  /-- The thermal alarm input (section 6.3). -/
  thermalInput : Bool
  inputs : Vector InputRecord 8
  sw : SwitchUnit
  geo : GeometryUnit
  /-- What the scaler holds: the last update sent over the scaler port (R153). -/
  scaler : ScalerUpdate
  power : PowerUnit
  scan : Vector ScanGroup 2
  clock : Option Clock
  /-- How many resets that keep the clock have been taken: the model's own field, at which the free length of
  the next one is read (assumption 34). -/
  keptResets : Nat
  skip : Bool
  settingsWrite : Option SettingsWrite
  lampWrite : Option LampWrite
  /-- The waiting place of the lamp write (R193). -/
  waitingCheckpoint : Bool
  /-- The settings record in non-volatile memory; `none` when its check fails (R191). -/
  nvSettings : Option Stored
  /-- The lamp record in non-volatile memory; `none` when its check fails (R191). -/
  nvLamps : Option LampRecord
  deriving DecidableEq, Repr

/-- The reasons to stop with a fault. There are none: the manual gives every step of this part its
effect, and a step that cannot take place leaves the state as it is (assumption 6). -/
inductive Fault where
  deriving DecidableEq, Repr

/-- The reasons to refuse a command. -/
inductive Refusal where
  /-- Raised by `exec` alone, for a row that has no meaning yet (safe). No row of this model has it. -/
  | notModelled (mnemonic : String)
  deriving DecidableEq, Repr

/-! ## The state right after reset

`State.reset` is the part right after the supply is first applied, no record ever having been stored
(assumption 7): the one indivisible step SUPPLY_APPLIED with both records failing their check. The
start values are those of R15, R40, R64, R92, R102, R119, R143, R160, R177 and R190; the links already
hold the start-up reports in the order of R195. -/

/-- The defaults of setting items 0..39 (R194); number 0 names no item. -/
def defaultItemsLow : List Nat :=
  [0, 0x3FFF, 0x19F7, 0x2C, 90, 0, 60, 90, 150, 4, 2, 3000, 200, 100, 12, 8]
  ++ [60, 120, 0, 0, 300, 0, 0, 3, 0, 600, 10, 20, 1, 1, 8, 5, 0]
  ++ [0, 2, 0, 0, 2, 0, 1]

/-- The defaults of the setting items, 0..103 (R194). -/
def defaultItems : Vector Nat 104 :=
  ⟨(defaultItemsLow ++ List.replicate 24 0 ++ List.replicate 8 1 ++ List.replicate 16 0
    ++ List.replicate 8 8 ++ List.replicate 8 1).toArray, by decide⟩

/-- The default row of the matrix for one level, from the permissions and the maps in class order
(R42); the priorities are the same in every row. -/
def defaultRow (permits : List Bool) (remoteMap autoMap : BitVec 8) : List Cell :=
  List.zipWith (fun p mp => Cell.mk p mp.1 mp.2) permits
    [(0xFF, 6), (0xFF, 4), (0xFF, 3), (remoteMap, 3), (0xFF, 5), (autoMap, 1)]

/-- The default lockout matrix (R42), levels in code order and classes in code order. -/
def defaultMatrix : Vector Cell 24 :=
  ⟨(defaultRow [true, true, true, true, true, true] 0xFF 0xFF
    ++ defaultRow [true, true, false, true, true, true] 0x0F 0x0F
    ++ defaultRow [true, false, false, false, true, false] 0xFF 0xFF
    ++ defaultRow [true, false, false, false, false, false] 0xFF 0xFF).toArray, by decide⟩

/-- A rule at its defaults (R45). -/
def defaultRule : Rule :=
  { enabled := false, requesters := 0, kinds := 0, credential := 0, timeMode := .off, timeMin := 0,
    timeMax := 0, verdict := .continue, priorityMode := .keep, priority := 0, mapMode := .keep,
    map := 0, counterMode := .none, unit := .seconds, limit := 1, escalate := false }

/-- An enabled default format entry (R125). -/
def defaultFormat (w h : Nat) : Format :=
  { enabled := true, width := w, height := h, rateMin := 2350, rateMax := 7500, aspect := none }

/-- The default format table (R125). -/
def defaultFormats : Vector Format 16 :=
  ⟨([defaultFormat 640 480, defaultFormat 800 600, defaultFormat 1024 768, defaultFormat 1280 720,
      defaultFormat 1280 800, defaultFormat 1280 1024, defaultFormat 1366 768, defaultFormat 1440 900]
    ++ [defaultFormat 1600 1200, defaultFormat 1680 1050, defaultFormat 1920 1080,
      defaultFormat 1920 1200]
    ++ List.replicate 4 { defaultFormat 640 480 with enabled := false }).toArray, by decide⟩

/-- Geometry values all 0 (R160). -/
def zeroGeo : GeoValues := ⟨0, 0, ⟨0, 0⟩, ⟨0, 0⟩, ⟨0, 0⟩, ⟨0, 0⟩⟩

/-- A week entry at its defaults (R181). -/
def defaultEntry : Entry :=
  { enabled := false, days := 0, minute := 0, action := .powerOn, arg1 := 0, arg2 := 0, priority := 5 }

/-- What every block takes when the settings record fails its check (R191). -/
def Stored.defaults : Stored :=
  { items := defaultItems
    matrix := defaultMatrix
    ruleSets := Vector.replicate 6 0
    rules := Vector.replicate 16 defaultRule
    cards := Vector.replicate 8 ⟨false, 0, .staff⟩
    bins := 0
    filter := ⟨false, false, false⟩
    lock := ⟨false, 0, 0⟩
    formats := defaultFormats
    geometry := zeroGeo
    presets := Vector.replicate 4 zeroGeo
    week := Vector.replicate 48 defaultEntry
    exceptions := []
    plan := .dual
    lampLevel := .full }

/-- The full panel rectangle (R146). -/
def fullPanel : Quad := ⟨⟨0, 0⟩, ⟨1920, 0⟩, ⟨1920, 1200⟩, ⟨0, 1200⟩⟩

/-- A lamp right after a start-up with a failed lamp record: HOT, wear 0 and unknown (R92, R102). -/
def Lamp.fresh : Lamp :=
  { state := .hot, demand := .off, called := false, pendingOff := false, waiting := false, out := false,
    attempts := 0, limit := 0, cap := 0, since := 0, timer := none, strikeCount := 0, wear := 0,
    fraction := 0, litSeconds := 0, warning := false, endOfLife := false, expired := false,
    wearUnknown := true, wakeLate := 0, wakeTimer := none, history := [], faultLine := false,
    atLevelLine := false }

/-- An input right after reset (R143). -/
def InputRecord.fresh : InputRecord :=
  { signal := .dormant, format := none, latest := ⟨false, 0, 0, 0⟩, run := none, acquire := none,
    activity := 0 }

/-- What the scaler holds after the start-up update of the defaults (R160). -/
def fullUpdate : ScalerUpdate := ⟨fullPanel, 1000, fullPanel, 1000⟩

/-- A link at reset, before any start-up report (R15). -/
def LinkState.fresh : LinkState :=
  { assembler := .hunt, stall := none, inbound := [], awaiting := false, replies := [], owed := none,
    reports := [], sending := none, errors := 0, sequence := 0, lost := false }

/-- The LAMP_STATE report of cause START of a lamp at `Lamp.fresh` (R92); flag bit 2 is wear unknown. -/
def freshLampReport (x : LampId) : Report :=
  .lampState ⟨x, .hot, .hot, .start, .off, 0x04, 0, 0⟩

/-- A link after the start-up reports of the first start: START is being sent, five reports wait, and
the sequence number stands at 6 (R9, R15, R195). Both default masks hold all six kinds (R13). -/
def LinkState.started : LinkState :=
  { LinkState.fresh with
    sending := some (.report 1 (.start ⟨.powerOn, true, true, false, false, false⟩))
    reports :=
      [(2, .lockout ⟨.start, .opened, .opened, 0xFF⟩),
       (3, .powerState ⟨.standby, .standby, .start, .none, false, none, 0, false, false, false, false, .dual⟩),
       (4, freshLampReport .a),
       (5, freshLampReport .b),
       (6, .geometry ⟨.start, false, 0, .fill, 0, 0, fullUpdate⟩)]
    sequence := 6 }

/-- The part right after its first start-up. -/
def State.reset : State :=
  { pending := []
    control := LinkState.started
    lectern := LinkState.started
    restartDue := false
    conf := Stored.defaults
    window := none
    keypad := ⟨false, false, false, false, false, false, none, none⟩
    remote := ⟨none, none, none⟩
    hold := none
    level := .opened
    counters := Vector.replicate 16 ⟨0, none⟩
    lampA := Lamp.fresh
    lampB := Lamp.fresh
    lastStruck := none
    fan := false
    recovery := false
    latch := false
    thermalInput := false
    inputs := Vector.replicate 8 InputRecord.fresh
    sw :=
      { selected := 0, inFlight := none, slot := none, hold := none, mute := false, watch := .watching,
        grace := none, selectLines := 0, blankLine := false }
    geo :=
      { quad := fullPanel, area := 1000, rect := ⟨0, 0, 1920, 1200⟩, fit := .fill,
        pictureQuad := fullPanel, pictureArea := 1000, input := 0, deferred := false }
    scaler := fullUpdate
    power :=
      { state := .standby, intent := false, intentClass := none, intentPriority := 0, degraded := false,
        idleExpired := false, idle := none, autoOff := none }
    scan := Vector.replicate 2 ⟨some 1000, Vector.replicate 8 0⟩
    clock := none
    keptResets := 0
    skip := false
    settingsWrite := none
    lampWrite := none
    waitingCheckpoint := false
    nvSettings := none
    nvLamps := none }

end Sys2Proof.Machine
end

