-- ==== Sys2Proof/Machine/Operands.lean ====
section
/-! DEFINITION. The byte layouts of the links: numbers, codes, request payload lengths, the records of
section 1.6, report payloads and whole frames. -/

namespace Sys2Proof.Machine

/-! ## Numbers in bytes, most significant byte first (R1) -/

/-- A number in one byte. -/
def byte (n : Nat) : Byte := BitVec.ofNat 8 n

/-- A number in two bytes. -/
def be16 (n : Nat) : List Byte := [byte (n / 256), byte n]

/-- A number in three bytes. -/
def be24 (n : Nat) : List Byte := byte (n / 65536) :: be16 n

/-- A number in four bytes. -/
def be32 (n : Nat) : List Byte := be16 (n / 65536) ++ be16 n

/-- A token in six bytes. -/
def be48 (t : BitVec 48) : List Byte := be16 (t.toNat / 4294967296) ++ be32 t.toNat

/-- A bin set in eight bytes. -/
def be64 (t : BitVec 64) : List Byte := be32 (t.toNat / 4294967296) ++ be32 t.toNat

/-- A signed number in one byte, two's complement. -/
def signed8 (i : Int) : Byte := BitVec.ofInt 8 i

/-- A signed number in two bytes, two's complement. -/
def signed16 (i : Int) : List Byte := be16 (BitVec.ofInt 16 i).toNat

/-- A flag in one byte, 0 or 1. -/
def flagByte (b : Bool) : Byte := if b then 1 else 0

/-- Payload byte `n`; the length check of R5 has passed, so the byte is there. -/
def argByte (p : List Byte) (n : Nat) : Byte := p.getD n 0

/-- Payload byte `n` as a number. -/
def arg (p : List Byte) (n : Nat) : Nat := (argByte p n).toNat

/-- Payload bytes `n` and `n + 1` as a number. -/
def arg16 (p : List Byte) (n : Nat) : Nat := arg p n * 256 + arg p (n + 1)

/-- Payload byte `n` as a signed number. -/
def argSigned8 (p : List Byte) (n : Nat) : Int := (argByte p n).toInt

/-- Payload bytes `n` and `n + 1` as a signed number. -/
def argSigned16 (p : List Byte) (n : Nat) : Int := (BitVec.ofNat 16 (arg16 p n)).toInt

/-- A big-endian number of any length. -/
def beNat (bs : List Byte) : Nat := bs.foldl (fun n b => n * 256 + b.toNat) 0

/-- The byte whose bit n is the nth flag, bit 0 first. -/
def flagsByte (fs : List Bool) : Byte :=
  byte (fs.foldr (fun f n => (if f then 1 else 0) + 2 * n) 0)

/-! ## Codes (R16, and the codes of the report layouts) -/

/-- Link codes (R39, R139). -/
def Link.code : Link → Nat
  | .control => 0
  | .lectern => 1

/-- Lamp codes. -/
def lampCode : LampId → Nat
  | .a => 0
  | .b => 1

/-- The lamp with a code. -/
def lampOf (n : Nat) : Option LampId := [LampId.a, .b][n]?

/-- Requester class codes. -/
def ReqClass.code : ReqClass → Nat
  | .control => 0
  | .lectern => 1
  | .panel => 2
  | .remote => 3
  | .schedule => 4
  | .auto => 5

/-- The requester class with a code. -/
def ReqClass.ofCode (n : Nat) : Option ReqClass :=
  [ReqClass.control, .lectern, .panel, .remote, .schedule, .auto][n]?

/-- The requester class of a link's requests (R8). -/
def ReqClass.ofLink : Link → ReqClass
  | .control => .control
  | .lectern => .lectern

/-- Credential class codes. -/
def CredClass.code : CredClass → Nat
  | .none => 0
  | .unknown => 1
  | .group => 2
  | .staff => 3
  | .tech => 4

/-- The credential class of a role. -/
def Role.toClass : Role → CredClass
  | .staff => .staff
  | .tech => .tech

/-- Lockout level codes. -/
def Level.code : Level → Nat
  | .opened => 0
  | .lecture => 1
  | .secure => 2
  | .service => 3

/-- The lockout level with a code. -/
def Level.ofCode (n : Nat) : Option Level := [Level.opened, .lecture, .secure, .service][n]?

/-- Power state codes. -/
def PowerState.code : PowerState → Nat
  | .standby => 0
  | .starting => 1
  | .on => 2
  | .dimmed => 3
  | .stopping => 4
  | .shutdown => 5

/-- Lamp state codes. -/
def LampState.code : LampState → Nat
  | .dark => 0
  | .ignite => 1
  | .retryWait => 2
  | .warmup => 3
  | .lit => 4
  | .dimmed => 5
  | .cooldown => 6
  | .hot => 7
  | .out => 8

/-- Lamp plan codes. -/
def Plan.code : Plan → Nat
  | .dual => 0
  | .alternate => 1
  | .fixedA => 2
  | .fixedB => 3

/-- The lamp plan with a code. -/
def Plan.ofCode (n : Nat) : Option Plan := [Plan.dual, .alternate, .fixedA, .fixedB][n]?

/-- Lamp level codes. -/
def LampLevel.code : LampLevel → Nat
  | .full => 0
  | .eco => 1

/-- The lamp level with a code. -/
def LampLevel.ofCode (n : Nat) : Option LampLevel := [LampLevel.full, .eco][n]?

/-- Incident kind codes. -/
def IncidentKind.code : IncidentKind → Nat
  | .strikeFail => 0
  | .strikeExhausted => 1
  | .ballastFault => 2
  | .double => 3
  | .arcWeak => 4
  | .wakeLate => 5
  | .uncleanOff => 6
  | .wearWarn => 7
  | .wearEnd => 8
  | .expired => 9
  | .thermal => 10

/-- Incident class codes. -/
def IncidentClass.code : IncidentClass → Nat
  | .retry => 0
  | .note => 1
  | .abort => 2
  | .double => 3

/-- Signal state codes. -/
def SignalState.code : SignalState → Nat
  | .dormant => 0
  | .absent => 1
  | .acquiring => 2
  | .stable => 3
  | .unsupported => 4

/-- Switch outcome codes. -/
def SwitchOutcome.code : SwitchOutcome → Nat
  | .done => 0
  | .noSignal => 1
  | .superseded => 2
  | .deferralExpired => 3
  | .heldAtStart => 4

/-- Result codes (R10). -/
def Result.code : Result → Nat
  | .ok => 0
  | .accepted => 1
  | .denied => 2
  | .held => 3
  | .busy => 4
  | .unknownKind => 5
  | .badLength => 6
  | .badValue => 7
  | .state => 8
  | .limit => 9
  | .locked => 10
  | .needsTech => 11
  | .full => 12
  | .clockUnset => 13

/-- Demand codes (R91). -/
def Demand.code : Demand → Nat
  | .off => 0
  | .ignite => 1
  | .full => 2
  | .eco => 3
  | .dim => 4

/-- LAMP_STATE cause codes (R91). -/
def LampCause.code : LampCause → Nat
  | .start => 0
  | .strike => 1
  | .litSense => 2
  | .strikeFailed => 3
  | .exhausted => 4
  | .double => 5
  | .warmed => 6
  | .level => 7
  | .dim => 8
  | .undim => 9
  | .extinguish => 10
  | .fault => 11
  | .thermal => 12
  | .cooled => 13
  | .ready => 14
  | .holdRaised => 15
  | .call => 16
  | .release => 17
  | .unavailable => 18
  | .service => 19

/-- Reset cause codes (R195). -/
def ResetCause.code : ResetCause → Nat
  | .powerOn => 0
  | .supplyDip => 1
  | .resetLine => 2
  | .restart => 3

/-- POWER_STATE cause codes (R166). -/
def PowerCause.code : PowerCause → Nat
  | .start => 0
  | .request => 1
  | .lamps => 2
  | .idle => 3
  | .activity => 4
  | .thermal => 5
  | .service => 6

/-- POWER_STATE outcome codes (R166). -/
def PowerOutcome.code : PowerOutcome → Nat
  | .none => 0
  | .startFailed => 1
  | .degraded => 2

/-- INPUT_STATE cause codes (R124). -/
def InputCause.code : InputCause → Nat
  | .measurement => 0
  | .table => 1
  | .power => 2

/-- Fit and aspect mode codes (R127, R155). -/
def Fit.code : Fit → Nat
  | .fill => 0
  | .fit => 1
  | .native => 2

/-- GEOMETRY cause codes (R155). -/
def GeoCause.code : GeoCause → Nat
  | .request => 0
  | .source => 1
  | .start => 2
  | .startDefaulted => 3

/-- CREDENTIAL cause codes (R39). -/
def CredCause.code : CredCause → Nat
  | .presented => 0
  | .ended => 1
  | .expired => 2
  | .standby => 3

/-- LOCKOUT cause codes (R59). -/
def LockoutCause.code : LockoutCause → Nat
  | .request => 0
  | .escalation => 1
  | .scheduleRestore => 2
  | .start => 3

/-- RULE_EVENT event codes (R56). -/
def RuleEventKind.code : RuleEventKind → Nat
  | .limitReached => 0
  | .expired => 1

/-- CONFIRM event codes (R27). -/
def ConfirmEvent.code : ConfirmEvent → Nat
  | .opened => 0
  | .confirmed => 1
  | .expired => 2
  | .cancelledKey => 3
  | .cancelledState => 4

/-- THERMAL event codes (R116). -/
def ThermalEvent.code : ThermalEvent → Nat
  | .alarm => 0
  | .latched => 1
  | .recovered => 2
  | .shutdown => 3
  | .cleared => 4

/-- Time mode codes (R18). -/
def TimeMode.code : TimeMode → Nat
  | .off => 0
  | .atBound => 1
  | .inside => 2
  | .outside => 3

/-- The time mode with a code. -/
def TimeMode.ofCode (n : Nat) : Option TimeMode := [TimeMode.off, .atBound, .inside, .outside][n]?

/-- Rule verdict codes (R18). -/
def RuleVerdict.code : RuleVerdict → Nat
  | .permit => 0
  | .deny => 1
  | .continue => 2

/-- The rule verdict with a code. -/
def RuleVerdict.ofCode (n : Nat) : Option RuleVerdict := [RuleVerdict.permit, .deny, .continue][n]?

/-- Priority mode codes (R18). -/
def PriorityMode.code : PriorityMode → Nat
  | .keep => 0
  | .atLeast => 1
  | .atMost => 2
  | .set => 3

/-- The priority mode with a code. -/
def PriorityMode.ofCode (n : Nat) : Option PriorityMode :=
  [PriorityMode.keep, .atLeast, .atMost, .set][n]?

/-- Map mode codes (R18). -/
def MapMode.code : MapMode → Nat
  | .keep => 0
  | .add => 1
  | .mask => 2
  | .set => 3

/-- The map mode with a code. -/
def MapMode.ofCode (n : Nat) : Option MapMode := [MapMode.keep, .add, .mask, .set][n]?

/-- Counter mode codes (R18). -/
def CounterMode.code : CounterMode → Nat
  | .none => 0
  | .countUp => 1
  | .countDown => 2

/-- The counter mode with a code. -/
def CounterMode.ofCode (n : Nat) : Option CounterMode :=
  [CounterMode.none, .countUp, .countDown][n]?

/-- Counter unit codes (R18). -/
def CounterUnit.code : CounterUnit → Nat
  | .seconds => 0
  | .minutes => 1

/-- The counter unit with a code. -/
def CounterUnit.ofCode (n : Nat) : Option CounterUnit := [CounterUnit.seconds, .minutes][n]?

/-- Action codes (R19). -/
def Action.code : Action → Nat
  | .powerOn => 0
  | .powerOff => 1
  | .selectInput => 2
  | .setLockout => 3
  | .recallGeometry => 4
  | .setLampLevel => 5
  | .setRule => 6
  | .notice => 7

/-- The action with a code. -/
def Action.ofCode (n : Nat) : Option Action :=
  [Action.powerOn, .powerOff, .selectInput, .setLockout, .recallGeometry, .setLampLevel, .setRule,
    .notice][n]?

/-- Disposition codes (R188). -/
def Disposition.code : Disposition → Nat
  | .fired => 0
  | .suppressed => 1

/-- The input with a number. -/
def inputOf (n : Nat) : Option InputId := if h : n < 8 then some ⟨n, h⟩ else none

/-- The rule with an index. -/
def ruleOf (n : Nat) : Option RuleId := if h : n < 16 then some ⟨n, h⟩ else none

/-! ## Kinds and lengths (R10) -/

/-- The payload lengths of the operational kinds 0x10 to 0x1B (R10). -/
def operationalLengths : List Nat := [0, 0, 1, 1, 3, 5, 1, 1, 1, 1, 6, 0]

/-- The payload lengths of the management kinds 0x20 to 0x3D, from the owning chapters. -/
def managementLengths : List Nat :=
  [0, 1, 1, 1, 1, 1, 24, 2, 8, 1] ++ [9, 0, 9, 1, 10, 0, 6, 0, 7, 1]
  ++ [13, 1, 3, 0, 1, 1, 1, 1, 3, 0]

/-- The fixed payload length of a request kind, or `none` for a kind that is none of the 42 (R5, R10). -/
def requestLength (kind : Byte) : Option Nat :=
  if kind.toNat < 0x10 then none
  else if kind.toNat < 0x20 then operationalLengths[kind.toNat - 0x10]?
  else managementLengths[kind.toNat - 0x20]?

/-- Whether a kind is a management kind (R10). -/
def isManagement (kind : Byte) : Bool := 0x20 ≤ kind.toNat && kind.toNat ≤ 0x3D

/-- The reply kind of a request kind (R5). -/
def replyKind (kind : Byte) : Byte := if kind.toNat < 0x80 then kind + 0x80 else 0xFF

/-- The place of a report kind: report 0x60 + n is bit n of a report mask (R10, R13). -/
def Report.index : Report → Nat
  | .start _ => 0
  | .powerState _ => 1
  | .lampState _ => 2
  | .incident _ _ => 3
  | .inputState _ => 4
  | .switchDone _ => 5
  | .geometry _ => 6
  | .credential _ => 7
  | .lockout _ => 8
  | .ruleEvent _ => 9
  | .scheduleFired _ => 10
  | .notice _ => 11
  | .confirm _ => 12
  | .thermal _ => 13

/-- The report kind code (R10). -/
def Report.kind (r : Report) : Byte := byte (0x60 + r.index)

/-! ## Record and report layouts -/

/-- A date-time in seven bytes (R21, R179). -/
def DateTime.bytes (t : DateTime) : List Byte :=
  be16 t.date.year
    ++ [byte t.date.month, byte t.date.day, byte t.hour, byte t.minute, byte t.second]

/-- The incident record of R21, 15 bytes. -/
def Incident.bytes (r : Incident) : List Byte :=
  [byte r.kind.code, byte r.cls.code, byte r.lampState.code] ++ be32 r.wear
    ++ match r.time with
      | some t => 1 :: t.bytes
      | none => List.replicate 8 0

/-- A point, x before y, two bytes each (R155). -/
def Point.bytes (p : Point) : List Byte := signed16 p.x ++ signed16 p.y

/-- A quad, TL, TR, BR, BL (R155). -/
def Quad.bytes (q : Quad) : List Byte := q.tl.bytes ++ q.tr.bytes ++ q.br.bytes ++ q.bl.bytes

/-- An optional requester class, 0xFF for none (R166). -/
def classByte : Option ReqClass → Byte
  | some c => byte c.code
  | none => 0xFF

/-- The format index field, 0xFF when there is none (R124). -/
def formatByte : Option (Fin 16) → Byte
  | some f => byte f.val
  | none => 0xFF

/-- The link and tag fields of SWITCH_DONE (R139). -/
def originBytes : Option (Link × Byte) → List Byte
  | some (l, t) => [byte (Link.code l), t]
  | none => [0xFF, 0]

/-- The START payload (R196). -/
def StartReport.bytes (r : StartReport) : List Byte :=
  [byte r.cause.code, flagByte r.settingsDefaulted, flagByte r.lampDefaulted, flagByte r.clockKept,
    flagByte r.litA, flagByte r.litB]

/-- The POWER_STATE payload (R166). -/
def PowerReport.bytes (r : PowerReport) : List Byte :=
  [byte r.state.code, byte r.previous.code, byte r.cause.code, byte r.outcome.code, flagByte r.intent,
    classByte r.intentClass, byte r.intentPriority, flagsByte [r.calledA, r.calledB],
    flagByte r.degraded, flagByte r.idleExpired, byte r.plan.code]

/-- The LAMP_STATE payload (R91). -/
def LampReport.bytes (r : LampReport) : List Byte :=
  [byte (lampCode r.lamp), byte r.state.code, byte r.previous.code, byte r.cause.code,
    byte r.demand.code, r.flags, byte r.attempts, byte r.limit]

/-- The INPUT_STATE payload (R124). -/
def InputReport.bytes (r : InputReport) : List Byte :=
  [byte r.input.val, byte r.state.code, byte r.previous.code, byte r.cause.code, formatByte r.format]
    ++ be16 r.width ++ be16 r.height ++ be16 r.rate

/-- The SWITCH_DONE payload (R139). -/
def SwitchReport.bytes (r : SwitchReport) : List Byte :=
  [byte r.input.val, byte r.outcome.code, byte r.cls.code, byte r.priority] ++ originBytes r.origin
    ++ [byte r.selected.val, byte r.signal.code, formatByte r.format]

/-- The GEOMETRY payload (R155). -/
def GeoReport.bytes (r : GeoReport) : List Byte :=
  [byte r.cause.code, flagByte r.deferred, byte r.input.val, byte r.fit.code, signed8 r.v, signed8 r.h]
    ++ r.sent.quad.bytes ++ be16 r.sent.area ++ r.sent.pictureQuad.bytes ++ be16 r.sent.pictureArea

/-- The CREDENTIAL payload (R39). -/
def CredReport.bytes (r : CredReport) : List Byte :=
  [byte r.cause.code, byte r.cls.code, byte r.previous.code, byte (Link.code r.link), byte r.minutes]
    ++ be48 r.token

/-- The LOCKOUT payload (R59). -/
def LockoutReport.bytes (r : LockoutReport) : List Byte :=
  [byte r.cause.code, byte r.level.code, byte r.previous.code, r.source]

/-- The RULE_EVENT payload (R56). -/
def RuleReport.bytes (r : RuleReport) : List Byte :=
  [byte r.rule.val, byte r.event.code]
    ++ (match r.origin with
      | some (c, k) => [byte c.code, k]
      | none => [0xFF, 0xFF])
    ++ [flagByte r.escalated, byte r.level.code]

/-- The SCHEDULE_FIRED payload (R188). -/
def FiredReport.bytes (r : FiredReport) : List Byte :=
  [byte r.entry, byte r.disposition.code, byte r.action.code, byte r.arg1, byte r.arg2, byte r.priority,
    (match r.result with
      | some x => byte x.code
      | none => 0xFF),
    r.deciding] ++ be16 r.minute

/-- The NOTICE payload (R187). -/
def NoticeReport.bytes (r : NoticeReport) : List Byte := [byte r.code, byte r.entry] ++ be16 r.minute

/-- The CONFIRM payload (R27). -/
def ConfirmReport.bytes (r : ConfirmReport) : List Byte :=
  [byte r.source.code, byte r.event.code, byte r.state.code]

/-- The THERMAL payload (R116). -/
def ThermalReport.bytes (r : ThermalReport) : List Byte :=
  [byte r.event.code, flagByte r.input, flagByte r.recovery, flagByte r.latch]

/-- The payload of a report, by its owning chapter. -/
def Report.payload : Report → List Byte
  | .start r => r.bytes
  | .powerState r => r.bytes
  | .lampState r => r.bytes
  | .incident x r => byte (lampCode x) :: r.bytes
  | .inputState r => r.bytes
  | .switchDone r => r.bytes
  | .geometry r => r.bytes
  | .credential r => r.bytes
  | .lockout r => r.bytes
  | .ruleEvent r => r.bytes
  | .scheduleFired r => r.bytes
  | .notice r => r.bytes
  | .confirm r => r.bytes
  | .thermal r => r.bytes

/-- The body of an outgoing frame: reply kind, tag, result and payload (R7), or report kind, sequence
number and payload (R9). -/
def OutFrame.body : OutFrame → List Byte
  | .reply r => r.kind :: r.tag :: byte r.result.code :: r.payload
  | .report n r => r.kind :: n :: r.payload

/-- The sum of bytes modulo 256 (R1). -/
def byteSum (bs : List Byte) : Byte := bs.foldl (· + ·) 0

/-- A whole frame around a body: sync, length, body and check (R1). -/
def frameOf (body : List Byte) : List Byte :=
  0x5A :: byte body.length :: body ++ [-(byteSum (byte body.length :: body))]

/-- The bytes that the outgoing line carries for a frame (R1). -/
def OutFrame.bytes (f : OutFrame) : List Byte := frameOf f.body

/-! ## The central records of section 1.6 -/

/-- The 21-byte rule record (R18), with the counter's current value. -/
def ruleRecord (r : Rule) (value : Nat) : List Byte :=
  [flagsByte [r.enabled, r.escalate], byte r.requesters.toNat] ++ be16 r.kinds.toNat
    ++ [byte r.credential.toNat, byte r.timeMode.code] ++ be16 r.timeMin ++ be16 r.timeMax
    ++ [byte r.verdict.code, byte r.priorityMode.code, byte r.priority, byte r.mapMode.code,
      byte r.map.toNat, byte r.counterMode.code, byte r.unit.code] ++ be16 r.limit ++ be16 value

/-- The 8-byte schedule entry record (R19). -/
def Entry.record (e : Entry) : List Byte :=
  [flagsByte [e.enabled], byte e.days.toNat] ++ be16 e.minute
    ++ [byte e.action.code, byte e.arg1, byte e.arg2, byte e.priority]

/-- The 8 bytes of a card table entry (R33). -/
def Card.record (c : Card) : List Byte :=
  flagByte c.enabled :: be48 c.token ++ [byte c.role.toClass.code]

/-- The 12 bytes of a format table entry (R126). -/
def Format.record (f : Format) : List Byte :=
  flagByte f.enabled :: be16 f.width ++ be16 f.height ++ be16 f.rateMin ++ be16 f.rateMax
    ++ match f.aspect with
      | some (n, d) => [1, byte n, byte d]
      | none => [0, 0, 0]

/-- The offsets of geometry values, TL, TR, BR, BL, dx before dy (R158). -/
def GeoValues.offsetBytes (g : GeoValues) : List Byte :=
  g.tl.bytes ++ g.tr.bytes ++ g.br.bytes ++ g.bl.bytes

/-- One exception record, 5 bytes (R184). -/
def ExceptionRecord.bytes (e : ExceptionRecord) : List Byte :=
  be16 e.date.year ++ [byte e.date.month, byte e.date.day, byte e.actions.toNat]

end Sys2Proof.Machine
end

