-- ==== Sys2Proof/Machine/Flags.lean ====
section
/-! DEFINITION. The flag bytes of the link formats, and the flags that the manual defines by a condition:
available, alight, the wear thresholds. -/

namespace Sys2Proof.Machine

/-- A lamp is available when its out flag and its expired flag are clear (chapter 4). -/
def Lamp.available (m : Lamp) : Bool := !m.out && !m.expired

/-- A lamp is alight in IGNITE, WARMUP, LIT or DIMMED (chapter 4). -/
def LampState.alight : LampState → Bool
  | .ignite | .warmup | .lit | .dimmed => true
  | .dark | .retryWait | .cooldown | .hot | .out => false

/-- The states in which lit time accrues (R94). -/
def LampState.burning : LampState → Bool
  | .warmup | .lit | .dimmed => true
  | .dark | .ignite | .retryWait | .cooldown | .hot | .out => false

/-- The states whose lit flag the lamp record writes set (R101). -/
def LampState.litFlag : LampState → Bool
  | .ignite | .retryWait | .warmup | .lit | .dimmed => true
  | .dark | .cooldown | .hot | .out => false

/-- The states that keep STOPPING from STANDBY (R164). -/
def LampState.busy : LampState → Bool
  | .ignite | .warmup | .lit | .dimmed | .cooldown => true
  | .dark | .retryWait | .hot | .out => false

/-- The demand of a lamp state under a lamp level (R67). -/
def demandOf (st : LampState) (lv : LampLevel) : Demand :=
  match st with
  | .ignite => .ignite
  | .warmup => .full
  | .lit => match lv with
    | .full => .full
    | .eco => .eco
  | .dimmed => .dim
  | .dark | .retryWait | .cooldown | .hot | .out => .off

/-- The flags byte of the lamp record and of LAMP_STATE (R20, R91). -/
def Lamp.flags (m : Lamp) : Byte :=
  flagsByte [m.expired, m.out, m.wearUnknown, m.pendingOff, m.waiting, m.warning, m.endOfLife]

/-- The flags byte of the group filter (R34). -/
def FilterFlags.flags (f : FilterFlags) : Byte := flagsByte [f.personalByBins, f.inverse, f.acceptAll]

/-- The flags byte of the status record (R17). -/
def statusFlags (s : State) : Byte :=
  flagsByte [s.sw.mute, s.recovery, s.latch, s.clock.isSome, s.conf.lock.on, s.power.idleExpired,
    s.control.lost, s.lectern.lost]

/-- The class of an incident, by its kind and the lamp state of the record (R105). -/
def IncidentKind.classIn (k : IncidentKind) (st : LampState) : IncidentClass :=
  match k with
  | .strikeFail => .retry
  | .ballastFault => if st = .ignite then .retry else .abort
  | .strikeExhausted => .abort
  | .double => .double
  | .arcWeak | .wearWarn | .wearEnd | .wakeLate | .uncleanOff | .thermal => .note
  | .expired => .abort

end Sys2Proof.Machine
end

