-- ==== Sys2Proof/Machine/Ops.lean ====
section
/-! DEFINITION. The named operations that every command is written over: timers, setting items, the links
(queues, reports, replies), the lamps with their lines, and the switch unit with its lines. -/

namespace Sys2Proof.Machine

/-! ## Timers -/

/-- One ms passes on a timer; it stays at 0 until the command of its expiry (assumption 3). -/
def Timer.tick (t : Timer) : Timer := t.map (· - 1)

/-- The time to go on a timer, 0 when it is stopped. -/
def Timer.toGo (t : Timer) : Nat := t.getD 0

/-! ## Setting items (R194) -/

/-- The value of a setting item. -/
def State.item (s : State) (n : Fin 104) : Nat := s.conf.items.get n

/-- The number of a per-input item of R128: 64 aspect mode, 72 auto rank, 80 scan base, 88 scan
multiplicand, 96 scan multiple. -/
def inputItem (first : Nat) (h : first ≤ 96) (i : InputId) : Fin 104 := ⟨first + i.val, by omega⟩

/-- The report mask of a link: items 1 and 2 (R13). -/
def State.mask (s : State) : Link → Nat
  | .control => s.item 1
  | .lectern => s.item 2

/-- The aspect mode of an input: items 64..71 (R128). -/
def State.aspectMode (s : State) (i : InputId) : Fit :=
  match s.item (inputItem 64 (by decide) i) with
  | 0 => .fill
  | 1 => .fit
  | _ => .native

/-- The auto rank of an input: items 72..79 (R128). -/
def State.autoRank (s : State) (i : InputId) : Nat := s.item (inputItem 72 (by decide) i)

/-- The scan base of an input: items 80..87 (R172). -/
def State.scanBase (s : State) (i : InputId) : Nat := s.item (inputItem 80 (by decide) i)

/-- The scan range of an input: multiplicand times multiple (R172). -/
def State.scanRange (s : State) (i : InputId) : Nat :=
  s.item (inputItem 88 (by decide) i) * s.item (inputItem 96 (by decide) i)

/-- The hold time of a requester class in ms: items 16..21 in class code order (R194). -/
def State.holdTimeMs (s : State) (c : ReqClass) : Nat :=
  1000 * match c with
    | .control => s.item 16
    | .lectern => s.item 17
    | .panel => s.item 18
    | .remote => s.item 19
    | .schedule => s.item 20
    | .auto => s.item 21

/-- The restrike hold in ms: the greater of the restrike interval and the cooldown time (R82). -/
def State.restrikeHold (s : State) : Nat := 1000 * max (s.item 8) (s.item 7)

/-- The interval of a scan group in ms: 0.25 s doubled as often as its code says (R172). -/
def State.scanIntervalMs (s : State) (g : GroupId) : Nat :=
  250 * 2 ^ s.item (if g = 0 then 34 else 37)

/-- The member set of a scan group: items 33 and 36. -/
def State.scanMembers (s : State) (g : GroupId) : Nat := s.item (if g = 0 then 33 else 36)

/-- Whether a scan group's wake is enabled: items 35 and 38. -/
def State.scanWake (s : State) (g : GroupId) : Bool := s.item (if g = 0 then 35 else 38) != 0

/-! ## The links -/

/-- A link's state. -/
def State.link (s : State) : Link → LinkState
  | .control => s.control
  | .lectern => s.lectern

/-- Replaces a link's state. -/
def State.setLink (s : State) (l : Link) (k : LinkState) : State :=
  match l with
  | .control => { s with control := k }
  | .lectern => { s with lectern := k }

/-- A reply joins the reply list at the newest end (R8); one that finds the list full is owed until a
place is free (assumption 9). -/
def LinkState.addReply (k : LinkState) (r : Reply) : LinkState :=
  if k.replies.length < Config.replyPlaces then { k with replies := k.replies ++ [r] }
  else { k with owed := some r }

/-- An owed reply takes the place that has become free (assumption 9). -/
def LinkState.settleOwed (k : LinkState) : LinkState :=
  match k.owed with
  | some r =>
    if k.replies.length < Config.replyPlaces then { k with replies := k.replies ++ [r], owed := none }
    else k
  | none => k

/-- A free outgoing line takes the oldest reply, or else the oldest report, or stays idle (R12). -/
def LinkState.fillLine (k : LinkState) : LinkState :=
  match k.sending with
  | some _ => k
  | none =>
    match k.replies with
    | r :: rest => { k with sending := some (.reply r), replies := rest }.settleOwed
    | [] =>
      match k.reports with
      | (n, r) :: rest => { k with sending := some (.report n r), reports := rest }
      | [] => k

/-- A reply is produced: it joins the list, and an idle line sends it at once (R8, R12). -/
def LinkState.reply (k : LinkState) (r : Reply) : LinkState := (k.addReply r).fillLine

/-- A report reaches a link (R11): it takes the sequence number, and joins the queue or is lost. -/
def LinkState.takeReport (k : LinkState) (r : Report) : LinkState :=
  if k.reports.length < Config.reportPlaces then
    { k with sequence := k.sequence + 1, reports := k.reports ++ [(k.sequence + 1, r)] }
  else { k with sequence := k.sequence + 1, lost := true }

/-- A report is offered to a link (R9): START whatever the mask holds, any other by its mask bit. -/
def LinkState.offer (k : LinkState) (mask : Nat) (r : Report) : LinkState :=
  if r.index = 0 ∨ mask.testBit r.index then (k.takeReport r).fillLine else k

/-- A block produces a report: it is offered to each link (R9). -/
def State.offer (s : State) (r : Report) : State :=
  { s with control := s.control.offer (s.mask .control) r
           lectern := s.lectern.offer (s.mask .lectern) r }

/-- The reply to a request is produced on its link (R8). -/
def State.reply (s : State) (l : Link) (r : Reply) : State := s.setLink l ((s.link l).reply r)

/-- The framing error count goes up by one, saturating (R3). -/
def LinkState.countError (k : LinkState) : LinkState :=
  { k with errors := min (k.errors + 1) Config.errorTop }

/-! ## The lamps -/

/-- The other lamp. -/
def otherLamp : LampId → LampId
  | .a => .b
  | .b => .a

/-- A lamp channel. -/
def State.lamp (s : State) : LampId → Lamp
  | .a => s.lampA
  | .b => s.lampB

/-- Replaces a lamp channel, leaving the lines alone. -/
def State.setLamp (s : State) (x : LampId) (m : Lamp) : State :=
  match x with
  | .a => { s with lampA := m }
  | .b => { s with lampB := m }

/-- Drives the fan line: asserted while any lamp is in COOLDOWN or recovery is active (R69). -/
def State.driveFan (s : State) : State :=
  { s with fan := s.lampA.state == .cooldown || s.lampB.state == .cooldown || s.recovery }

/-- A lamp channel changes: its demand line follows its state (R67), its wake timer stops once it is
out of LIT (R170), and the fan line follows (R69). -/
def State.putLamp (s : State) (x : LampId) (m : Lamp) : State :=
  (s.setLamp x
    { m with demand := demandOf m.state s.conf.lampLevel
             wakeTimer := if m.state = .lit then m.wakeTimer else none }).driveFan

/-- The report of a change of a lamp (R91). -/
def lampReport (x : LampId) (m : Lamp) (previous : LampState) (cause : LampCause) : Report :=
  .lampState
    { lamp := x, state := m.state, previous := previous, cause := cause, demand := m.demand,
      flags := m.flags, attempts := m.attempts,
      limit := if m.called || m.state.alight then m.limit else 0 }

/-- Offers LAMP_STATE for a lamp as it now stands (R91). -/
def State.reportLamp (s : State) (x : LampId) (previous : LampState) (cause : LampCause) : State :=
  s.offer (lampReport x (s.lamp x) previous cause)

/-- How many lamps are called. -/
def State.calledCount (s : State) : Nat := s.lampA.called.toNat + s.lampB.called.toNat

/-- Sets or clears thermal recovery; the fan line follows (R69). -/
def State.setRecovery (s : State) (b : Bool) : State := { s with recovery := b }.driveFan

/-! ## The switch unit -/

/-- Drives the select lines and the blank line (R129). -/
def SwitchUnit.drive (u : SwitchUnit) : SwitchUnit :=
  { u with
    selectLines := match u.inFlight with
      | some w => if w.phase = .blank then u.selected else w.target
      | none => u.selected
    blankLine := u.inFlight.isSome || u.mute }

/-- The switch unit changes, and its lines with it (R129). -/
def State.putSwitch (s : State) (u : SwitchUnit) : State := { s with sw := u.drive }

/-- The monitor's record of an input. -/
def State.input (s : State) (i : InputId) : InputRecord := s.inputs.get i

/-- Replaces the monitor's record of an input. -/
def State.setInput (s : State) (i : InputId) (r : InputRecord) : State :=
  { s with inputs := s.inputs.set i.val r i.isLt }

/-- The format index of an input, where it is STABLE (section 7.1). -/
def State.formatIndex (s : State) (i : InputId) : Option (Fin 16) :=
  if (s.input i).signal = .stable then (s.input i).format else none

/-- Whether the selected input is STABLE. -/
def State.selectedStable (s : State) : Bool := (s.input s.sw.selected).signal == .stable

/-! ## The credential hold and the clock as other blocks read them -/

/-- The class of the credential hold, NONE when it is absent (section 2.6). -/
def State.holdClass (s : State) : CredClass :=
  match s.hold with
  | some h => h.cls
  | none => .none

/-- Whether a TECH hold stands (R6). -/
def State.techHold (s : State) : Bool := s.holdClass == .tech

/-- Minutes remaining of a hold: its time still to run in whole minutes rounded up, at least 1 while it
stands (R37, assumption 27). -/
def Hold.minutes (h : Hold) : Nat := max 1 ((h.left + 59999) / 60000)

/-- The date-time that an incident record takes: absent while the clock is unset (R104). -/
def State.dateTime (s : State) : Option DateTime := s.clock.map (·.now)

end Sys2Proof.Machine
end

