-- ==== Sys2Proof/Machine/Calendar.lean ====
section
/-! DEFINITION. The calendar of R178: month lengths, the day of the week, the minute-of-week, and the
minute that follows. -/

namespace Sys2Proof.Machine

/-- Whether a year from 2000 to 2099 has 29 days in February (R178). -/
def leapYear (y : Nat) : Bool := y % 4 == 0

/-- The length of a month (R178). -/
def monthLength (y m : Nat) : Nat :=
  if m = 2 then (if leapYear y then 29 else 28)
  else if m = 4 ∨ m = 6 ∨ m = 9 ∨ m = 11 then 30 else 31

/-- The months of a year before month `m`, in days. -/
def daysBefore (y : Nat) : Nat → Nat
  | 0 => 0
  | m + 1 => daysBefore y m + (if m = 0 then 0 else monthLength y m)

/-- Days from 2000-01-01 to a date. -/
def Date.dayNumber (d : Date) : Nat :=
  (d.year - 2000) * 365 + (d.year - 2000 + 3) / 4 + daysBefore d.year d.month + (d.day - 1)

/-- The day of the week, Monday 0 to Sunday 6; 2000-01-01 was a Saturday (R178). -/
def Date.weekday (d : Date) : Nat := (d.dayNumber + 5) % 7

/-- The minute of the day. -/
def DateTime.minuteOfDay (t : DateTime) : Nat := t.hour * 60 + t.minute

/-- The minute-of-week, 0..10079 (R178). -/
def DateTime.minuteOfWeek (t : DateTime) : Nat := t.date.weekday * 1440 + t.minuteOfDay

/-- The minute-of-week of a set clock. -/
def State.minuteOfWeek (s : State) : Option Nat := s.clock.map (·.now.minuteOfWeek)

/-- Whether a date comes before another. -/
def Date.before (d e : Date) : Bool :=
  d.year < e.year
    || (d.year == e.year && (d.month < e.month || (d.month == e.month && d.day < e.day)))

/-- A valid date from 2000-01-01 to 2099-12-31 (R179). -/
def Date.valid (d : Date) : Bool :=
  2000 ≤ d.year && d.year ≤ 2099 && 1 ≤ d.month && d.month ≤ 12 && 1 ≤ d.day
    && d.day ≤ monthLength d.year d.month

/-- A valid date and time of day (R178, R179). -/
def DateTime.valid (t : DateTime) : Bool :=
  t.date.valid && t.hour ≤ 23 && t.minute ≤ 59 && t.second ≤ 59

/-- The date after a date. -/
def Date.next (d : Date) : Date :=
  if d.day < monthLength d.year d.month then { d with day := d.day + 1 }
  else if d.month < 12 then ⟨d.year, d.month + 1, 1⟩
  else ⟨d.year + 1, 1, 1⟩

/-- The last minute the clock can hold: 2099-12-31 23:59 (R178). -/
def DateTime.lastMinute (t : DateTime) : Bool :=
  t.date == ⟨2099, 12, 31⟩ && t.hour == 23 && t.minute == 59

/-- The start of the minute after the one that stands. -/
def DateTime.nextMinute (t : DateTime) : DateTime :=
  if t.minute < 59 then { t with minute := t.minute + 1, second := 0 }
  else if t.hour < 23 then { t with hour := t.hour + 1, minute := 0, second := 0 }
  else ⟨t.date.next, 0, 0, 0⟩

/-- Whether a date-time is a midnight (R178). -/
def DateTime.midnight (t : DateTime) : Bool := t.hour == 0 && t.minute == 0 && t.second == 0

end Sys2Proof.Machine
end

