-- ==== Sys2Proof/Machine/Geometry.lean ====
section
/-! DEFINITION. The geometry computation in its five stages (R146 to R151), and the scaler update
(R152 to R155). -/

namespace Sys2Proof.Machine

/-! ## Stages 1 to 3 -/

/-- A value brought into a range (00_scope.md: saturates). -/
def saturate (lo hi n : Int) : Int := max lo (min hi n)

/-- Stage 1: the corner points that keystone V and H give (R146). The part of V or H of the other sign
moves nothing. -/
def keystoneQuad (v h : Int) : Quad :=
  { tl := ⟨9 * max v 0, 6 * max (-h) 0⟩
    tr := ⟨1920 - 9 * max v 0, 6 * max h 0⟩
    br := ⟨1920 - 9 * max (-v) 0, 1200 - 6 * max h 0⟩
    bl := ⟨9 * max (-v) 0, 1200 - 6 * max (-h) 0⟩ }

/-- Stage 2 for one corner: the offset is added and the point clamped to the panel (R147). -/
def Point.offset (p d : Point) : Point := ⟨saturate 0 1920 (p.x + d.x), saturate 0 1200 (p.y + d.y)⟩

/-- Stages 1 and 2: the quad of geometry values (R146, R147). -/
def GeoValues.quad (g : GeoValues) : Quad :=
  let q := keystoneQuad g.v g.h
  { tl := q.tl.offset g.tl, tr := q.tr.offset g.tr, br := q.br.offset g.br, bl := q.bl.offset g.bl }

/-- The edge from one point to another. -/
def Point.edgeTo (p q : Point) : Point := ⟨q.x - p.x, q.y - p.y⟩

/-- The convexity quantity e1.x e2.y - e1.y e2.x (R148). -/
def cross (e f : Point) : Int := e.x * f.y - e.y * f.x

/-- The edge test (R148). -/
def Quad.edgesOk (q : Quad) : Bool :=
  960 ≤ q.tr.x - q.tl.x && 960 ≤ q.br.x - q.bl.x && 600 ≤ q.bl.y - q.tl.y && 600 ≤ q.br.y - q.tr.y

/-- The convexity test at TL, TR, BR and BL (R148). -/
def Quad.convex (q : Quad) : Bool :=
  0 < cross (q.bl.edgeTo q.tl) (q.tl.edgeTo q.tr) && 0 < cross (q.tl.edgeTo q.tr) (q.tr.edgeTo q.br)
    && 0 < cross (q.tr.edgeTo q.br) (q.br.edgeTo q.bl)
    && 0 < cross (q.br.edgeTo q.bl) (q.bl.edgeTo q.tl)

/-- One term of the shoelace sum (R148). -/
def Point.shoelace (p q : Point) : Int := p.x * q.y - q.x * p.y

/-- The doubled area (R148). -/
def Quad.area2 (q : Quad) : Int :=
  q.tl.shoelace q.tr + q.tr.shoelace q.br + q.br.shoelace q.bl + q.bl.shoelace q.tl

/-- Area permille of a doubled area (R148). -/
def permille (a : Int) : Nat := (a * 1000 / 4608000).toNat

/-- The geometry area of a quad (R148). -/
def Quad.area (q : Quad) : Nat := permille q.area2

/-- Stage 3 under a minimum area: edges, then convexity, then area (R148). -/
def Quad.valid (q : Quad) (minimum : Nat) : Bool := q.edgesOk && q.convex && decide (minimum ≤ q.area)

/-! ## Stages 4 and 5 -/

/-- A division rounded half up (R151). -/
def roundDiv (n d : Nat) : Nat := (2 * n + d) / (2 * d)

/-- A rectangle of a width and height, centred on the panel (R150). -/
def centred (w h : Nat) : Rect := ⟨(1920 - w) / 2, (1200 - h) / 2, w, h⟩

/-- The rectangle fitted to an aspect (R150). -/
def fitted (aw ah : Nat) : Rect :=
  if ah * 1920 ≤ aw * 1200 then centred 1920 (roundDiv (1920 * ah) aw)
  else centred (roundDiv (1200 * aw) ah) 1200

/-- The full panel rectangle (R150). -/
def fullRect : Rect := ⟨0, 0, 1920, 1200⟩

/-- The aspect of a STABLE input's format: its override, else width to height (R125). -/
def Format.ratio (f : Format) : Nat × Nat := f.aspect.getD (f.width, f.height)

/-- The format of an input that is STABLE. -/
def State.stableFormat (s : State) (i : InputId) : Option Format :=
  (s.formatIndex i).map (s.conf.formats.get ·)

/-- Stage 4: the picture rectangle and the fit applied (R150). -/
def State.pictureRect (s : State) : Rect × Fit :=
  match s.stableFormat s.sw.selected with
  | none => (fullRect, .fill)
  | some f =>
    match s.aspectMode s.sw.selected with
    | .fill => (fullRect, .fill)
    | .fit => (fitted f.ratio.1 f.ratio.2, .fit)
    | .native =>
      if f.width ≤ 1920 ∧ f.height ≤ 1200 then (centred f.width f.height, .native)
      else (fitted f.ratio.1 f.ratio.2, .fit)

/-- Stage 5 for one coordinate: the weighted sum of the four corner coordinates, rounded half up (R151). -/
def weighted (tl tr br bl : Int) (x y : Nat) : Int :=
  (tl * ((1920 - x) * (1200 - y)) + tr * (x * (1200 - y)) + br * (x * y) + bl * ((1920 - x) * y)
    + 1152000) / 2304000

/-- Stage 5 for one point of the panel frame (R151). -/
def Quad.mapPoint (q : Quad) (x y : Nat) : Point :=
  ⟨weighted q.tl.x q.tr.x q.br.x q.bl.x x y, weighted q.tl.y q.tr.y q.br.y q.bl.y x y⟩

/-- Stage 5: the picture quad of a rectangle (R151). -/
def Quad.mapRect (q : Quad) (r : Rect) : Quad :=
  { tl := q.mapPoint r.x0 r.y0
    tr := q.mapPoint (r.x0 + r.w) r.y0
    br := q.mapPoint (r.x0 + r.w) (r.y0 + r.h)
    bl := q.mapPoint r.x0 (r.y0 + r.h) }

/-- The eight coordinates of a quad. -/
def Quad.coordinates (q : Quad) : List Int := [q.tl.x, q.tl.y, q.tr.x, q.tr.y, q.br.x, q.br.y, q.bl.x, q.bl.y]

/-- The picture area (R151). Where rounding has turned a thin picture quad over and its shoelace sum is
negative, the manual states no figure and the value is free within 0..1000 (assumption 19). -/
def pictureAreaOf (q : Quad) : Nat :=
  if 0 ≤ q.area2 then q.area else (Config.unstatedPictureArea q.coordinates).toNat % 1001

/-- Stages 4 and 5 run for the selected input, from the geometry quad in force (R150, R151). -/
def State.runPicture (s : State) : State :=
  { s with
    geo :=
      { s.geo with
        rect := s.pictureRect.1
        fit := s.pictureRect.2
        pictureQuad := s.geo.quad.mapRect s.pictureRect.1
        pictureArea := pictureAreaOf (s.geo.quad.mapRect s.pictureRect.1)
        input := s.sw.selected } }

/-! ## The scaler update -/

/-- The update that the figures in force make (R153). -/
def GeometryUnit.update (g : GeometryUnit) : ScalerUpdate := ⟨g.quad, g.area, g.pictureQuad, g.pictureArea⟩

/-- The update goes to the scaler with its GEOMETRY report (R153, R154, R155). -/
def State.sendUpdate (s : State) (cause : GeoCause) (deferred : Bool) : State :=
  { s with scaler := s.geo.update, geo := { s.geo with deferred := false } }.offer
    (.geometry
      { cause := cause, deferred := deferred, input := s.geo.input, fit := s.geo.fit,
        v := s.conf.geometry.v, h := s.conf.geometry.h, sent := s.geo.update })

/-- An update is due: it is sent, or deferred while a switch is in flight (R153, R154). -/
def State.dueUpdate (s : State) (cause : GeoCause) : State :=
  if s.sw.inFlight.isSome then { s with geo := { s.geo with deferred := true } }
  else s.sendUpdate cause false

/-- A source event reaches the geometry unit (R152). -/
def State.sourceEvent (s : State) : State := s.runPicture.dueUpdate .source

/-- A valid candidate becomes the geometry in force, and stages 4 and 5 run (R149). -/
def State.adoptGeometry (s : State) (g : GeoValues) : State :=
  { s with
    conf := { s.conf with geometry := g }
    geo := { s.geo with quad := g.quad, area := g.quad.area } }.runPicture

/-- Whether a candidate passes stage 3 under the minimum area in force (R148). -/
def State.geometryOk (s : State) (g : GeoValues) : Bool := g.quad.valid (s.item 25)

end Sys2Proof.Machine
end

