-- ==== Sys2Proof/Machine/Store.lean ====
section
/-! DEFINITION. The lamp record and its checkpoints (R100, R101, R193), the incidents (R104 to R108), and
the wear count with its thresholds (R93 to R98). -/

namespace Sys2Proof.Machine

/-! ## The lamp record -/

/-- What a lamp write carries for one lamp, as the lamp stands (R101). -/
def Lamp.entry (m : Lamp) : LampEntry :=
  { wear := m.wear, strikeCount := m.strikeCount, out := m.out, wearUnknown := m.wearUnknown,
    wakeLate := m.wakeLate, history := m.history, lit := m.state.litFlag }

/-- The lamp record with both lamps' values as they stand (R101). -/
def State.lampRecord (s : State) : LampRecord := ⟨s.lampA.entry, s.lampB.entry⟩

/-- A lamp write begins with the values standing now (R193). -/
def State.beginLampWrite (s : State) : State :=
  { s with lampWrite := some ⟨s.lampRecord, some Config.storeWriteMs⟩ }

/-- A checkpoint reaches the store: it begins a write, or takes or keeps the waiting place (R193). -/
def State.checkpoint (s : State) : State :=
  match s.lampWrite with
  | none => s.beginLampWrite
  | some _ => { s with waitingCheckpoint := true }

/-- A lamp channel's own checkpoint request: its lit seconds return to 0 (R100). -/
def State.checkpointFor (s : State) (x : LampId) : State :=
  (s.setLamp x { s.lamp x with litSeconds := 0 }).checkpoint

/-! ## Incidents -/

/-- The record of a condition that arises now, with the lamp as it stands before any move (R104, R105). -/
def State.incidentOf (s : State) (x : LampId) (k : IncidentKind) : Incident :=
  { kind := k, cls := k.classIn (s.lamp x).state, lampState := (s.lamp x).state, wear := (s.lamp x).wear,
    time := s.dateTime }

/-- The protection unit receives a condition: the record is formed, becomes the first of the history of
at most four, and is reported (R106, R107, R108). -/
def State.condition (s : State) (x : LampId) (k : IncidentKind) : State :=
  (s.setLamp x
    { s.lamp x with
      history := (s.incidentOf x k :: (s.lamp x).history).take Config.historyPlaces }).offer
    (.incident x (s.incidentOf x k))

/-- A condition handed only in some case. -/
def State.conditionIf (s : State) (c : Bool) (x : LampId) (k : IncidentKind) : State :=
  if c then s.condition x k else s

/-! ## Wear -/

/-- The warning threshold: (L - M) x 43,200, and 0 when M is at least L (R96). -/
def State.warningAt (s : State) : Nat := (s.item 11 - s.item 12) * Config.unitsPerHour

/-- The end-of-life threshold: L x 43,200 (R96). -/
def State.endAt (s : State) : Nat := s.item 11 * Config.unitsPerHour

/-- The expiry threshold: (L + D) x 43,200 (R96). -/
def State.expiryAt (s : State) : Nat := (s.item 11 + s.item 13) * Config.unitsPerHour

/-- A lamp with its three threshold flags as its wear gives them, without a crossing (R96, R102). -/
def State.flagged (s : State) (m : Lamp) : Lamp :=
  { m with
    warning := decide (s.warningAt ≤ m.wear)
    endOfLife := decide (s.endAt ≤ m.wear)
    expired := decide (s.expiryAt ≤ m.wear) }

/-- The thresholds of a lamp are tested: each flag follows the wear, and each that sets is a crossing,
handed in the order warning, end of life, expired (R96). -/
def State.testThresholds (s : State) (x : LampId) : State :=
  let m := s.lamp x
  let f := s.flagged m
  (((s.setLamp x f).conditionIf (f.warning && !m.warning) x .wearWarn).conditionIf
    (f.endOfLife && !m.endOfLife) x .wearEnd).conditionIf (f.expired && !m.expired) x .expired

/-- Wear goes up, saturating, and the thresholds are tested (R93, R96). -/
def State.addWear (s : State) (x : LampId) (units : Nat) : State :=
  (s.setLamp x { s.lamp x with wear := min ((s.lamp x).wear + units) Config.wearTop }).testThresholds x

/-- The units of one lit second, by the state and level in which it completes (R94). -/
def litUnits (st : LampState) (lv : LampLevel) : Nat :=
  match st with
  | .warmup => 12
  | .lit => match lv with
    | .full => 12
    | .eco => 9
  | .dimmed => 6
  | .dark | .ignite | .retryWait | .cooldown | .hot | .out => 0

/-- Wear in tenth-hours (R99). -/
def Lamp.wearTenths (m : Lamp) : Nat := m.wear / Config.unitsPerTenth

/-- Remaining life in tenth-hours (R99): natural subtraction gives the 0 of a lamp past its rated life. -/
def State.remainingTenths (s : State) (m : Lamp) : Nat := (s.endAt - m.wear) / Config.unitsPerTenth

/-- The 18-byte lamp record of R20. -/
def State.lampRecordBytes (s : State) (x : LampId) : List Byte :=
  [byte (lampCode x), byte (s.lamp x).state.code, (s.lamp x).flags]
    ++ be32 (s.lamp x).wear ++ be24 (s.lamp x).wearTenths ++ be24 (s.remainingTenths (s.lamp x))
    ++ be16 (s.lamp x).strikeCount
    ++ [byte (s.lamp x).attempts, byte (s.lamp x).wakeLate, byte (s.lamp x).history.length]

end Sys2Proof.Machine
end

