-- ==== Sys2Proof/Machine/Lamps.lean ====
section
/-! DEFINITION. The lamp channels' operations: moves, strikes, failures, faults, calls, releases,
extinguish, the restrike hold, the plan's choices and failover (R70 to R89). An operation that can take a
lamp out of play returns the state and whether it did. -/

namespace Sys2Proof.Machine

/-- A state, and whether the lamp left play on the way (R89). -/
abbrev LampMove := State × Bool

/-- A lamp's move: the lamp changes and its lines with it, a checkpoint follows where the rule asks for
one, and LAMP_STATE is offered (R67, R91, R100). -/
def State.moveLamp (s : State) (x : LampId) (f : Lamp → Lamp) (checkpointed : Bool) (cause : LampCause) :
    State :=
  let moved := s.putLamp x (f (s.lamp x))
  (if checkpointed then moved.checkpointFor x else moved).reportLamp x (s.lamp x).state cause

/-- Where a rule sends a lamp to DARK: HOT in its place below the restrike hold (R82). -/
def State.darkOrHot (s : State) (m : Lamp) : LampState := if m.since < s.restrikeHold then .hot else .dark

/-- A lamp's call ended in DARK, or in HOT in its place (R71, R74, R75, R84). -/
def State.endedDark (s : State) (m : Lamp) : Lamp :=
  { m with state := s.darkOrHot m, called := false, pendingOff := false, timer := none }

/-- A lamp in OUT, marked out (R74, R76, R83). -/
def Lamp.outNow (m : Lamp) : Lamp :=
  { m with state := .out, out := true, called := false, pendingOff := false, waiting := false, timer := none }

/-! ## Extinguish (R80) -/

/-- A lamp as an extinguish leaves it; `marked` is the out flag that a ballast fault sets (R76, R80). -/
def State.extinguished (s : State) (marked : Bool) (m : Lamp) : Lamp :=
  { m with
    state := .cooldown, called := false, pendingOff := false, waiting := false, since := 0
    timer := some (1000 * s.item 7), out := m.out || marked }

/-- A lamp is extinguished (R80). -/
def State.extinguish (s : State) (x : LampId) (marked : Bool) (cause : LampCause) : State :=
  s.moveLamp x (s.extinguished marked) true cause

/-! ## Strike failure and ballast faults -/

/-- The retry wait after a failed attempt, in ms (R74). -/
def Lamp.retryWaitMs (m : Lamp) : Nat := 10000 * 2 ^ min (m.attempts - 1) m.cap

/-- A strike has failed (R74); with `fault`, BALLAST_FAULT is handed in place of STRIKE_FAIL (R76). -/
def State.strikeFailed (s : State) (x : LampId) (fault : Bool) : LampMove :=
  let m := s.lamp x
  let told := s.condition x (if fault then .ballastFault else .strikeFail)
  if !m.called then (told.moveLamp x s.endedDark true .strikeFailed, false)
  else if m.attempts = m.limit then
    (((if fault then told else s).condition x .strikeExhausted).moveLamp x Lamp.outNow true .exhausted,
      true)
  else if !m.available then (told.moveLamp x s.endedDark true .unavailable, true)
  else
    (told.moveLamp x (fun m => { m with state := .retryWait, timer := some m.retryWaitMs }) false
      .strikeFailed, false)

/-- A ballast fault in IGNITE (R76). -/
def State.faultInIgnite (s : State) (x : LampId) : LampMove :=
  if (s.lamp x).attempts ≤ 1 then s.strikeFailed x true
  else ((s.condition x .double).moveLamp x Lamp.outNow true .double, (s.lamp x).called)

/-- A ballast fault, by the lamp's state (R76). -/
def State.takeFault (s : State) (x : LampId) : LampMove :=
  match (s.lamp x).state with
  | .ignite => s.faultInIgnite x
  | .retryWait => ((s.condition x .double).moveLamp x Lamp.outNow true .double, true)
  | .warmup | .lit | .dimmed =>
    ((s.condition x .ballastFault).extinguish x true .fault, (s.lamp x).called)
  | .dark | .cooldown | .hot | .out => (s, false)

/-! ## Striking (R72) -/

/-- A lamp as the entry to IGNITE leaves it, before the strike charge (R72). -/
def Lamp.ignited (m : Lamp) : Lamp :=
  { m with
    state := .ignite, attempts := m.attempts + 1
    strikeCount := min (m.strikeCount + 1) Config.strikeCountTop, timer := some Config.strikeWindowMs }

/-- The entry to IGNITE: the attempt, the strike charge with its crossings, the checkpoint, the report,
and a fault that stands asserted (R72, R95, R100). -/
def State.ignite (s : State) (x : LampId) : LampMove :=
  let charged :=
    { s.putLamp x (s.lamp x).ignited with lastStruck := some x }.addWear x Config.strikeCharge
  let entered := (charged.checkpointFor x).reportLamp x (s.lamp x).state .strike
  if (s.lamp x).faultLine then entered.faultInIgnite x else (entered, false)

/-- A called lamp that is not available at its strike ends its call and leaves play; from RETRY_WAIT it
enters DARK or HOT with a checkpoint (R72, R75, R82, R100). -/
def State.unavailable (s : State) (x : LampId) : LampMove :=
  match (s.lamp x).state with
  | .retryWait => (s.moveLamp x s.endedDark true .unavailable, true)
  | _ => (s.moveLamp x (fun m => { m with called := false, waiting := false }) false .unavailable, true)

/-- A lamp is struck, if it is available (R72). -/
def State.strike (s : State) (x : LampId) : LampMove :=
  if (s.lamp x).available then s.ignite x else s.unavailable x

/-! ## Reaching DARK -/

/-- A lamp in HOT reaches DARK; a waiting lamp is struck in the same event (R82). -/
def State.reachDark (s : State) (x : LampId) : LampMove :=
  let dark := s.moveLamp x (fun m => { m with state := .dark, waiting := false }) false .ready
  if (s.lamp x).waiting then dark.strike x else (dark, false)

/-- A lamp's cooldown ends (R81). -/
def State.cooled (s : State) (x : LampId) : LampMove :=
  if (s.lamp x).out then (s.moveLamp x (fun m => { m with state := .out, timer := none }) true .cooled, false)
  else
    let hot := s.moveLamp x (fun m => { m with state := .hot, timer := none }) false .cooled
    if s.restrikeHold ≤ (s.lamp x).since then hot.reachDark x else (hot, false)

/-! ## Calls and releases -/

/-- A lamp called, with a new power-on (R70). -/
def State.newPowerOn (s : State) (m : Lamp) : Lamp :=
  { m with called := true, attempts := 0, limit := s.item 9, cap := s.item 10 }

/-- A lamp is called (R70). -/
def State.callLamp (s : State) (x : LampId) : LampMove :=
  let m := s.lamp x
  if !m.available then (s, false)
  else
    match m.state with
    | .ignite | .warmup =>
      if m.pendingOff then
        (s.moveLamp x (fun m => { m with called := true, pendingOff := false }) false .call, false)
      else (s, false)
    | .dark => (s.setLamp x (s.newPowerOn m)).strike x
    | .cooldown | .hot =>
      if m.waiting then (s, false)
      else (s.moveLamp x (fun m => { s.newPowerOn m with waiting := true }) false .call, false)
    | .retryWait | .lit | .dimmed | .out => (s, false)

/-- A lamp is released (R71). -/
def State.releaseLamp (s : State) (x : LampId) : State :=
  if !(s.lamp x).called then s
  else
    match (s.lamp x).state with
    | .ignite | .warmup =>
      s.moveLamp x (fun m => { m with called := false, pendingOff := true }) false .release
    | .lit | .dimmed => s.extinguish x false .extinguish
    | .retryWait => s.moveLamp x s.endedDark true .release
    | .cooldown | .hot =>
      s.moveLamp x (fun m => { m with called := false, waiting := false }) false .release
    | .dark | .out => s

/-- A lamp on a thermal alarm: every call ends (R84). -/
def State.thermalLamp (s : State) (x : LampId) : State :=
  match (s.lamp x).state with
  | .ignite | .warmup | .lit | .dimmed => s.extinguish x false .thermal
  | .retryWait => s.moveLamp x s.endedDark true .thermal
  | .cooldown | .hot =>
    if (s.lamp x).waiting then
      s.moveLamp x (fun m => { m with called := false, waiting := false }) false .thermal
    else s
  | .dark | .out => s

/-- A lamp returns to service in HOT, its hold counted from now (R83). -/
def State.serviceLamp (s : State) (x : LampId) : State :=
  s.moveLamp x
    (fun m => { m with state := .hot, out := false, since := 0, called := false, pendingOff := false,
                       waiting := false, timer := none }) false .service

/-! ## DIM, UNDIM and the lamp level -/

/-- DIM for one lamp (R79). -/
def State.dimLamp (s : State) (x : LampId) : State :=
  if (s.lamp x).state = .lit then s.moveLamp x (fun m => { m with state := .dimmed }) false .dim else s

/-- UNDIM for one lamp; its wake timer starts unless its at-level line stands asserted (R79, R170). -/
def State.undimLamp (s : State) (x : LampId) : State :=
  if (s.lamp x).state = .dimmed then
    s.moveLamp x
      (fun m => { m with state := .lit,
                         wakeTimer := if m.atLevelLine then none else some (1000 * s.item 30) }) false .undim
  else s

/-- A lamp in LIT takes the level in force (R90). -/
def State.relevelLamp (s : State) (x : LampId) : State :=
  if (s.lamp x).state = .lit then s.moveLamp x id false .level else s

/-! ## The plan's choices (R85, R86) -/

/-- The lamp that a criterion separates, else the one the rest gives (R86). -/
def prefer (c : LampId → Bool) (rest : LampId) : LampId :=
  if c .a && !c .b then .a else if c .b && !c .a then .b else rest

/-- The last three criteria of both choices: lower wear, not last struck, lamp A (R86). -/
def State.preferByWear (s : State) : LampId :=
  prefer (fun x => (s.lamp x).wear < (s.lamp (otherLamp x)).wear) <| prefer (fun x => s.lastStruck != some x) .a

/-- The lamp that ALTERNATE calls (R86). -/
def State.lampToCall (s : State) : LampId :=
  prefer (fun x => (s.lamp x).available) <|
    prefer (fun x => (s.lamp x).state.alight && (s.lamp x).pendingOff) <|
      prefer (fun x => (s.lamp x).state == .dark) s.preferByWear

/-- The lamp that ALTERNATE keeps (R86). -/
def State.lampToKeep (s : State) : LampId :=
  prefer (fun x => (s.lamp x).available) <| prefer (fun x => (s.lamp x).state.burning) s.preferByWear

/-- The lamps that the plan in force calls, in the order of the calls (R85). THE MODEL'S CHOICE (assumption 18):
R85 gives the two calls of DUAL no order, and lamp A is called first, and so struck and reported first. -/
def State.planLamps (s : State) : List LampId :=
  match s.conf.plan with
  | .dual => [.a, .b]
  | .alternate => [s.lampToCall]
  | .fixedA => [.a]
  | .fixedB => [.b]

/-! ## Failover (R89) -/

/-- What the lamp channels tell the power unit of the called set (R85, R89). -/
inductive PlaySignal where
  | none
  | degraded
  | noLamp
  deriving DecidableEq, Repr

/-- The called set as it is handed over under the plan: empty, or short under DUAL (R85). -/
def State.calledSignal (s : State) : PlaySignal :=
  if s.calledCount = 0 then .noLamp
  else if s.conf.plan = .dual ∧ s.calledCount = 1 then .degraded
  else .none

/-- A lamp has left play (R89). A partner that is called and leaves play at once is itself a departure:
it finds no lamp to hand over to, so two rounds are enough. -/
def State.failover (s : State) (x : LampId) : Nat → State × PlaySignal
  | 0 => (s, s.calledSignal)
  | n + 1 =>
    if !s.power.intent then (s, .none)
    else
      match s.conf.plan with
      | .fixedA | .fixedB => (s, .noLamp)
      | .dual | .alternate =>
        let r := if (s.lamp (otherLamp x)).called then (s, false) else s.callLamp (otherLamp x)
        if r.2 then r.1.failover (otherLamp x) n else (r.1, r.1.calledSignal)

/-- A lamp's move is followed by failover where the lamp left play. -/
def LampMove.settle (r : LampMove) (x : LampId) : State × PlaySignal :=
  if r.2 then r.1.failover x 2 else (r.1, .none)

/-- Lamps are called one after the other; one that leaves play at its call is followed by failover (R85,
R88, R89). -/
def State.callLamps (s : State) : List LampId → State
  | [] => s
  | x :: xs => (LampMove.settle (s.callLamp x) x).1.callLamps xs

end Sys2Proof.Machine
end

