-- ==== Sys2Proof/Machine/Switching.lean ====
section
/-! DEFINITION. Idle and the ways out of DIMMED (R167, R169), the switch unit (R129 to R141), and the input
monitor (R120 to R124). -/

namespace Sys2Proof.Machine

/-! ## The POWER_STATE report and idle -/

/-- A POWER_STATE report of the power unit as it stands (R166). -/
def State.reportPower (s : State) (previous : PowerState) (cause : PowerCause) (outcome : PowerOutcome) :
    State :=
  s.offer
    (.powerState
      { state := s.power.state, previous := previous, cause := cause, outcome := outcome,
        intent := s.power.intent, intentClass := s.power.intentClass,
        intentPriority := s.power.intentPriority, calledA := s.lampA.called, calledB := s.lampB.called,
        degraded := s.power.degraded, idleExpired := s.power.idleExpired, plan := s.conf.plan })

/-- The power unit changes. -/
def State.setPower (s : State) (p : PowerUnit) : State := { s with power := p }

/-- Whether idle holds (R167). -/
def State.idleHolds (s : State) : Bool :=
  s.power.state == .on && !s.power.idleExpired && (!s.selectedStable || s.sw.mute)

/-- The idle wait in ms. -/
def State.idleWaitMs (s : State) : Nat := 60000 * s.item 26

/-- Idle is tested: the timer starts when idle begins to hold and stops when it ends (R167). -/
def State.retestIdle (s : State) : State :=
  s.setPower
    { s.power with
      idle := if s.idleHolds then (if s.power.idle.isSome then s.power.idle else some s.idleWaitMs)
              else none }

/-- The projector leaves DIMMED (R169, R170). THE MODEL'S CHOICE (assumption 18): R79 gives the two lamps of an
UNDIM no order, and lamp A enters LIT and reports first. -/
def State.leaveDimmed (s : State) : State :=
  let lit := ((s.setPower { s.power with autoOff := none }).undimLamp .a).undimLamp .b
  ((lit.setPower { lit.power with state := .on }).reportPower .dimmed .activity .none).retestIdle

/-- The projector leaves the idle-expired mark (R169). -/
def State.leaveMark (s : State) : State :=
  ((s.setPower { s.power with autoOff := none, idleExpired := false }).reportPower s.power.state .activity
    .none).retestIdle

/-- A permitted request of a class other than AUTO, as activity: it leaves DIMMED or the mark, or restarts
a running idle timer (R167, R169). -/
def State.activity (s : State) : State :=
  match s.power.state with
  | .dimmed => s.leaveDimmed
  | .on =>
    if s.power.idleExpired then s.leaveMark
    else if s.idleHolds then s.setPower { s.power with idle := some s.idleWaitMs }
    else s
  | .standby | .starting | .stopping | .shutdown => s

/-- The selected input becomes STABLE (R169). -/
def State.signalReturned (s : State) : State :=
  match s.power.state with
  | .dimmed => if s.item 29 ≠ 0 then s.leaveDimmed else s
  | .on => if s.power.idleExpired then s.leaveMark else s.retestIdle
  | .standby | .starting | .stopping | .shutdown => s.retestIdle

/-- The power unit sees the selected input, or its signal state, change; `before` is whether the selected
input was STABLE before (R167, R169, assumption 16). -/
def State.sourceSeen (s : State) (before : Bool) : State :=
  if s.selectedStable && !before then s.signalReturned else s.retestIdle

/-- The power unit sees picture mute change (R142, R167, R169). -/
def State.muteSeen (s : State) : State :=
  if s.sw.mute then s.retestIdle
  else
    match s.power.state with
    | .dimmed => s.leaveDimmed
    | .on => if s.power.idleExpired then s.leaveMark else s.retestIdle
    | .standby | .starting | .stopping | .shutdown => s.retestIdle

/-! ## The switch unit -/

/-- Whether the loss watch acts (R140). -/
def State.watchActs (s : State) : Bool :=
  s.item 22 != 0 && (s.power.state == .on || s.power.state == .dimmed) && s.sw.inFlight.isNone

/-- The loss watch is brought to what its conditions give (R140). -/
def State.retestWatch (s : State) : State :=
  if s.watchActs && !s.selectedStable then
    if s.sw.watch = .watching then
      s.putSwitch { s.sw with watch := .grace, grace := some (1000 * s.item 23) }
    else s
  else s.putSwitch { s.sw with watch := .watching, grace := none }

/-- A SWITCH_DONE report for a select, as the switch unit and the monitor stand (R139). -/
def State.reportSwitch (s : State) (i : InputId) (outcome : SwitchOutcome) (cls : ReqClass) (priority : Nat)
    (origin : Option (Link × Byte)) : State :=
  s.offer
    (.switchDone
      { input := i, outcome := outcome, cls := cls, priority := priority, origin := origin,
        selected := s.sw.selected, signal := (s.input i).signal, format := s.formatIndex i })

/-- A switch begins in BLANK (R132). -/
def State.beginSwitch (s : State) (i : InputId) (cls : ReqClass) (priority : Nat)
    (origin : Option (Link × Byte)) : State :=
  (s.putSwitch
    { s.sw with
      inFlight := some { target := i, cls := cls, priority := priority, origin := origin, phase := .blank,
                         timer := some Config.blankMs } }).retestWatch

/-- The hold that a completion sets: none when the hold time is 0 (R134). -/
def State.holdFor (s : State) (i : InputId) (cls : ReqClass) (priority : Nat) : Option SourceHold :=
  if s.holdTimeMs cls = 0 then none
  else some { input := i, cls := cls, priority := priority, left := s.holdTimeMs cls }

/-- Whether a hold stands against a priority (R131, R137). -/
def State.heldAgainst (s : State) (priority : Nat) : Bool :=
  match s.sw.hold with
  | some h => priority < h.priority
  | none => false

/-- The pending select starts, or meets the hold (R137). -/
def State.startPending (s : State) : State :=
  match s.sw.slot with
  | none => s
  | some p =>
    let taken := s.putSwitch { s.sw with slot := none }
    if s.heldAgainst p.priority then taken.reportSwitch p.input .heldAtStart p.cls p.priority p.origin
    else taken.beginSwitch p.input p.cls p.priority p.origin

/-- A switch completes (R134, R154). THE MODEL'S CHOICE (assumption 35): R134 does not place the power unit's
sight of the new selected input, and it comes after step 5, the loss watch, and before step 6, the pending
select. -/
def State.completeSwitch (s : State) (w : Switch) (outcome : SwitchOutcome) : State :=
  let selected :=
    s.putSwitch
      { s.sw with selected := w.target, inFlight := none, hold := s.holdFor w.target w.cls w.priority }
  let told := selected.runPicture.reportSwitch w.target outcome w.cls w.priority w.origin
  (((told.sendUpdate .source true).retestWatch).sourceSeen s.selectedStable).startPending

/-- The switch in flight is dropped at STOPPING (R138, R154). -/
def State.dropSwitch (s : State) : State :=
  match s.sw.inFlight with
  | none => s
  | some w =>
    ((s.putSwitch { s.sw with selected := w.target, inFlight := none }).runPicture.reportSwitch w.target
      .superseded w.cls w.priority w.origin).sendUpdate .source true

/-- The pending select is dropped, with the outcome that the rule gives (R137, R138). -/
def State.dropPending (s : State) (outcome : SwitchOutcome) : State :=
  match s.sw.slot with
  | none => s
  | some p =>
    (s.putSwitch { s.sw with slot := none }).reportSwitch p.input outcome p.cls p.priority p.origin

/-- The switch unit at an entry to STOPPING (R138). -/
def State.stopSwitching (s : State) : State :=
  let dropped := s.dropSwitch.dropPending .superseded
  dropped.putSwitch { dropped.sw with hold := none, watch := .watching, grace := none }

/-- The switch in flight sees its target's signal state change (R133). -/
def State.awaitedSignal (s : State) (i : InputId) : State :=
  match s.sw.inFlight with
  | none => s
  | some w =>
    if w.phase = .awaitSignal ∧ w.target = i then
      match (s.input i).signal with
      | .stable => s.completeSwitch w .done
      | .absent | .unsupported => s.completeSwitch w .noSignal
      | .dormant | .acquiring => s
    else s

/-! ## The input monitor -/

/-- An INPUT_STATE report of an input as it stands (R124). -/
def State.reportInput (s : State) (i : InputId) (previous : SignalState) (cause : InputCause) : State :=
  let r := s.input i
  s.offer
    (.inputState
      { input := i, state := r.signal, previous := previous, cause := cause,
        format := s.formatIndex i, width := r.latest.width,
        height := r.latest.height, rate := r.latest.rate })

/-- An input's signal state or format changes: the report, then the switch unit, then the geometry unit
and the power unit where it is the selected input (R124, assumption 17). -/
def State.signalChange (s : State) (i : InputId) (r : InputRecord) (cause : InputCause) : State :=
  let reported := (s.setInput i r).reportInput i (s.input i).signal cause
  let switched := (reported.awaitedSignal i).retestWatch
  if i = s.sw.selected then switched.sourceEvent.sourceSeen s.selectedStable else switched

/-- An input as it goes DORMANT (R120). -/
def InputRecord.dormant (r : InputRecord) : InputRecord :=
  { r with signal := .dormant, format := none, latest := ⟨false, 0, 0, 0⟩, run := none, acquire := none }

/-- An input as it enters ACQUIRING, with the run that it begins (R122). -/
def InputRecord.acquiring (r : InputRecord) (run : Option (Fin 16 × Nat)) : InputRecord :=
  { r with signal := .acquiring, format := none, run := run, acquire := some Config.acquireMs }

/-- An input in ABSENT or UNSUPPORTED. -/
def InputRecord.without (r : InputRecord) (signal : SignalState) : InputRecord :=
  { r with signal := signal, format := none, run := none, acquire := none }

/-- The monitor stops measuring one input (R120). -/
def State.sleepInput (s : State) (i : InputId) : State :=
  if (s.input i).signal = .dormant then s else s.signalChange i (s.input i).dormant .power

/-- The monitor stops measuring, IN0 first (R120). -/
def State.sleepInputs (s : State) : State := (List.finRange 8).foldl State.sleepInput s

/-- The monitor resumes, IN0 first (R120). -/
def State.wakeInputs (s : State) : State :=
  (List.finRange 8).foldl (fun s i => s.signalChange i ((s.input i).acquiring none) .power) s

/-- Whether a format entry matches a measurement that has sync (R121). -/
def Format.matches (f : Format) (m : Measure) : Bool :=
  f.enabled && f.width == m.width && f.height == m.height && f.rateMin ≤ m.rate && m.rate ≤ f.rateMax

/-- The match of a measurement: the first entry that meets it (R121). -/
def State.matchOf (s : State) (m : Measure) : Option (Fin 16) :=
  if m.sync then (List.finRange 16).find? fun f => (s.conf.formats.get f).matches m else none

/-- The run that a match begins (R122). -/
def runFrom (m : Option (Fin 16)) : Option (Fin 16 × Nat) := m.map fun f => (f, 1)

/-- The run after one more measurement in ACQUIRING (R122). -/
def runAfter (run : Option (Fin 16 × Nat)) (m : Option (Fin 16)) : Option (Fin 16 × Nat) :=
  match run, m with
  | some (g, n), some f => if g = f then some (f, n + 1) else some (f, 1)
  | none, some f => some (f, 1)
  | _, none => none

/-- The input after a measurement, and whether its signal state changed (R122, R123). -/
def State.measured (s : State) (i : InputId) (m : Measure) : InputRecord × Bool :=
  let r := { s.input i with latest := m }
  match r.signal with
  | .dormant => (s.input i, false)
  | .acquiring =>
    match runAfter r.run (s.matchOf m) with
    | none => ({ r with run := none }, false)
    | some (f, n) =>
      if Config.stableRun ≤ n then
        ({ r with signal := .stable, format := some f, run := none, acquire := none }, true)
      else ({ r with run := some (f, n) }, false)
  | .stable =>
    if !m.sync then (r.without .absent, true)
    else if s.matchOf m = r.format then (r, false)
    else (r.acquiring (runFrom (s.matchOf m)), true)
  | .absent => if !m.sync then (r, false) else (r.acquiring (runFrom (s.matchOf m)), true)
  | .unsupported =>
    if !m.sync then (r.without .absent, true)
    else if (s.matchOf m).isSome then (r.acquiring (runFrom (s.matchOf m)), true)
    else (r, false)

/-- One input after a write of format entry `n` (R126). -/
def State.rematch (n : Fin 16) (s : State) (i : InputId) : State :=
  let r := s.input i
  match r.signal with
  | .stable =>
    if s.matchOf r.latest = r.format then (if r.format = some n then s.signalChange i r .table else s)
    else s.signalChange i (r.acquiring none) .table
  | .unsupported => s.signalChange i (r.acquiring none) .table
  | .acquiring => s.setInput i { r with run := none }
  | .absent | .dormant => s

end Sys2Proof.Machine
end

