-- ==== Sys2Proof/Machine/Power.lean ====
section
/-! DEFINITION. The power unit: entries to the power states (R165), the tests on lamp events (R164), and the
protection unit's thermal alarm, recovery and SHUTDOWN (R111 to R115). -/

namespace Sys2Proof.Machine

/-! ## What the entries act on -/

/-- The scan groups stop, with their counts emptied (R165, R172). -/
def State.stopScan (s : State) : State :=
  { s with scan := Vector.replicate 2 ⟨none, Vector.replicate 8 0⟩ }

/-- One scan group starts its interval afresh with its counts at 0 (R165, R172). -/
def State.startGroup (s : State) (g : GroupId) : State :=
  { s with scan := s.scan.set g.val ⟨some (s.scanIntervalMs g), Vector.replicate 8 0⟩ g.isLt }

/-- Both scan groups start afresh (R165, R172). -/
def State.startScan (s : State) : State := (s.startGroup 0).startGroup 1

/-- An open confirmation window closes, with its CONFIRM report (R27). -/
def State.closeWindow (s : State) (event : ConfirmEvent) : State :=
  match s.window with
  | none => s
  | some w =>
    { s with window := none }.offer (.confirm { source := w.source, event := event, state := s.power.state })

/-- A present credential hold ends, with its CREDENTIAL report (R36, R37, R38, R39). -/
def State.endHold (s : State) (cause : CredCause) : State :=
  match s.hold with
  | none => s
  | some h =>
    { s with hold := none }.offer
      (.credential
        { cause := cause, cls := .none, previous := h.cls, link := h.link, minutes := 0, token := h.token })

/-- The idle and auto-off timers stop and the idle-expired mark clears (R165). -/
def PowerUnit.stopTimers (p : PowerUnit) : PowerUnit :=
  { p with idle := none, autoOff := none, idleExpired := false }

/-- Every wake timer stops (R165). -/
def State.stopWake (s : State) : State :=
  { s with lampA := { s.lampA with wakeTimer := none }, lampB := { s.lampB with wakeTimer := none } }

/-- The intent becomes OFF with no requester (R161). -/
def PowerUnit.noIntent (p : PowerUnit) : PowerUnit :=
  { p with intent := false, intentClass := none, intentPriority := 0 }

/-! ## Entries to the power states (R165) -/

/-- Entry to STARTING. -/
def State.enterStarting (s : State) (cause : PowerCause) (outcome : PowerOutcome) : State :=
  let entered := s.setPower { s.power with state := .starting }
  let effects :=
    match s.power.state with
    | .standby => entered.stopScan.wakeInputs
    | .on | .dimmed => (entered.setPower entered.power.stopTimers).retestWatch
    | .starting | .stopping | .shutdown => entered
  effects.reportPower s.power.state cause outcome

/-- Entry to ON from STARTING. -/
def State.enterOn (s : State) (cause : PowerCause) (outcome : PowerOutcome) : State :=
  ((s.setPower { s.power with state := .on }).retestIdle.retestWatch).reportPower s.power.state cause outcome

/-- Entry to STOPPING; the degraded mark clears with it (R164). -/
def State.enterStopping (s : State) (cause : PowerCause) (outcome : PowerOutcome) : State :=
  let entered := s.setPower { s.power.stopTimers with state := .stopping, degraded := false }
  (entered.stopWake.stopSwitching.closeWindow .cancelledState).reportPower s.power.state cause outcome

/-- Entry to STANDBY; from STOPPING the credential hold ends after the report (R38). -/
def State.enterStandby (s : State) (cause : PowerCause) : State :=
  let entered := s.setPower { s.power with state := .standby, degraded := false }
  let reported :=
    ((entered.sleepInputs.closeWindow .cancelledState).startScan).reportPower s.power.state cause .none
  if s.power.state = .stopping then reported.endHold .standby else reported

/-- Entry to SHUTDOWN; scan groups run in STANDBY alone, so they stop too (assumption 25). -/
def State.enterShutdown (s : State) (cause : PowerCause) : State :=
  let entered := s.setPower { s.power.stopTimers with state := .shutdown, degraded := false }
  ((entered.stopWake.stopScan.sleepInputs).closeWindow .cancelledState).reportPower s.power.state cause .none

/-! ## The tests on lamp events (R164) -/

/-- The degraded mark clears when both lamps are called again and under any plan but DUAL (R164). -/
def State.settleDegraded (s : State) : State :=
  s.setPower
    { s.power with
      degraded := s.power.degraded && decide (s.conf.plan = .dual) && decide (s.calledCount ≠ 2) }

/-- Whether some lamp is called and every called lamp is LIT (R164). -/
def State.allCalledLit (s : State) : Bool :=
  s.calledCount != 0 && (!s.lampA.called || s.lampA.state == .lit)
    && (!s.lampB.called || s.lampB.state == .lit)

/-- A called lamp that is LIT or DIMMED (R164). -/
def Lamp.shines (m : Lamp) : Bool := m.called && (m.state == .lit || m.state == .dimmed)

/-- STOPPING goes on to STANDBY once no lamp is lit, striking, warming or cooling (R164). -/
def State.tryStandby (s : State) : State :=
  if s.power.state = .stopping ∧ ¬ s.recovery ∧ ¬ s.lampA.state.busy ∧ ¬ s.lampB.state.busy then
    s.enterStandby .lamps
  else s

/-- No lamp is in play: the intent becomes OFF and the projector stops with START_FAILED (R164). -/
def State.noLampInPlay (s : State) : State :=
  ((s.setPower s.power.noIntent).enterStopping .lamps .startFailed).tryStandby

/-- The power unit tests its rows after a lamp event, with what the lamp channels told it; a DEGRADED
signal joins the report of the move that the event makes (R164, assumptions 11 and 12). -/
def State.lampEvent (s : State) (told : PlaySignal) : State :=
  let settled := s.settleDegraded
  match s.power.state with
  | .starting | .on | .dimmed =>
    match told with
    | .noLamp => settled.noLampInPlay
    | .none | .degraded =>
      let marked :=
        settled.setPower { settled.power with degraded := settled.power.degraded || told == .degraded }
      let outcome := if told = .degraded then PowerOutcome.degraded else .none
      if s.power.state = .starting then
        if s.allCalledLit then marked.enterOn .lamps outcome
        else if told = .degraded then marked.reportPower s.power.state .lamps .degraded
        else marked
      else if !s.lampA.shines && !s.lampB.shines then marked.enterStarting .lamps outcome
      else if told = .degraded then marked.reportPower s.power.state .lamps .degraded
      else marked
  | .stopping => settled.tryStandby
  | .standby | .shutdown => settled

/-- A lamp's event ends: failover where the lamp left play, then the power unit's tests (R89, R164). -/
def LampMove.finish (r : LampMove) (x : LampId) : State :=
  (LampMove.settle r x).1.lampEvent (LampMove.settle r x).2

/-! ## Thermal alarm, recovery and SHUTDOWN -/

/-- A THERMAL report with the three values after the event (R116). -/
def State.reportThermal (s : State) (event : ThermalEvent) : State :=
  s.offer (.thermal { event := event, input := s.thermalInput, recovery := s.recovery, latch := s.latch })

/-- Whether a lamp is in COOLDOWN. -/
def State.cooling (s : State) : Bool := s.lampA.state == .cooldown || s.lampB.state == .cooldown

/-- The end of thermal recovery: RECOVERED, or SHUTDOWN when the latch is set or the input stands asserted
(R114, R115). -/
def State.endRecovery (s : State) : State :=
  if s.latch || s.thermalInput then
    let told := s.reportThermal .shutdown
    (told.setPower { told.power with intent := false }).enterShutdown .thermal
  else ((s.setRecovery false).reportThermal .recovered).tryStandby

/-- The end of recovery is taken at the moment no lamp is cooling (R114). -/
def State.tryEndRecovery (s : State) : State :=
  if s.recovery ∧ ¬ s.cooling ∧ s.power.state ≠ .shutdown then s.endRecovery else s

/-- The power unit takes the alarm (R112). -/
def State.alarmPower (s : State) : State :=
  let off := s.setPower s.power.noIntent
  match s.power.state with
  | .starting | .on | .dimmed => off.enterStopping .thermal .none
  | .standby | .stopping | .shutdown => off

/-- A thermal alarm, in its six steps (R111, R112); the ALARM report shows recovery set (assumption 23). -/
def State.thermalAlarm (s : State) : State :=
  let told :=
    ((s.offer (.thermal { event := .alarm, input := s.thermalInput, recovery := true, latch := s.latch })
      ).condition .a .thermal).condition .b .thermal
  ((((told.setRecovery true).thermalLamp .a).thermalLamp .b).alarmPower).tryEndRecovery

end Sys2Proof.Machine
end

