-- ==== Sys2Proof/Machine/Policy.lean ====
section
/-! DEFINITION. The policy unit: operational requests as they reach it (R10, R22, R49), classification of a
token (R30 to R32), matching, counting and the verdict (R46 to R53). -/

namespace Sys2Proof.Machine

/-! ## Operational requests -/

/-- The corners of SET_CORNER (R10). -/
inductive Corner where
  | tl | tr | br | bl
  deriving DecidableEq, Repr

/-- The presets (R156). -/
abbrev PresetId := Fin 4

/-- An operational request with its arguments checked (R10, R49), and the schedule's SET_RULE (R58). -/
inductive Operation where
  | powerOn
  | powerOff
  | selectInput (i : InputId)
  | pictureMute (on : Bool)
  | setKeystone (relative : Bool) (v h : Int)
  | setCorner (c : Corner) (dx dy : Int)
  | recallGeometry (p : PresetId)
  | setLampLevel (v : LampLevel)
  | setLampPlan (p : Plan)
  | setLockout (v : Level)
  | presentCredential (token : BitVec 48)
  | endCredential
  | setRule (r : RuleId) (on : Bool)
  deriving DecidableEq, Repr

/-- The bit of a kind in a rule's kinds set: kind 0x10 + n is bit n (R18); SET_RULE is evaluated as
SET_LOCKOUT (R58). -/
def Operation.kindBit : Operation → Nat
  | .powerOn => 0
  | .powerOff => 1
  | .selectInput _ => 2
  | .pictureMute _ => 3
  | .setKeystone _ _ _ => 4
  | .setCorner _ _ _ => 5
  | .recallGeometry _ => 6
  | .setLampLevel _ => 7
  | .setLampPlan _ => 8
  | .setLockout _ => 9
  | .presentCredential _ => 10
  | .endCredential => 11
  | .setRule _ _ => 9

/-- The kind code as a rule counts and reports it (R56). -/
def Operation.kind (o : Operation) : Byte := byte (0x10 + o.kindBit)

/-- An on or off argument (R10). -/
def onOff : Nat → Option Bool
  | 0 => some false
  | 1 => some true
  | _ => none

/-- The corner with a code (R10). -/
def Corner.ofCode (n : Nat) : Option Corner := [Corner.tl, .tr, .br, .bl][n]?

/-- Corner codes (R10). -/
def Corner.code : Corner → Nat
  | .tl => 0
  | .tr => 1
  | .br => 2
  | .bl => 3

/-- The preset with a number (R10). -/
def presetOf (n : Nat) : Option PresetId := if h : n < 4 then some ⟨n, h⟩ else none

/-- The token of six payload bytes. -/
def tokenAt (p : List Byte) (n : Nat) : BitVec 48 := BitVec.ofNat 48 (beNat ((p.drop n).take 6))

/-- A malformed token: all zeros or all ones (R30). -/
def malformed (t : BitVec 48) : Bool := t == 0 || t == BitVec.allOnes 48

/-! ## Classifying a token -/

/-- The bin index of a token: the exclusive-or of its eight 6-bit groups (R32). -/
def foldToken (t : BitVec 48) : Nat :=
  (List.range 8).foldl (fun n k => n ^^^ (t.toNat / 2 ^ (6 * k) % 64)) 0

/-- The class of a token judged by the bins (R32). -/
def State.classByBins (s : State) (t : BitVec 48) : CredClass :=
  if s.conf.filter.acceptAll then .group
  else if s.conf.bins.getLsbD (foldToken t) = s.conf.filter.inverse then .unknown
  else .group

/-- The enabled card that holds a token, if there is one (R31). -/
def State.cardOf (s : State) (t : BitVec 48) : Option Card :=
  s.conf.cards.toList.find? fun c => c.enabled && c.token == t

/-- The class of a token (R31, R32); bit 47 set marks a group token. -/
def State.classify (s : State) (t : BitVec 48) : CredClass :=
  if t.getLsbD 47 then s.classByBins t
  else
    match s.cardOf t with
    | some c => c.role.toClass
    | none => if s.conf.filter.personalByBins then s.classByBins t else .unknown

/-! ## Matching (R46, R47) -/

/-- The INSIDE condition of a range of the week (R47). -/
def insideRange (lo hi now : Nat) : Bool :=
  if lo ≤ hi then lo ≤ now && now ≤ hi else lo ≤ now || now ≤ hi

/-- The time match of a rule; `now` is absent while the clock is unset (R47). -/
def Rule.timeOk (r : Rule) (now : Option Nat) : Bool :=
  match r.timeMode, now with
  | .off, _ => true
  | .atBound, some n => n == r.timeMin || n == r.timeMax
  | .inside, some n => insideRange r.timeMin r.timeMax n
  | .outside, some n => !insideRange r.timeMin r.timeMax n
  | .atBound, none | .inside, none | .outside, none => false

/-- Whether a rule matches a request (R46). -/
def Rule.matches (r : Rule) (cls : ReqClass) (kindBit : Nat) (cred : CredClass) (now : Option Nat) : Bool :=
  r.enabled && r.requesters.getLsbD cls.code && r.kinds.getLsbD kindBit && r.credential.getLsbD cred.code
    && r.timeOk now

/-! ## Adjustments (R50) -/

/-- The working priority after a matching rule (R50). -/
def Rule.adjustPriority (r : Rule) (p : Nat) : Nat :=
  match r.priorityMode with
  | .keep => p
  | .atLeast => max p r.priority
  | .atMost => min p r.priority
  | .set => r.priority

/-- The working map after a matching rule (R50). -/
def Rule.adjustMap (r : Rule) (m : BitVec 8) : BitVec 8 :=
  match r.mapMode with
  | .keep => m
  | .add => m ||| r.map
  | .mask => m &&& r.map
  | .set => r.map

/-! ## Counting (R52, R53) -/

/-- The level one above OPEN or LECTURE, which is as far as escalation goes (R53). -/
def Level.raised : Level → Option Level
  | .opened => some .lecture
  | .lecture => some .secure
  | .secure | .service => none

/-- A rule's counter is set. -/
def State.setCounter (s : State) (i : RuleId) (c : Counter) : State :=
  { s with counters := s.counters.set i.val c i.isLt }

/-- A COUNT_UP counter reaches its limit: RULE_EVENT, escalation with its LOCKOUT report, and the value
back to 0 (R53, R56, R59). -/
def State.limitReached (s : State) (i : RuleId) (cls : ReqClass) (kind : Byte) : State :=
  match (if (s.conf.rules.get i).escalate then s.level.raised else none) with
  | some raised =>
    ((({ s with level := raised }.offer
        (.ruleEvent { rule := i, event := .limitReached, origin := some (cls, kind), escalated := true,
                      level := raised })).offer
        (.lockout { cause := .escalation, level := raised, previous := s.level, source := byte i.val })
      ).setCounter i { s.counters.get i with value := 0 })
  | none =>
    (s.offer
        (.ruleEvent { rule := i, event := .limitReached, origin := some (cls, kind), escalated := false,
                      level := s.level })).setCounter i { s.counters.get i with value := 0 }

/-- A matching rule counts (R52). -/
def State.count (s : State) (i : RuleId) (cls : ReqClass) (kind : Byte) : State :=
  let value := (s.counters.get i).value + 1
  match (s.conf.rules.get i).counterMode with
  | .countUp =>
    if value = (s.conf.rules.get i).limit then s.limitReached i cls kind
    else s.setCounter i { s.counters.get i with value := value }
  | .none | .countDown => s

/-! ## Evaluation (R49, R51) -/

/-- The matrix cell of a level and a class (R42). -/
def Stored.cell (c : Stored) (v : Level) (cls : ReqClass) : Cell :=
  c.matrix.get
    ⟨6 * v.code + cls.code, by
      cases v <;> cases cls <;> simp [Level.code, ReqClass.code]⟩

/-- The rule set of a class (R48). -/
def Stored.ruleSet (c : Stored) (cls : ReqClass) : BitVec 16 :=
  c.ruleSets.get ⟨cls.code, by cases cls <;> simp [ReqClass.code]⟩

/-- An evaluation under way: the state with its counters and level, the working priority and map, the last
matching rule that touched the map, and the rule that has decided, with its verdict. -/
structure Working where
  s : State
  priority : Nat
  map : BitVec 8
  lastMap : Option RuleId
  decided : Option (RuleId × Bool)

/-- What an evaluation reads once, when it begins (R46, R47, R49). -/
structure Question where
  cls : ReqClass
  op : Operation
  cred : CredClass
  now : Option Nat

/-- One rule of the set is taken (R49 step 2). -/
def Working.takeRule (q : Question) (w : Working) (i : RuleId) : Working :=
  let r := w.s.conf.rules.get i
  if w.decided.isNone && (w.s.conf.ruleSet q.cls).getLsbD i.val && r.matches q.cls q.op.kindBit q.cred q.now
  then
    { s := w.s.count i q.cls q.op.kind
      priority := r.adjustPriority w.priority
      map := r.adjustMap w.map
      lastMap := if r.mapMode = .keep then w.lastMap else some i
      decided := match r.verdict with
        | .permit => some (i, true)
        | .deny => some (i, false)
        | .continue => none }
  else w

/-- A verdict with what it carries (R49, R51). -/
structure Verdict where
  permit : Bool
  deciding : Byte
  priority : Nat
  map : BitVec 8
  deriving DecidableEq, Repr

/-- The credential class that the rules test (R30, R46). -/
def State.credentialFor (s : State) : Operation → CredClass
  | .presentCredential t => s.classify t
  | .powerOn | .powerOff | .selectInput _ | .pictureMute _ | .setKeystone _ _ _ | .setCorner _ _ _
  | .recallGeometry _ | .setLampLevel _ | .setLampPlan _ | .setLockout _ | .endCredential
  | .setRule _ _ => s.holdClass

/-- The rules of the class's set, taken in ascending index (R49 step 2). -/
def State.takeRules (s : State) (cls : ReqClass) (op : Operation) (priority : Nat) : Working :=
  (List.finRange 16).foldl
    (Working.takeRule { cls := cls, op := op, cred := s.credentialFor op, now := s.minuteOfWeek })
    { s := s, priority := priority, map := (s.conf.cell s.level cls).map, lastMap := none,
      decided := none }

/-- The byte that names a rule, or the matrix (R51). -/
def decidingByte : Option RuleId → Byte
  | some i => byte i.val
  | none => 0xFF

/-- Whether an input map leaves out the input that a request selects (R49 step 4). -/
def Operation.outside (map : BitVec 8) : Operation → Bool
  | .selectInput i => !map.getLsbD i.val
  | .powerOn | .powerOff | .pictureMute _ | .setKeystone _ _ _ | .setCorner _ _ _ | .recallGeometry _
  | .setLampLevel _ | .setLampPlan _ | .setLockout _ | .presentCredential _ | .endCredential
  | .setRule _ _ => false

/-- A request is evaluated: the verdict, and the state that its counts leave (R49, R51). `override` is the
priority that a SCHEDULE request carries (R22). -/
def State.evaluate (s : State) (cls : ReqClass) (op : Operation) (override : Option Nat) : Verdict × State :=
  let cell := s.conf.cell s.level cls
  let w := s.takeRules cls op (override.getD cell.priority)
  let verdict : Verdict :=
    match w.decided with
    | some (i, false) => ⟨false, byte i.val, w.priority, w.map⟩
    | some (_, true) =>
      if op.outside w.map then ⟨false, decidingByte w.lastMap, w.priority, w.map⟩
      else ⟨true, 0xFF, w.priority, w.map⟩
    | none =>
      if !cell.permit then ⟨false, 0xFF, w.priority, w.map⟩
      else if op.outside w.map then ⟨false, decidingByte w.lastMap, w.priority, w.map⟩
      else ⟨true, 0xFF, w.priority, w.map⟩
  (verdict, w.s)

end Sys2Proof.Machine
end

