-- ==== Sys2Proof/Machine/Owners.lean ====
section
/-! DEFINITION. The owning blocks: what each operational request does once it is permitted, in every power
state, and its result (R35, R36, R57, R58, R87, R88, R90, R130, R131, R136, R142, R144, R145, R149, R157,
R162, R163), and the one way in that every origin shares (R22, R51). -/

namespace Sys2Proof.Machine

/-- A result with its payload (R7). -/
structure Answer where
  result : Result
  payload : List Byte
  deriving DecidableEq, Repr

/-- A result with no payload. -/
def Answer.bare (r : Result) : Answer := ⟨r, []⟩

/-- What an owning block answers, with the state it leaves. -/
abbrev Taken := Answer × State

/-- A request refused by its block changes nothing there (R7). -/
def State.refuse (s : State) (r : Result) : Taken := (Answer.bare r, s)

/-- Who asks, and with what the policy unit let the request through (R51). -/
structure Asker where
  cls : ReqClass
  priority : Nat
  origin : Option (Link × Byte)
  deriving DecidableEq, Repr

/-! ## The power unit -/

/-- The power intent record that a POWER_ON or POWER_OFF carried out leaves (R161). -/
def State.recordIntent (s : State) (on : Bool) (a : Asker) : State :=
  s.setPower { s.power with intent := on, intentClass := some a.cls, intentPriority := a.priority }

/-- The state now in force, as a payload (R162, R163). -/
def State.stateByte (s : State) : List Byte := [byte s.power.state.code]

/-- POWER_ON that calls the plan's lamps (R162, R85). -/
def State.startUpLamps (s : State) (a : Asker) : Taken :=
  let called := s.callLamps s.planLamps
  match called.calledSignal with
  | .noLamp =>
    (Answer.bare .state,
      (called.reportPower called.power.state .request .startFailed).lampEvent .none)
  | .degraded =>
    let marked := called.recordIntent true a
    let t := (marked.setPower { marked.power with degraded := true }).enterStarting .request .degraded
    (⟨.accepted, t.stateByte⟩, t)
  | .none =>
    let t := (called.recordIntent true a).enterStarting .request .none
    (⟨.accepted, t.stateByte⟩, t)

/-- POWER_ON, by the power state (R162); in STARTING, ON and DIMMED it is its own activity (R167, R169). -/
def State.takePowerOn (s : State) (a : Asker) : Taken :=
  match s.power.state with
  | .standby | .stopping => if s.recovery then s.refuse .state else s.startUpLamps a
  | .shutdown => s.refuse .state
  | .starting | .on | .dimmed =>
    let recorded := s.recordIntent true a
    let t := if a.cls = .auto then recorded else recorded.activity
    (⟨.ok, t.stateByte⟩, t)

/-- POWER_OFF, by the power state (R163). THE MODEL'S CHOICE (assumption 18): R71 gives the releases of the two
lamps no order, and lamp A is released first. -/
def State.takePowerOff (s : State) (a : Asker) : Taken :=
  match s.power.state with
  | .starting | .on | .dimmed =>
    let stopped := (s.recordIntent false a).enterStopping .request .none
    let t := ((stopped.releaseLamp .a).releaseLamp .b).lampEvent .none
    (⟨if t.power.state = .standby then .ok else .accepted, t.stateByte⟩, t)
  | .standby | .stopping => (⟨.ok, s.stateByte⟩, s.recordIntent false a)
  | .shutdown => s.refuse .state

/-! ## The switch unit -/

/-- A select is offered to the pending slot (R136). -/
def State.offerSlot (s : State) (i : InputId) (a : Asker) : Taken :=
  let newcomer : Pending :=
    { input := i, cls := a.cls, priority := a.priority, origin := a.origin,
      deferral := some (1000 * s.item 15) }
  let fits : Bool :=
    match s.sw.slot with
    | none => true
    | some p => p.priority ≤ a.priority
  if fits then
    let emptied := s.dropPending .superseded
    (⟨.accepted, [byte i.val, 1]⟩, emptied.putSwitch { emptied.sw with slot := some newcomer })
  else s.refuse .busy

/-- The selected input, as a payload. -/
def State.selectedByte (s : State) : List Byte := [byte s.sw.selected.val]

/-- A direct selection: the select lines carry the input at once, and the geometry unit is handed the source
(R130, R152). -/
def State.selectDirectly (s : State) (i : InputId) : State :=
  (s.putSwitch { s.sw with selected := i }).sourceEvent

/-- The input that a switch in flight goes to. -/
def SwitchUnit.target (u : SwitchUnit) : Option InputId := u.inFlight.map (·.target)

/-- SELECT_INPUT (R130, R131). -/
def State.takeSelect (s : State) (i : InputId) (a : Asker) : Taken :=
  match s.power.state with
  | .shutdown => s.refuse .state
  | .standby | .stopping =>
    let t := s.selectDirectly i
    (⟨.ok, t.selectedByte⟩, t)
  | .starting | .on | .dimmed =>
    if s.heldAgainst a.priority then s.refuse .held
    else if s.sw.inFlight.isNone && i == s.sw.selected then (⟨.ok, s.selectedByte⟩, s)
    else if s.sw.target = some i then (⟨.ok, s.selectedByte⟩, s)
    else if s.sw.inFlight.isNone then
      (⟨.accepted, [byte i.val, 0]⟩, s.beginSwitch i a.cls a.priority a.origin)
    else s.offerSlot i a

/-- PICTURE_MUTE (R142). -/
def State.takeMute (s : State) (on : Bool) : Taken :=
  if s.power.state = .shutdown then s.refuse .state
  else
    (⟨.ok, [flagByte on]⟩,
      if on = s.sw.mute then s else (s.putSwitch { s.sw with mute := on }).muteSeen)

/-! ## The geometry unit -/

/-- Keystone V and H as two signed bytes. -/
def GeoValues.keystoneBytes (g : GeoValues) : List Byte := [signed8 g.v, signed8 g.h]

/-- A candidate is applied or refused LIMIT; `reply` forms the payload from the values applied and the new
area (R149, R153). -/
def State.takeCandidate (s : State) (g : GeoValues) (reply : List Byte) : Taken :=
  if s.power.state = .shutdown then s.refuse .state
  else if s.geometryOk g then
    (⟨.ok, reply ++ be16 g.quad.area⟩, (s.adoptGeometry g).dueUpdate .request)
  else s.refuse .limit

/-- The candidate of SET_KEYSTONE (R144). -/
def GeoValues.withKeystone (g : GeoValues) (relative : Bool) (v h : Int) : GeoValues :=
  { g with
    v := saturate (-40) 40 (if relative then g.v + v else v)
    h := saturate (-30) 30 (if relative then g.h + h else h) }

/-- A corner's offset pair, saturated (R145). -/
def cornerOffset (dx dy : Int) : Point := ⟨saturate (-192) 192 dx, saturate (-192) 192 dy⟩

/-- The candidate of SET_CORNER (R145). -/
def GeoValues.withCorner (g : GeoValues) (c : Corner) (p : Point) : GeoValues :=
  match c with
  | .tl => { g with tl := p }
  | .tr => { g with tr := p }
  | .br => { g with br := p }
  | .bl => { g with bl := p }

/-- SET_KEYSTONE (R144). -/
def State.takeKeystone (s : State) (relative : Bool) (v h : Int) : Taken :=
  let g := s.conf.geometry.withKeystone relative v h
  s.takeCandidate g g.keystoneBytes

/-- SET_CORNER (R145). -/
def State.takeCorner (s : State) (c : Corner) (dx dy : Int) : Taken :=
  s.takeCandidate (s.conf.geometry.withCorner c (cornerOffset dx dy))
    (byte c.code :: (cornerOffset dx dy).bytes)

/-- RECALL_GEOMETRY (R157). -/
def State.takeRecall (s : State) (p : PresetId) : Taken :=
  let g := s.conf.presets.get p
  s.takeCandidate g (byte p.val :: g.keystoneBytes)

/-! ## The lamp channels -/

/-- SET_LAMP_LEVEL (R90). THE MODEL'S CHOICE (assumption 18): R90 gives two lamps in LIT no order, and lamp A
changes its demand and reports LEVEL first. -/
def State.takeLevel (s : State) (v : LampLevel) : Taken :=
  if s.power.state = .shutdown then s.refuse .state
  else
    let levelled := { s with conf := { s.conf with lampLevel := v } }
    (⟨.ok, [byte v.code]⟩,
      if v = s.conf.lampLevel then s else (levelled.relevelLamp .a).relevelLamp .b)

/-- Whether a plan names a lamp that is not available (R87). -/
def State.planBarred (s : State) : Plan → Bool
  | .fixedA => !s.lampA.available
  | .fixedB => !s.lampB.available
  | .dual | .alternate => false

/-- A lamp that is not called is called. -/
def State.callUncalled (s : State) (xs : List LampId) : State :=
  s.callLamps (xs.filter fun x => !(s.lamp x).called)

/-- The called set reshaped for the plan now in force, releases before calls (R88). THE MODEL'S CHOICE (assumption
18): R88 gives the two calls of DUAL no order, and lamp A is called first. -/
def State.reshape (s : State) : State :=
  match s.conf.plan with
  | .dual => s.callUncalled [.a, .b]
  | .alternate =>
    if s.lampA.called && s.lampB.called then s.releaseLamp (otherLamp s.lampToKeep) else s
  | .fixedA => (s.releaseLamp .b).callUncalled [.a]
  | .fixedB => (s.releaseLamp .a).callUncalled [.b]

/-- SET_LAMP_PLAN (R87, R88). -/
def State.takePlan (s : State) (p : Plan) : Taken :=
  if s.power.state = .shutdown then s.refuse .state
  else if s.planBarred p then s.refuse .state
  else if p = s.conf.plan then (⟨.ok, [byte p.code]⟩, s)
  else
    let planned := { s with conf := { s.conf with plan := p } }
    (⟨.ok, [byte p.code]⟩,
      if s.power.intent then planned.reshape.lampEvent planned.reshape.calledSignal
      else planned.settleDegraded)

/-! ## The policy unit as owner -/

/-- The lockout level becomes the one named; a report follows only a change (R57, R59). -/
def State.setLevel (s : State) (v : Level) (cause : LockoutCause) (source : Byte) : State :=
  if v = s.level then s
  else
    { s with level := v }.offer (.lockout { cause := cause, level := v, previous := s.level, source := source })

/-- SET_LOCKOUT (R57). -/
def State.takeLockout (s : State) (v : Level) (a : Asker) : Taken :=
  if s.power.state = .shutdown then s.refuse .state
  else (⟨.ok, [byte v.code]⟩, s.setLevel v .request (byte a.cls.code))

/-- Whether the table lock protects a rule (R63). -/
def State.ruleLocked (s : State) (r : RuleId) : Bool := s.conf.lock.on && r.val < s.conf.lock.rule

/-- A rule's contents are replaced. -/
def State.setRule (s : State) (i : RuleId) (r : Rule) : State :=
  { s with conf := { s.conf with rules := s.conf.rules.set i.val r i.isLt } }

/-- One unit of a rule's counter in ms (R54). -/
def Rule.unitMs (r : Rule) : Nat :=
  match r.unit with
  | .seconds => 1000
  | .minutes => 60000

/-- A rule's counter right after a reload: an enabled COUNT_DOWN rule runs from its limit (R54, R55). -/
def Rule.loaded (r : Rule) : Counter :=
  { value := if r.counterMode = .countDown then r.limit else 0
    unit := if r.enabled && r.counterMode == .countDown then some r.unitMs else none }

/-- A rule's counter is reloaded (R55). -/
def State.reload (s : State) (i : RuleId) : State := s.setCounter i (s.conf.rules.get i).loaded

/-- The schedule's SET_RULE (R58). -/
def State.takeSetRule (s : State) (i : RuleId) (on : Bool) : Taken :=
  if s.power.state = .shutdown then s.refuse .state
  else if s.ruleLocked i then s.refuse .locked
  else (Answer.bare .ok, (s.setRule i { s.conf.rules.get i with enabled := on }).reload i)

/-! ## The credential unit -/

/-- PRESENT_CREDENTIAL (R35). A PRESENT_CREDENTIAL comes from a link alone (R22). -/
def State.takePresent (s : State) (t : BitVec 48) (l : Link) : Taken :=
  let cls := s.classify t
  let minutes := s.item 4
  (⟨.ok, byte cls.code :: be16 minutes⟩,
    { s with hold := some { cls := cls, token := t, left := 60000 * minutes, link := l } }.offer
      (.credential
        { cause := .presented, cls := cls, previous := s.holdClass, link := l, minutes := minutes,
          token := t }))

/-- END_CREDENTIAL (R36). -/
def State.takeEnd (s : State) : Taken :=
  if s.power.state = .shutdown then s.refuse .state
  else (⟨.ok, [byte s.holdClass.code]⟩, s.endHold .ended)

/-! ## The one way in -/

/-- The link of a request's origin; requests without one never present a credential (R22). -/
def Asker.link (a : Asker) : Link :=
  match a.origin with
  | some (l, _) => l
  | none => .control

/-- A permitted request is taken by the block that owns the state it would change (R51). -/
def State.take (s : State) (o : Operation) (a : Asker) : Taken :=
  match o with
  | .powerOn => s.takePowerOn a
  | .powerOff => s.takePowerOff a
  | .selectInput i => s.takeSelect i a
  | .pictureMute on => s.takeMute on
  | .setKeystone relative v h => s.takeKeystone relative v h
  | .setCorner c dx dy => s.takeCorner c dx dy
  | .recallGeometry p => s.takeRecall p
  | .setLampLevel v => s.takeLevel v
  | .setLampPlan p => s.takePlan p
  | .setLockout v => s.takeLockout v a
  | .presentCredential t => s.takePresent t a.link
  | .endCredential => s.takeEnd
  | .setRule i on => s.takeSetRule i on

/-- Whether a permitted request is handed to the power unit as activity beside its owner: every kind from a
class other than AUTO but the power unit's own two (R167, R169, assumption 14). -/
def Operation.isActivity (o : Operation) (cls : ReqClass) : Bool :=
  cls != .auto && o != .powerOn && o != .powerOff

/-- A checked operational request of any origin: evaluated, and where it is permitted handed on (R22, R49,
R51). -/
def State.operate (s : State) (cls : ReqClass) (o : Operation) (origin : Option (Link × Byte))
    (override : Option Nat) : Taken :=
  let e := s.evaluate cls o override
  if e.1.permit then
    (if o.isActivity cls then e.2.activity else e.2).take o
      { cls := cls, priority := e.1.priority, origin := origin }
  else (⟨.denied, [e.1.deciding]⟩, e.2)

end Sys2Proof.Machine
end

