-- ==== Sys2Proof/Machine/Requests.lean ====
section
/-! DEFINITION. How a link takes a request and answers it (R5 to R8), and the key, remote and automatic
requests that have no link (R24 to R29, R141). -/

namespace Sys2Proof.Machine

/-! ## A link takes a request -/

/-- Whether a link takes its next request: the one before has produced its reply, and the reply list has a
free place (R5, R8). -/
def LinkState.ready (k : LinkState) : Bool :=
  !k.awaiting && k.owed.isNone && k.replies.length < Config.replyPlaces

/-- The link once it has taken a request: the oldest of its queue, or one that finds the queue empty and is
taken as it arrives (assumption 1); `none` when the link does not take it. -/
def LinkState.takes (k : LinkState) (r : Request) : Option LinkState :=
  if k.ready then
    match k.inbound with
    | [] => some k
    | q :: rest => if q = r then some { k with inbound := rest } else none
  else none

/-- The reply to a request (R5, R7). -/
def Answer.toReply (a : Answer) (kind tag : Byte) : Reply :=
  { kind := replyKind kind, tag := tag, result := a.result, payload := a.payload }

/-- A reply is produced for a request (R8). -/
def State.answer (s : State) (l : Link) (kind tag : Byte) (a : Answer) : State :=
  s.reply l (a.toReply kind tag)

/-- Whether a management request needs a TECH hold on either link (R6). -/
def needsTech (kind : Byte) (payload : List Byte) : Bool :=
  kind == 0x39 || kind == 0x3A || (kind == 0x3C && argByte payload 0 == 0)

/-- The access checks of R6: the refusal, if there is one. -/
def State.access (s : State) (l : Link) (kind : Byte) (payload : List Byte) : Option Answer :=
  if !isManagement kind then none
  else if kind = 0x3D then
    match l with
    | .control => none
    | .lectern => some ⟨.denied, [0xFE]⟩
  else if s.techHold then none
  else
    match l with
    | .control => if needsTech kind payload then some (Answer.bare .needsTech) else none
    | .lectern => some (Answer.bare .needsTech)

/-- The checks of R5 in their order: the first that fails gives the reply. -/
def State.linkRefusal (s : State) (l : Link) (kind : Byte) (payload : List Byte) : Option Answer :=
  match requestLength kind with
  | none => some (Answer.bare .unknownKind)
  | some n => if payload.length ≠ n then some (Answer.bare .badLength) else s.access l kind payload

/-- A link takes a request: the checks of R5, whose first failure is the reply, and then what follows for a
request that passes (R5). A link that does not take it is left as it was, and so is everything else
(assumption 6). -/
def State.handled (s : State) (l : Link) (kind tag : Byte) (payload : List Byte) (pass : State → State) :
    State :=
  match (s.link l).takes ⟨kind, tag, payload⟩ with
  | none => s
  | some k =>
    let taken := s.setLink l k
    match taken.linkRefusal l kind payload with
    | some refusal => taken.answer l kind tag refusal
    | none => pass taken

/-- A request whose owning block decides its result at once: the block, then the reply (R8). -/
def State.request (s : State) (l : Link) (kind tag : Byte) (payload : List Byte) (body : State → Taken) :
    State :=
  s.handled l kind tag payload fun t => (body t).2.answer l kind tag (body t).1

/-- An operational request from a link: refused BAD_VALUE when its codes are out of range, else judged
(R49, R51). -/
def State.operational (s : State) (l : Link) (kind tag : Byte) (payload : List Byte)
    (operation : Option Operation) : State :=
  s.request l kind tag payload fun t =>
    match operation with
    | none => t.refuse .badValue
    | some o => t.operate (ReqClass.ofLink l) o (some (l, tag)) none

/-! ## Requests with no link -/

/-- A request with no link: its result goes to no reply (R22). -/
def State.unlinked (s : State) (cls : ReqClass) (o : Operation) : State := (s.operate cls o none none).2

/-! ### Keys and the remote -/

/-- The input that is `k` steps after another, wrapping from IN7 to IN0 (R25). -/
def inputAfter (i : InputId) (k : Nat) : InputId := Fin.ofNat 8 (i.val + k)

/-- The input that the INPUT key steps on from (R25). -/
def SwitchUnit.reference (u : SwitchUnit) : InputId :=
  match u.slot with
  | some p => p.input
  | none =>
    match u.inFlight with
    | some w => w.target
    | none => u.selected

/-- The input that the INPUT key chooses (R25). -/
def State.inputKeyChoice (s : State) : InputId :=
  let candidates := [1, 2, 3, 4, 5, 6, 7].map (inputAfter s.sw.reference)
  (candidates.find? fun i => (s.input i).signal == .stable).getD (inputAfter s.sw.reference 1)

/-- The request of a key other than POWER (R24). -/
def State.keyOperation (s : State) : Key → Option Operation
  | .power => none
  | .input => some (.selectInput s.inputKeyChoice)
  | .mute => some (.pictureMute (!s.sw.mute))
  | .level => some (.setLampLevel (match s.conf.lampLevel with
    | .full => .eco
    | .eco => .full))
  | .keyUp => some (.setKeystone true 1 0)
  | .keyDown => some (.setKeystone true (-1) 0)

/-- A key's request is formed and handed to the policy unit (R24). -/
def State.formKey (s : State) (k : Key) (source : ReqClass) : State :=
  match s.keyOperation k with
  | some o => s.unlinked source o
  | none => s

/-- The confirmation window opens for a source (R26). -/
def State.openWindow (s : State) (source : ReqClass) : State :=
  { s with window := some { source := source, left := some Config.windowMs } }.offer
    (.confirm { source := source, event := .opened, state := s.power.state })

/-- A POWER press (R26). -/
def State.pressPower (s : State) (source : ReqClass) : State :=
  match s.power.state with
  | .standby | .stopping => s.unlinked source .powerOn
  | .starting | .on | .dimmed =>
    match s.window with
    | none => s.openWindow source
    | some w =>
      if w.source = source then (s.closeWindow .confirmed).unlinked source .powerOff
      else (s.closeWindow .cancelledKey).openWindow source
  | .shutdown => s

/-- A press of any key, from the keypad or the remote (R24, R26, R27). -/
def State.press (s : State) (k : Key) (source : ReqClass) : State :=
  match k with
  | .power => s.pressPower source
  | .input | .mute | .level | .keyUp | .keyDown => (s.closeWindow .cancelledKey).formKey k source

/-- A press of a DIRECT button (R28). -/
def State.pressDirect (s : State) (i : InputId) : State :=
  (s.closeWindow .cancelledKey).unlinked .remote (.selectInput i)

/-- What a remote command byte stands for (R28). -/
inductive Button where
  | key (k : Key)
  | direct (i : InputId)
  deriving DecidableEq, Repr

/-- The button of a command byte (R28). -/
def buttonOf (command : Byte) : Option Button :=
  if command = 0x10 then some (.key .power)
  else if command = 0x11 then some (.key .input)
  else if command = 0x12 then some (.key .mute)
  else if command = 0x13 then some (.key .level)
  else if command = 0x14 then some (.key .keyUp)
  else if command = 0x15 then some (.key .keyDown)
  else if 0x20 ≤ command.toNat then (inputOf (command.toNat - 0x20)).map .direct
  else none

/-! ### Auto-switch (R141) -/

/-- Whether auto-switch may choose an input (R141). -/
def State.isCandidate (s : State) (i : InputId) : Bool :=
  (s.input i).signal == .stable && s.autoRank i != 0

/-- The better of the choice so far and one more input: the lower rank, and the lower number of equal
ranks (R141). -/
def State.betterChoice (s : State) (best : Option InputId) (i : InputId) : Option InputId :=
  if s.isCandidate i then
    match best with
    | none => some i
    | some b => if s.autoRank i < s.autoRank b then some i else some b
  else best

/-- The input that auto-switch chooses (R141). -/
def State.autoCandidate (s : State) : Option InputId := (List.finRange 8).foldl s.betterChoice none

/-- An auto choice, made while the watch is LOST (R141). -/
def State.autoChoice (s : State) : State :=
  if s.sw.watch = .lost then
    match s.autoCandidate with
    | some i => s.unlinked .auto (.selectInput i)
    | none => s
  else s

/-- An input's signal state changes, and an input with a rank that becomes STABLE while the watch is LOST
brings an auto choice (R124, R141). -/
def State.signalSeen (s : State) (i : InputId) (r : InputRecord) (cause : InputCause) : State :=
  let changed := s.signalChange i r cause
  if r.signal = .stable ∧ (s.input i).signal ≠ .stable ∧ s.autoRank i ≠ 0 then changed.autoChoice
  else changed

end Sys2Proof.Machine
end

