-- ==== Sys2Proof/Machine/InputEvents.lean ====
section
/-! DEFINITION. The events of the input monitor and of the switch unit (R120 to R123, R132, R133, R135, R137,
R140, R141). -/

namespace Sys2Proof.Machine

/-- Whether the monitor measures in a power state (R120). -/
def PowerState.measures : PowerState → Bool
  | .starting | .on | .dimmed | .stopping => true
  | .standby | .shutdown => false

/-- A measurement as the monitor takes it: zeros without sync (R120). -/
def measureOf (sync : Bool) (width height rate : BitVec 16) : Measure :=
  if sync then ⟨true, width.toNat, height.toNat, rate.toNat⟩ else ⟨false, 0, 0, 0⟩

/-- MEASUREMENT (R120 to R124). -/
def execMeasurement (i : InputId) (sync : Bool) (width height rate : BitVec 16) (s : State) :
    Host.Outcome State Fault Refusal :=
  .next
    (if s.power.state.measures then
      let r := s.measured i (measureOf sync width height rate)
      if r.2 then s.signalSeen i r.1 .measurement else s.setInput i r.1
    else s)

/-- ACQUIRE_TIMEOUT (R122): the latest measurement decides. THE MODEL'S CHOICE (assumption 37): neither R122 nor
R124 names the cause in the INPUT_STATE report of this change, and it is MEASUREMENT. -/
def execAcquireTimeout (i : InputId) (s : State) : Host.Outcome State Fault Refusal :=
  .next
    (if (s.input i).signal = .acquiring ∧ (s.input i).acquire.isSome then
      s.signalSeen i
        ((s.input i).without (if (s.input i).latest.sync then .unsupported else .absent)) .measurement
    else s)

/-- BLANK_END (R132): the select lines move to the target and the settle timer starts. -/
def execBlankEnd (s : State) : Host.Outcome State Fault Refusal :=
  .next
    (match s.sw.inFlight with
      | none => s
      | some w =>
        if w.phase = .blank then
          s.putSwitch
            { s.sw with inFlight := some { w with phase := .settle, timer := some (100 * s.item 14) } }
        else s)

/-- SETTLE_EXPIRY (R133). -/
def execSettleExpiry (s : State) : Host.Outcome State Fault Refusal :=
  .next
    (match s.sw.inFlight with
      | none => s
      | some w =>
        if w.phase = .settle then
          match (s.input w.target).signal with
          | .stable => s.completeSwitch w .done
          | .acquiring =>
            s.putSwitch { s.sw with inFlight := some { w with phase := .awaitSignal, timer := none } }
          | .absent | .unsupported | .dormant => s.completeSwitch w .noSignal
        else s)

/-- DEFERRAL_EXPIRY (R137). -/
def execDeferralExpiry (s : State) : Host.Outcome State Fault Refusal :=
  .next (s.dropPending .deferralExpired)

/-- SOURCE_HOLD_EXPIRY (R135, R141). -/
def execSourceHoldExpiry (s : State) : Host.Outcome State Fault Refusal :=
  .next
    (match s.sw.hold with
      | none => s
      | some _ => (s.putSwitch { s.sw with hold := none }).autoChoice)

/-- LOSS_GRACE_EXPIRY (R140, R141). -/
def execLossGraceExpiry (s : State) : Host.Outcome State Fault Refusal :=
  .next
    (if s.sw.watch = .grace then (s.putSwitch { s.sw with watch := .lost, grace := none }).autoChoice else s)

end Sys2Proof.Machine
end

