-- ==== Sys2Proof/Machine/KeyEvents.lean ====
section
/-! DEFINITION. The events of the keypad, the remote, the confirmation window, the credential hold and the
counting-down rules (R23 to R29, R37, R54). A command of a timer that does not run, or of a key that is not
held, changes nothing (assumption 6). -/

namespace Sys2Proof.Machine

/-- The repeat period, for the two keys that repeat (R23). -/
def repeatTimer (down : Bool) : Timer := if down then some Config.repeatMs else none

/-- A key goes down or up (R23). -/
def Keypad.set (k : Keypad) (key : Key) (down : Bool) : Keypad :=
  match key with
  | .power => { k with power := down }
  | .input => { k with input := down }
  | .mute => { k with mute := down }
  | .level => { k with level := down }
  | .keyUp => { k with keyUp := down, upRepeat := repeatTimer down }
  | .keyDown => { k with keyDown := down, downRepeat := repeatTimer down }

/-- Whether a repeat of a key can come: the key is held and repeats (R23). -/
def Keypad.repeats (k : Keypad) : Key → Bool
  | .keyUp => k.keyUp && k.upRepeat.isSome
  | .keyDown => k.keyDown && k.downRepeat.isSome
  | .power | .input | .mute | .level => false

/-- KEY_PRESS (R23, R24). -/
def execKeyPress (k : Key) (s : State) : Host.Outcome State Fault Refusal :=
  .next ({ s with keypad := s.keypad.set k true }.press k .panel)

/-- KEY_RELEASE (R23): a release gives no request. -/
def execKeyRelease (k : Key) (s : State) : Host.Outcome State Fault Refusal :=
  .next { s with keypad := s.keypad.set k false }

/-- KEY_REPEAT (R23): as a press, but not one for the confirmation window. -/
def execKeyRepeat (k : Key) (s : State) : Host.Outcome State Fault Refusal :=
  .next
    (if s.keypad.repeats k then { s with keypad := s.keypad.set k true }.formKey k .panel else s)

/-- The time since the remote's last request of a repeating key (R29). -/
def RemoteMemory.since (r : RemoteMemory) : Key → Option Nat
  | .keyUp => r.sinceUp
  | .keyDown => r.sinceDown
  | .power | .input | .mute | .level => none

/-- A remote request of a key has been formed: the time since it starts again (R29). -/
def RemoteMemory.formed (r : RemoteMemory) : Key → RemoteMemory
  | .keyUp => { r with sinceUp := some 0 }
  | .keyDown => { r with sinceDown := some 0 }
  | .power | .input | .mute | .level => r

/-- A matching code without the repeat indication: a press (R28). -/
def State.pressRemote (s : State) (command : Byte) (b : Button) : State :=
  let heard := { s with remote := { s.remote with last := some command } }
  match b with
  | .key k => { heard with remote := heard.remote.formed k }.press k .remote
  | .direct i => heard.pressDirect i

/-- A matching code with the repeat indication: a request when the three tests of R29 hold. -/
def State.repeatRemote (s : State) (command : Byte) (b : Button) : State :=
  match b with
  | .direct _ => s
  | .key k =>
    if s.remote.last = some command ∧ (s.remote.since k).any (Config.repeatMs ≤ ·) then
      { s with remote := s.remote.formed k }.formKey k .remote
    else s

/-- REMOTE_CODE (R28, R29): a code of another address, or of no button, is ignored. -/
def execRemoteCode (address command : Byte) (again : Bool) (s : State) :
    Host.Outcome State Fault Refusal :=
  .next
    (if address.toNat = s.item 3 then
      match buttonOf command with
      | none => s
      | some b => if again then s.repeatRemote command b else s.pressRemote command b
    else s)

/-- CONFIRMATION_WINDOW_EXPIRY (R27). -/
def execConfirmationWindowExpiry (s : State) : Host.Outcome State Fault Refusal :=
  .next (s.closeWindow .expired)

/-- HOLD_EXPIRY (R37). -/
def execHoldExpiry (s : State) : Host.Outcome State Fault Refusal := .next (s.endHold .expired)

/-- A COUNT_DOWN rule reaches 0: it disables itself, and RULE_EVENT tells it (R54, R56). -/
def State.ruleExpired (s : State) (i : RuleId) : State :=
  ((s.setRule i { s.conf.rules.get i with enabled := false }).setCounter i ⟨0, none⟩).offer
    (.ruleEvent { rule := i, event := .expired, origin := none, escalated := false, level := s.level })

/-- COUNT_DOWN_DECREMENT (R54). -/
def execCountDownDecrement (i : RuleId) (s : State) : Host.Outcome State Fault Refusal :=
  .next
    (if (s.conf.rules.get i).enabled ∧ (s.conf.rules.get i).counterMode = .countDown
        ∧ (s.counters.get i).unit.isSome then
      if (s.counters.get i).value ≤ 1 then s.ruleExpired i
      else
        s.setCounter i { value := (s.counters.get i).value - 1, unit := some (s.conf.rules.get i).unitMs }
    else s)

end Sys2Proof.Machine
end

