-- ==== Sys2Proof/Machine/LampEvents.lean ====
section
/-! DEFINITION. The events of the lamps and of the thermal alarm input (R68, R73 to R77, R81, R82, R94, R111,
R113, R115, R170). -/

namespace Sys2Proof.Machine

/-- Whether a lamp is in a state with its timer running. -/
def Lamp.timing (m : Lamp) (st : LampState) : Bool := m.state == st && m.timer.isSome

/-- A lamp's timer has run out: what was left of it has passed since the last extinguish too
(assumption 4). -/
def State.ranOut (s : State) (x : LampId) : State :=
  s.setLamp x { s.lamp x with since := (s.lamp x).since + (s.lamp x).timer.toGo, timer := none }

/-- The time since a lamp's last extinguish has reached the restrike hold (assumption 4). -/
def State.heldOut (s : State) (x : LampId) : State :=
  s.setLamp x { s.lamp x with since := max (s.lamp x).since s.restrikeHold }

/-- LIT_SENSE (R68, R73, R77). -/
def execLitSense (x : LampId) (s : State) : Host.Outcome State Fault Refusal :=
  .next
    (if (s.lamp x).state = .ignite then
      LampMove.finish
        (s.moveLamp x (fun m => { m with state := .warmup, timer := some (1000 * s.item 6) }) false .litSense,
          false) x
    else s)

/-- STRIKE_WINDOW_EXPIRY (R74). -/
def execStrikeWindowExpiry (x : LampId) (s : State) : Host.Outcome State Fault Refusal :=
  .next (if (s.lamp x).timing .ignite then ((s.ranOut x).strikeFailed x false).finish x else s)

/-- What follows the end of a retry wait: the strike, or a longer wait for the restrike hold (R75). -/
def State.retryWaited (s : State) (x : LampId) : State :=
  if (s.lamp x).available ∧ (s.lamp x).since < s.restrikeHold then s else (s.strike x).finish x

/-- RETRY_WAIT_EXPIRY (R75). -/
def execRetryWaitExpiry (x : LampId) (s : State) : Host.Outcome State Fault Refusal :=
  .next (if (s.lamp x).timing .retryWait then (s.ranOut x).retryWaited x else s)

/-- RETRY_HOLD_REACHED (R75): a lamp in RETRY_WAIT whose wait is over reaches its restrike hold. -/
def execRetryHoldReached (x : LampId) (s : State) : Host.Outcome State Fault Refusal :=
  .next
    (if (s.lamp x).state = .retryWait ∧ (s.lamp x).timer.isNone then ((s.heldOut x).strike x).finish x
    else s)

/-- BALLAST_FAULT (R68, R76): a lamp in DARK, COOLDOWN, HOT or OUT is unchanged but for its line. -/
def execBallastFault (x : LampId) (s : State) : Host.Outcome State Fault Refusal :=
  let asserted := s.setLamp x { s.lamp x with faultLine := true }
  .next
    (match (s.lamp x).state with
      | .dark | .cooldown | .hot | .out => asserted
      | .ignite | .retryWait | .warmup | .lit | .dimmed => (asserted.takeFault x).finish x)

/-- BALLAST_FAULT_RELEASE (R68): no effect but on the line. -/
def execBallastFaultRelease (x : LampId) (s : State) : Host.Outcome State Fault Refusal :=
  .next (s.setLamp x { s.lamp x with faultLine := false })

/-- Where a lamp goes at the end of its warm-up (R77). -/
def State.warmedTo (s : State) (m : Lamp) : LampState :=
  if s.power.state = .dimmed ∧ m.wakeLate < s.item 31 then .dimmed else .lit

/-- The end of a warm-up, lamp weak having been sampled (R77). -/
def State.warmed (s : State) (x : LampId) : State :=
  if (s.lamp x).pendingOff then s.extinguish x false .extinguish
  else s.moveLamp x (fun m => { m with state := s.warmedTo m }) false .warmed

/-- WARMUP_EXPIRY (R77). -/
def execWarmupExpiry (x : LampId) (weak : Bool) (s : State) : Host.Outcome State Fault Refusal :=
  .next
    (if (s.lamp x).timing .warmup then
      LampMove.finish ((((s.ranOut x).conditionIf weak x .arcWeak).warmed x), false) x
    else s)

/-- COOLDOWN_EXPIRY (R81, R114). -/
def execCooldownExpiry (x : LampId) (s : State) : Host.Outcome State Fault Refusal :=
  .next
    (if (s.lamp x).timing .cooldown then (((s.ranOut x).cooled x).finish x).tryEndRecovery else s)

/-- HOLD_REACHED (R82). -/
def execHoldReached (x : LampId) (s : State) : Host.Outcome State Fault Refusal :=
  .next (if (s.lamp x).state = .hot then ((s.heldOut x).reachDark x).finish x else s)

/-- LIT_SECOND (R94, R96, R100). -/
def execLitSecond (x : LampId) (s : State) : Host.Outcome State Fault Refusal :=
  .next
    (if (s.lamp x).state.burning then
      let counted :=
        (s.setLamp x { s.lamp x with fraction := 0, litSeconds := (s.lamp x).litSeconds + 1 }).addWear x
          (litUnits (s.lamp x).state s.conf.lampLevel)
      if Config.checkpointSeconds ≤ (s.lamp x).litSeconds + 1 then counted.checkpointFor x else counted
    else s)

/-- THERMAL_ALARM (R111, R113). -/
def execThermalAlarm (s : State) : Host.Outcome State Fault Refusal :=
  .next
    (if s.recovery then { s with thermalInput := true, latch := true }.reportThermal .latched
    else { s with thermalInput := true }.thermalAlarm)

/-- THERMAL_INPUT_RELEASE (R115): no effect at the moment it occurs; the level is read later. -/
def execThermalInputRelease (s : State) : Host.Outcome State Fault Refusal :=
  .next { s with thermalInput := false }

/-- AT_LEVEL (R170): an assertion in time stops the wake timer. -/
def execAtLevel (x : LampId) (s : State) : Host.Outcome State Fault Refusal :=
  .next (s.setLamp x { s.lamp x with atLevelLine := true, wakeTimer := none })

/-- AT_LEVEL_RELEASE (R170): no effect but on the line. -/
def execAtLevelRelease (x : LampId) (s : State) : Host.Outcome State Fault Refusal :=
  .next (s.setLamp x { s.lamp x with atLevelLine := false })

/-- WAKE_TIMER_EXPIRY (R170). -/
def execWakeTimerExpiry (x : LampId) (s : State) : Host.Outcome State Fault Refusal :=
  .next
    (if (s.lamp x).wakeTimer.isSome then
      let told := (s.setLamp x { s.lamp x with wakeTimer := none }).condition x .wakeLate
      told.setLamp x { told.lamp x with wakeLate := min ((told.lamp x).wakeLate + 1) Config.wakeLateTop }
    else s)

end Sys2Proof.Machine
end

