-- ==== Sys2Proof/Machine/LinkEvents.lean ====
section
/-! DEFINITION. The commands of the link itself (R2 to R5, R12). -/

namespace Sys2Proof.Machine

/-- The request in the body of a well-framed frame (R1, R4). -/
def requestOf (body : List Byte) : Request := ⟨body.getD 0 0, body.getD 1 0, body.drop 2⟩

/-- The assembler returns to HUNT (R2). -/
def LinkState.hunt (k : LinkState) : LinkState := { k with assembler := .hunt, stall := none }

/-- A frame is discarded, and counted (R2, R3). -/
def LinkState.discard (k : LinkState) : LinkState := k.hunt.countError

/-- A request is offered to the inbound queue: it joins, is answered BUSY, or is dropped and counted (R4). -/
def LinkState.offerRequest (k : LinkState) (r : Request) : LinkState :=
  if k.inbound.length < Config.inboundPlaces then { k with inbound := k.inbound ++ [r] }
  else if k.replies.length < Config.replyPlaces then k.reply ((Answer.bare .busy).toReply r.kind r.tag)
  else k.countError

/-- The assembler goes on, with the stall time running afresh from this byte (R3). -/
def LinkState.assemble (k : LinkState) (a : Assembler) : LinkState :=
  { k with assembler := a, stall := some Config.stallMs }

/-- A byte arrives; `stop` is false when its stop bit is missing (R2). -/
def LinkState.receive (k : LinkState) (b : Byte) (stop : Bool) : LinkState :=
  match k.assembler with
  | .hunt => if stop && b == 0x5A then k.assemble .length else k
  | .length =>
    if stop && 2 ≤ b.toNat && b.toNat ≤ 250 then k.assemble (.body b.toNat []) else k.discard
  | .body len got =>
    if !stop then k.discard
    else if len ≤ got.length + 1 then k.assemble (.check len (got ++ [b]))
    else k.assemble (.body len (got ++ [b]))
  | .check len got =>
    if stop && byteSum (byte len :: got ++ [b]) == 0 then k.hunt.offerRequest (requestOf got)
    else k.discard

/-- LINK_BYTE_RECEIVED (R2, R4). -/
def execLinkByteReceived (l : Link) (b : Byte) (stop : Bool) (s : State) :
    Host.Outcome State Fault Refusal :=
  .next (s.setLink l ((s.link l).receive b stop))

/-- FRAME_STALL (R3): in HUNT there is no frame to discard. -/
def execFrameStall (l : Link) (s : State) : Host.Outcome State Fault Refusal :=
  .next (if (s.link l).assembler = .hunt then s else s.setLink l (s.link l).discard)

/-- UNKNOWN_KIND (R5): the kind is none of the 42. -/
def execUnknownKind (l : Link) (kind tag : Byte) (payload : List Byte) (s : State) :
    Host.Outcome State Fault Refusal :=
  .next
    (if (requestLength kind).isSome then s
      else s.request l kind tag payload fun t => t.refuse .unknownKind)

/-- The OK reply to a RESTART (R8, R195). -/
def OutFrame.isRestartReply : OutFrame → Bool
  | .reply r => r.kind == 0xBD && r.result == .ok
  | .report _ _ => false

/-- FRAME_SEND_END (R12): the line takes the next frame; the end of a RESTART's reply makes the restart due
(R8, assumption 10). -/
def execFrameSendEnd (l : Link) (s : State) : Host.Outcome State Fault Refusal :=
  .next
    (match (s.link l).sending with
      | none => s
      | some f =>
        { s.setLink l { s.link l with sending := none }.fillLine with
          restartDue := s.restartDue || (l == .control && f.isRestartReply) })

end Sys2Proof.Machine
end

