-- ==== Sys2Proof/Machine/Records.lean ====
section
/-! DEFINITION. The management requests over the lamps' and the links' records: READ_STATUS (R14, R17),
READ_LAMP (R99), READ_INCIDENTS (R109), SERVICE_CLEAR (R117, R118), RESET_LAMP_WEAR (R103); over the inputs:
READ_INPUT (R127), READ_FORMAT and WRITE_FORMAT (R126); and over the geometry: READ_GEOMETRY (R158) and
STORE_GEOMETRY (R156). -/

namespace Sys2Proof.Machine

/-! ## The status record -/

/-- The switch phase code of the status record (R17). -/
def SwitchUnit.phaseCode (u : SwitchUnit) : Nat :=
  match u.inFlight with
  | none => 0
  | some w =>
    match w.phase with
    | .blank => 1
    | .settle => 2
    | .awaitSignal => 3

/-- An input number, 0xFF when there is none (R17). -/
def inputByte : Option InputId → Byte
  | some i => byte i.val
  | none => 0xFF

/-- Minutes remaining of the credential hold, 0 without one (R17). -/
def State.holdMinutes (s : State) : Nat :=
  match s.hold with
  | some h => h.minutes
  | none => 0

/-- The 16-byte status record (R17). -/
def State.statusRecord (s : State) : List Byte :=
  [byte s.power.state.code, flagByte s.power.intent, byte s.level.code, byte s.holdClass.code,
    byte s.holdMinutes, byte s.sw.selected.val, byte s.sw.phaseCode, inputByte s.sw.target,
    inputByte (s.sw.slot.map (·.input)), byte s.lampA.state.code, byte s.lampB.state.code,
    byte s.conf.plan.code, byte s.conf.lampLevel.code, statusFlags s, byte s.control.errors,
    byte s.lectern.errors]

/-- READ_STATUS (R14): the record shows the reports-lost flag as it stood before the clearing. -/
def State.bodyReadStatus (l : Link) (s : State) : Taken :=
  (⟨.ok, s.statusRecord⟩, s.setLink l { s.link l with lost := false })

/-! ## Lamps -/

/-- READ_LAMP (R99). -/
def State.bodyReadLamp (payload : List Byte) (s : State) : Taken :=
  match lampOf (arg payload 0) with
  | none => s.refuse .badValue
  | some x => (⟨.ok, s.lampRecordBytes x⟩, s)

/-- READ_INCIDENTS (R21, R109). -/
def State.bodyReadIncidents (payload : List Byte) (s : State) : Taken :=
  match lampOf (arg payload 0) with
  | none => s.refuse .badValue
  | some x =>
    (⟨.ok, [byte (lampCode x), byte (s.lamp x).history.length] ++ (s.lamp x).history.flatMap Incident.bytes⟩, s)

/-- SERVICE_CLEAR of a lamp (R117). -/
def State.clearLamp (s : State) (x : LampId) : Taken :=
  match (s.lamp x).state with
  | .out =>
    let t := (s.serviceLamp x).checkpoint
    (⟨.ok, t.lampRecordBytes x⟩, t)
  | .dark | .hot =>
    let t := (s.setLamp x { s.lamp x with wakeLate := 0 }).checkpoint
    (⟨.ok, t.lampRecordBytes x⟩, t)
  | .ignite | .retryWait | .warmup | .lit | .dimmed | .cooldown => s.refuse .state

/-- A lamp that is not OUT goes to HOT at a clear of the projector (R83, R118). -/
def State.rehold (s : State) (x : LampId) : State := if (s.lamp x).state = .out then s else s.serviceLamp x

/-- SERVICE_CLEAR of the projector (R118). THE MODEL'S CHOICE (assumption 18): step 2 of R118 gives the two
lamps no order, and lamp A enters HOT and reports SERVICE first. -/
def State.clearProjector (s : State) : Taken :=
  if s.power.state ≠ .shutdown ∨ s.thermalInput then s.refuse .state
  else
    let cleared := { s with latch := false }.setRecovery false
    let told := ((cleared.rehold .a).rehold .b).reportThermal .cleared
    let t := (told.setPower { told.power with intent := false }).enterStandby .service
    (⟨.ok, t.stateByte⟩, t)

/-- SERVICE_CLEAR (R117). -/
def State.bodyServiceClear (payload : List Byte) (s : State) : Taken :=
  if arg payload 0 = 2 then s.clearProjector
  else
    match lampOf (arg payload 0) with
    | none => s.refuse .badValue
    | some x => s.clearLamp x

/-- A lamp's wear state set to that of a new lamp (R103 steps 1 and 2). -/
def Lamp.renewed (m : Lamp) : Lamp :=
  { m with
    wear := 0, strikeCount := 0, fraction := 0, litSeconds := 0, expired := false, wearUnknown := false
    warning := false, endOfLife := false, wakeLate := 0, history := [] }

/-- RESET_LAMP_WEAR (R103). -/
def State.bodyResetLampWear (payload : List Byte) (s : State) : Taken :=
  match lampOf (arg payload 0) with
  | none => s.refuse .badValue
  | some x =>
    if (s.lamp x).state = .dark ∨ (s.lamp x).state = .out then
      let tested := (s.setLamp x (s.lamp x).renewed).testThresholds x
      let served := if (s.lamp x).state = .out then tested.serviceLamp x else tested
      let t := served.checkpointFor x
      (⟨.ok, t.lampRecordBytes x⟩, t)
    else s.refuse .state

/-! ## Inputs and formats -/

/-- The aspect bytes of READ_INPUT: the override, or the width and height where both fit a byte; what
stands in one byte for a larger figure the manual does not state (R125, R127, assumption 31). -/
def Format.aspectBytes (f : Format) : List Byte :=
  match f.aspect with
  | some (n, d) => [byte n, byte d]
  | none =>
    if f.width < 256 ∧ f.height < 256 then [byte f.width, byte f.height]
    else be16 (Config.unstatedAspectBytes f.width f.height).toNat

/-- The 17 bytes of READ_INPUT (R127). -/
def State.inputBytes (s : State) (i : InputId) : List Byte :=
  let r := s.input i
  [byte i.val, byte r.signal.code, formatByte (s.formatIndex i), flagByte r.latest.sync]
    ++ be16 r.latest.width ++ be16 r.latest.height ++ be16 r.latest.rate ++ be16 r.activity
    ++ [byte (s.aspectMode i).code, byte (s.autoRank i)]
    ++ (match s.stableFormat i with
      | some f => f.aspectBytes
      | none => [0, 0])
    ++ [flagByte (i == s.sw.selected)]

/-- READ_INPUT (R127). -/
def State.bodyReadInput (payload : List Byte) (s : State) : Taken :=
  match inputOf (arg payload 0) with
  | none => s.refuse .badValue
  | some i => (⟨.ok, s.inputBytes i⟩, s)

/-- The format entry with an index. -/
def formatIndexOf (n : Nat) : Option (Fin 16) := if h : n < 16 then some ⟨n, h⟩ else none

/-- READ_FORMAT (R126). -/
def State.bodyReadFormat (payload : List Byte) (s : State) : Taken :=
  match formatIndexOf (arg payload 0) with
  | none => s.refuse .badValue
  | some n => (⟨.ok, (s.conf.formats.get n).record⟩, s)

/-- The format entry that a WRITE_FORMAT payload carries, checks 2 to 5 having passed (R126). -/
def formatWritten (p : List Byte) : Option Format :=
  match onOff (arg p 1), onOff (arg p 10) with
  | some on, some override =>
    if arg16 p 2 < 1 ∨ 4096 < arg16 p 2 ∨ arg16 p 4 < 1 ∨ 2160 < arg16 p 4 then none
    else if arg16 p 6 < 1 ∨ arg16 p 8 < 1 ∨ arg16 p 8 < arg16 p 6 then none
    else if override ∧ (arg p 11 < 1 ∨ 64 < arg p 11 ∨ arg p 12 < 1 ∨ 64 < arg p 12) then none
    else
      some
        { enabled := on, width := arg16 p 2, height := arg16 p 4, rateMin := arg16 p 6,
          rateMax := arg16 p 8, aspect := if override then some (arg p 11, arg p 12) else none }
  | _, _ => none

/-- WRITE_FORMAT: the entry is replaced and the inputs are re-evaluated, IN0 first (R126). -/
def State.bodyWriteFormat (payload : List Byte) (s : State) : Taken :=
  match formatIndexOf (arg payload 0), formatWritten payload with
  | some n, some f =>
    let written := { s with conf := { s.conf with formats := s.conf.formats.set n.val f n.isLt } }
    (⟨.ok, f.record⟩, (List.finRange 8).foldl (State.rematch n) written)
  | _, _ => s.refuse .badValue

/-! ## Geometry -/

/-- The 60 bytes of the geometry in force (R158). -/
def State.geometryBytes (s : State) : List Byte :=
  0 :: s.conf.geometry.keystoneBytes ++ s.conf.geometry.offsetBytes ++ s.geo.quad.bytes
    ++ be16 s.geo.area ++ s.geo.pictureQuad.bytes ++ be16 s.geo.pictureArea
    ++ [byte s.geo.input.val, byte s.geo.fit.code, flagByte s.geo.deferred] ++ be16 (s.item 25)

/-- The 22 bytes of a preset, with the two figures computed for it (R158). -/
def State.presetBytes (s : State) (p : PresetId) : List Byte :=
  let g := s.conf.presets.get p
  byte (p.val + 1) :: g.keystoneBytes ++ g.offsetBytes ++ be16 g.quad.area ++ [flagByte (s.geometryOk g)]

/-- READ_GEOMETRY (R158). -/
def State.bodyReadGeometry (payload : List Byte) (s : State) : Taken :=
  if arg payload 0 = 0 then (⟨.ok, s.geometryBytes⟩, s)
  else
    match presetOf (arg payload 0 - 1) with
    | none => s.refuse .badValue
    | some p => (⟨.ok, s.presetBytes p⟩, s)

/-- STORE_GEOMETRY (R156). -/
def State.bodyStoreGeometry (payload : List Byte) (s : State) : Taken :=
  match presetOf (arg payload 0) with
  | none => s.refuse .badValue
  | some p =>
    (⟨.ok, [byte p.val]⟩,
      { s with conf := { s.conf with presets := s.conf.presets.set p.val s.conf.geometry p.isLt } })

end Sys2Proof.Machine
end

