-- ==== Sys2Proof/Machine/Schedule.lean ====
section
/-! DEFINITION. The room schedule: the exception list and its purge (R183 to R185), firing (R186 to R188),
the reconstruction of the lockout level (R189), and the schedule's management requests (R179 to R184). -/

namespace Sys2Proof.Machine

/-! ## The exception list -/

/-- The records of a date that has not passed (R185). -/
def purged (today : Date) (es : List ExceptionRecord) : List ExceptionRecord :=
  es.filter fun e => !e.date.before today

/-- The exception list is replaced. -/
def State.setExceptions (s : State) (es : List ExceptionRecord) : State :=
  { s with conf := { s.conf with exceptions := es } }

/-- The purge against the clock's date; none while the clock is unset (R185). -/
def State.purge (s : State) : State :=
  match s.clock with
  | none => s
  | some c => s.setExceptions (purged c.now.date s.conf.exceptions)

/-- A record inserted at its place in date order, or put in the place of the one that holds its date
(R183). -/
def insertException (r : ExceptionRecord) : List ExceptionRecord → List ExceptionRecord
  | [] => [r]
  | e :: es =>
    if e.date = r.date then r :: es
    else if r.date.before e.date then r :: e :: es
    else e :: insertException r es

/-- The suppressed-action set of a date, empty without a record (R186). -/
def suppressedOn (es : List ExceptionRecord) (d : Date) : BitVec 8 :=
  match es.find? fun e => e.date == d with
  | some e => e.actions
  | none => 0

/-! ## The clock -/

/-- A date-time in seven payload bytes (R179). -/
def dateTimeAt (p : List Byte) : DateTime :=
  { date := ⟨arg16 p 0, arg p 2, arg p 3⟩, hour := arg p 4, minute := arg p 5, second := arg p 6 }

/-! ## Reconstruction (R189) -/

/-- Minutes back from now to a minute of the week (R189). -/
def distanceBack (now at_ : Nat) : Nat := (now + Config.weekMinutes - at_) % Config.weekMinutes

/-- The SET_LOCKOUT level of an enabled entry, with its distances on each of its days (R189). -/
def Entry.candidates (e : Entry) (now : Nat) : List Nat :=
  if e.enabled && e.action == .setLockout then
    ((List.range 7).filter fun d => e.days.getLsbD d).map fun d => distanceBack now (d * 1440 + e.minute)
  else []

/-- The least distance of an entry that today's record does not strike out: a candidate that falls today is
one whose distance is at most the minute of the day (R189). -/
def Entry.leastDistance (e : Entry) (now minuteOfDay : Nat) (struck : Bool) : Option Nat :=
  ((e.candidates now).filter fun d => !(struck && decide (d ≤ minuteOfDay))).min?

/-- The better of the choice so far and one more entry: at equal distances the higher index (R189). -/
def betterEntry (now minuteOfDay : Nat) (struck : Bool) (best : Option (Nat × Nat)) (e : Entry) :
    Option (Nat × Nat) :=
  match e.leastDistance now minuteOfDay struck, best with
  | none, b => b
  | some d, none => some (d, e.arg1)
  | some d, some (b, v) => if d ≤ b then some (d, e.arg1) else some (b, v)

/-- The level that the week table gives for now, if some entry gives one (R189). -/
def Stored.levelAt (c : Stored) (t : DateTime) : Option Level :=
  ((c.week.toList.foldl
    (betterEntry t.minuteOfWeek t.minuteOfDay
      ((suppressedOn c.exceptions t.date).getLsbD Action.setLockout.code)) none).map (·.2)).bind Level.ofCode

/-- The lockout level is reconstructed, while the setting is on and the clock is set (R59, R189). -/
def State.reconstruct (s : State) : State :=
  if s.item 39 = 0 then s
  else
    match s.clock.bind fun c => s.conf.levelAt c.now with
    | some v => s.setLevel v .scheduleRestore 0xFF
    | none => s

/-! ## Firing (R186 to R188) -/

/-- The request that an entry's action forms; `none` for NOTICE, and for an argument out of the range that
WRITE_ENTRY keeps (R182, R187). -/
def Entry.operation (e : Entry) : Option Operation :=
  match e.action with
  | .powerOn => some .powerOn
  | .powerOff => some .powerOff
  | .selectInput => (inputOf e.arg1).map .selectInput
  | .setLockout => (Level.ofCode e.arg1).map .setLockout
  | .recallGeometry => (presetOf e.arg1).map .recallGeometry
  | .setLampLevel => (LampLevel.ofCode e.arg1).map .setLampLevel
  | .setRule => (ruleOf e.arg1).bind fun r => (onOff e.arg2).map fun on => .setRule r on
  | .notice => none

/-- A SCHEDULE_FIRED report (R188). -/
def State.reportFired (s : State) (n : Nat) (e : Entry) (disposition : Disposition) (result : Option Result)
    (deciding : Byte) (minute : Nat) : State :=
  s.offer
    (.scheduleFired
      { entry := n, disposition := disposition, action := e.action, arg1 := e.arg1, arg2 := e.arg2,
        priority := e.priority, result := result, deciding := deciding, minute := minute })

/-- The deciding byte of SCHEDULE_FIRED: that of R51 for DENIED, 0xFF otherwise (R188). -/
def Answer.decidingByte (a : Answer) : Byte := if a.result = .denied then a.payload.headD 0xFF else 0xFF

/-- An entry that is due is fired whole, and then reported (R186, R187). -/
def State.fire (s : State) (n : Nat) (e : Entry) (minute : Nat) : State :=
  if e.action = .notice then
    (s.offer (.notice { code := e.arg1, entry := n, minute := minute })).reportFired n e .fired (some .ok)
      0xFF minute
  else
    match e.operation with
    | none => s.reportFired n e .fired (some .badValue) 0xFF minute
    | some o =>
      let t := s.operate .schedule o none (some e.priority)
      t.2.reportFired n e .fired (some t.1.result) t.1.decidingByte minute

/-- Whether an entry is due at a minute start (R186). -/
def Entry.due (e : Entry) (t : DateTime) : Bool :=
  e.enabled && e.days.getLsbD t.date.weekday && e.minute == t.minuteOfDay

/-- One entry at a minute start: passed over, suppressed or fired (R186). `week` and `suppressed` are the
table and today's set as they stood when the entries due were taken. -/
def State.handleEntry (week : Vector Entry 48) (suppressed : BitVec 8) (t : DateTime) (s : State)
    (n : Fin 48) : State :=
  let e := week.get n
  if e.due t then
    if suppressed.getLsbD e.action.code then s.reportFired n.val e .suppressed none 0xFF t.minuteOfWeek
    else s.fire n.val e t.minuteOfWeek
  else s

/-- The week table is fired for the minute that has started (R186). THE MODEL'S CHOICE (assumption 36): R186
lets a request of another source come between two entries of one minute, and here every entry due is handled
in the one step of MINUTE_START, with nothing between. -/
def State.fireWeek (s : State) (t : DateTime) : State :=
  (List.finRange 48).foldl (State.handleEntry s.conf.week (suppressedOn s.conf.exceptions t.date) t) s

/-! ## The management requests -/

/-- READ_CLOCK (R180). -/
def State.bodyReadClock (s : State) : Taken :=
  match s.clock with
  | none => s.refuse .clockUnset
  | some c => (⟨.ok, c.now.bytes ++ byte c.now.date.weekday :: be16 c.now.minuteOfWeek⟩, s)

/-- SET_CLOCK (R179). -/
def State.bodySetClock (payload : List Byte) (s : State) : Taken :=
  let t := dateTimeAt payload
  if t.valid then
    (⟨.ok, t.bytes⟩, ({ s with clock := some ⟨t, 0⟩, skip := true }.purge).reconstruct)
  else s.refuse .badValue

/-- The week entry with an index. -/
def entryIndex (n : Nat) : Option (Fin 48) := if h : n < 48 then some ⟨n, h⟩ else none

/-- READ_ENTRY (R182). -/
def State.bodyReadEntry (payload : List Byte) (s : State) : Taken :=
  match entryIndex (arg payload 0) with
  | none => s.refuse .badValue
  | some n => (⟨.ok, (s.conf.week.get n).record⟩, s)

/-- Whether both arguments are in the range of an action (R181, R182). -/
def Action.argsOk (a : Action) (arg1 arg2 : Nat) : Bool :=
  match a with
  | .powerOn | .powerOff => arg1 == 0 && arg2 == 0
  | .selectInput => arg1 < 8 && arg2 == 0
  | .setLockout | .recallGeometry => arg1 < 4 && arg2 == 0
  | .setLampLevel => arg1 < 2 && arg2 == 0
  | .setRule => arg1 < 16 && arg2 < 2
  | .notice => arg2 == 0

/-- The days and minute groups of WRITE_ENTRY; the record stands at payload byte 2 (R19, R182). -/
def Entry.writeWhen (p : List Byte) (e : Entry) : Option Entry :=
  let mask := arg p 1
  if (mask.testBit 1 && decide (128 ≤ arg p 3)) || (mask.testBit 2 && decide (1440 ≤ arg16 p 4)) then none
  else
    some
      { e with
        enabled := if mask.testBit 0 then (arg p 2).testBit 0 else e.enabled
        days := if mask.testBit 1 then BitVec.ofNat 7 (arg p 3) else e.days
        minute := if mask.testBit 2 then arg16 p 4 else e.minute }

/-- The action group of WRITE_ENTRY (R182). -/
def Entry.writeAction (p : List Byte) (e : Entry) : Option Entry :=
  if (arg p 1).testBit 3 then
    match Action.ofCode (arg p 6) with
    | none => none
    | some a =>
      if a.argsOk (arg p 7) (arg p 8) then some { e with action := a, arg1 := arg p 7, arg2 := arg p 8 }
      else none
  else some e

/-- The priority group of WRITE_ENTRY (R182). -/
def Entry.writePriority (p : List Byte) (e : Entry) : Option Entry :=
  if (arg p 1).testBit 4 then (if arg p 9 ≤ 7 then some { e with priority := arg p 9 } else none) else some e

/-- The entry that checks 3 to 5 of R182 let through. -/
def Entry.written (p : List Byte) (e : Entry) : Option Entry :=
  if 32 ≤ arg p 1 ∨ 2 ≤ arg p 2 then none
  else ((e.writeWhen p).bind (Entry.writeAction p)).bind (Entry.writePriority p)

/-- WRITE_ENTRY (R182). -/
def State.bodyWriteEntry (payload : List Byte) (s : State) : Taken :=
  match entryIndex (arg payload 0) with
  | none => s.refuse .badValue
  | some n =>
    if s.conf.lock.on ∧ n.val < s.conf.lock.schedule then s.refuse .locked
    else
      match (s.conf.week.get n).written payload with
      | none => s.refuse .badValue
      | some e =>
        (⟨.ok, e.record⟩, { s with conf := { s.conf with week := s.conf.week.set n.val e n.isLt } })

/-- READ_EXCEPTIONS (R184). -/
def State.bodyReadExceptions (s : State) : Taken :=
  (⟨.ok, byte s.conf.exceptions.length :: s.conf.exceptions.flatMap ExceptionRecord.bytes⟩, s)

/-- The date of a WRITE_EXCEPTION payload (R183). -/
def exceptionDate (p : List Byte) : Date := ⟨arg16 p 1, arg p 3, arg p 4⟩

/-- Whether an add names a date before the clock's (R183 check 3). -/
def State.datePassed (s : State) (d : Date) : Bool :=
  match s.clock with
  | some c => d.before c.now.date
  | none => false

/-- The list after a WRITE_EXCEPTION, with its length as the reply (R183). -/
def State.exceptionsReplaced (s : State) (es : List ExceptionRecord) : Taken :=
  (⟨.ok, [byte es.length]⟩, s.setExceptions es)

/-- WRITE_EXCEPTION (R183). -/
def State.bodyWriteException (payload : List Byte) (s : State) : Taken :=
  let d := exceptionDate payload
  let held := s.conf.exceptions.any fun e => e.date == d
  match onOff (arg payload 0) with
  | none => s.refuse .badValue
  | some remove =>
    if !d.valid then s.refuse .badValue
    else if remove then s.exceptionsReplaced (s.conf.exceptions.filter fun e => e.date != d)
    else if s.datePassed d then s.refuse .badValue
    else if !held && decide (Config.exceptionPlaces ≤ s.conf.exceptions.length) then s.refuse .full
    else s.exceptionsReplaced (insertException ⟨d, argByte payload 5⟩ s.conf.exceptions)

end Sys2Proof.Machine
end

