-- ==== Sys2Proof/Machine/Settings.lean ====
section
/-! DEFINITION. The setting items as WRITE_SETTING and READ_SETTING take them (R172, R194), what a written
value does at once (R82, R98, R128, R140, R172), LEARN_BASE (R175), and COMMIT (R192). -/

namespace Sys2Proof.Machine

/-- How a setting item brings a written value to what it holds (R194). -/
inductive ItemForm where
  /-- A number, saturated to a range. -/
  | range (lo hi : Nat)
  /-- A set, whose bits from `n` up are cleared. -/
  | bits (n : Nat)
  /-- A scan multiple, brought to the nearest of 1, 2, 4 and 8. -/
  | multiple

/-- The forms of items 0..39 (R194); number 0 names no item. -/
def lowForms : List (Option ItemForm) :=
  [none, some (.bits 14), some (.bits 14), some (.range 0 255), some (.range 1 240), some (.range 0 3),
    some (.range 30 120), some (.range 60 180), some (.range 60 600), some (.range 1 8), some (.range 0 3)]
  ++ [some (.range 500 20000), some (.range 0 2000), some (.range 0 1000), some (.range 5 50),
    some (.range 2 30)]
  ++ List.replicate 6 (some (.range 0 600))
  ++ [some (.range 0 1), some (.range 1 10), some (.range 0 7), some (.range 500 900), some (.range 1 60),
    some (.range 0 120), some (.range 0 1), some (.range 0 1), some (.range 1 30), some (.range 1 15),
    some (.range 0 1)]
  ++ [some (.bits 8), some (.range 0 7), some (.range 0 1), some (.bits 8), some (.range 0 7),
    some (.range 0 1), some (.range 0 1)]

/-- The form of an item, or `none` for a number not in the table (R194). -/
def itemForm (n : Nat) : Option ItemForm :=
  if n < 40 then (lowForms[n]?).join
  else if n < 64 then none
  else if n < 72 then some (.range 0 2)
  else if n < 80 then some (.range 0 8)
  else if n < 88 then some (.range 0 65535)
  else if n < 96 then some (.range 0 63)
  else if n < 104 then some .multiple
  else none

/-- The nearest of 1, 2, 4 and 8, the larger where two are equally near (R172). -/
def nearestMultiple (v : Nat) : Nat := if v ≤ 1 then 1 else if v ≤ 2 then 2 else if v ≤ 5 then 4 else 8

/-- The value applied for a value written (R194). -/
def ItemForm.apply (f : ItemForm) (v : Nat) : Nat :=
  match f with
  | .range lo hi => max lo (min hi v)
  | .bits n => v % 2 ^ n
  | .multiple => nearestMultiple v

/-- A setting item takes a value. -/
def State.setItem (s : State) (n : Fin 104) (v : Nat) : State :=
  { s with conf := { s.conf with items := s.conf.items.set n.val v n.isLt } }

/-! ## What a written value does at once -/

/-- A lamp sees the restrike hold change (R75, R82). -/
def State.holdChanged (s : State) (x : LampId) : State :=
  let m := s.lamp x
  match m.state with
  | .hot => if s.restrikeHold ≤ m.since then (s.reachDark x).finish x else s
  | .dark =>
    if m.since < s.restrikeHold then s.moveLamp x (fun m => { m with state := .hot }) false .holdRaised
    else s
  | .retryWait => if m.timer.isNone ∧ s.restrikeHold ≤ m.since then (s.strike x).finish x else s
  | .ignite | .warmup | .lit | .dimmed | .cooldown | .out => s

/-- A scan group's item is written: its counts empty and its interval restarts from the write; outside
STANDBY no interval runs (R172). -/
def State.groupWritten (s : State) (g : GroupId) : State :=
  if s.power.state = .standby then s.startGroup g
  else { s with scan := s.scan.set g.val ⟨none, Vector.replicate 8 0⟩ g.isLt }

/-- What an item's owner does in the event of the write, the value being in force already. THE MODEL'S CHOICE
(assumption 18): R82 gives the two lamps no order at a write of item 7 or 8, and lamp A sees it first. -/
def State.itemWritten (s : State) (n : Nat) : State :=
  if n = 7 ∨ n = 8 then (s.holdChanged .a).holdChanged .b
  else if n = 11 ∨ n = 12 ∨ n = 13 then (s.testThresholds .a).testThresholds .b
  else if n = 22 then s.retestWatch
  else if n = 33 ∨ n = 34 ∨ n = 35 then s.groupWritten 0
  else if n = 36 ∨ n = 37 ∨ n = 38 then s.groupWritten 1
  else if n = 64 + s.sw.selected.val then s.sourceEvent
  else s

/-- An item number that the table names. -/
def itemOf (n : Nat) : Option (Fin 104 × ItemForm) :=
  if h : n < 104 then (itemForm n).map fun f => (⟨n, h⟩, f) else none

/-- The three bytes that both setting requests reply (R194). -/
def State.itemBytes (s : State) (n : Fin 104) : List Byte := byte n.val :: be16 (s.item n)

/-- READ_SETTING (R194). -/
def State.bodyReadSetting (payload : List Byte) (s : State) : Taken :=
  match itemOf (arg payload 0) with
  | none => s.refuse .badValue
  | some (n, _) => (⟨.ok, s.itemBytes n⟩, s)

/-- WRITE_SETTING (R194). -/
def State.bodyWriteSetting (payload : List Byte) (s : State) : Taken :=
  match itemOf (arg payload 0) with
  | none => s.refuse .badValue
  | some (n, f) =>
    let applied := s.setItem n (f.apply (arg16 payload 1))
    (⟨.ok, applied.itemBytes n⟩, applied.itemWritten n.val)

/-! ## LEARN_BASE -/

/-- One input learns its base, and its run counts in both groups return to 0 (R175). -/
def State.learnInput (set : Nat) (s : State) (i : InputId) : State :=
  if set.testBit i.val then
    { s.setItem (inputItem 80 (by decide) i) (s.input i).activity with
      scan := s.scan.map fun g => { g with runs := g.runs.set i.val 0 i.isLt } }
  else s

/-- The scan bases of IN0 to IN7 (R175). -/
def State.baseBytes (s : State) : List Byte := (List.finRange 8).flatMap fun i => be16 (s.scanBase i)

/-- LEARN_BASE (R175). -/
def State.bodyLearnBase (payload : List Byte) (s : State) : Taken :=
  let t := (List.finRange 8).foldl (State.learnInput (arg payload 0)) s
  (⟨.ok, t.baseBytes⟩, t)

/-! ## COMMIT -/

/-- COMMIT: a settings write begins and the link waits for its end, or BUSY (R8, R192). -/
def State.commitTaken (s : State) (l : Link) (tag : Byte) : State :=
  match s.settingsWrite with
  | some _ => s.answer l 0x37 tag (Answer.bare .busy)
  | none =>
    { s.setLink l { s.link l with awaiting := true } with
      settingsWrite := some { content := s.conf, link := l, tag := tag, left := some Config.storeWriteMs } }

end Sys2Proof.Machine
end

