-- ==== Sys2Proof/Machine/Tables.lean ====
section
/-! DEFINITION. The management requests over the policy unit's and the credential unit's tables: rules
(R60, R61), matrix (R43, R44), cards (R33), groups (R34), and the table lock (R62, R63). -/

namespace Sys2Proof.Machine

/-! ## Rules -/

/-- READ_RULE's payload: the rule record with its live value (R18, R60). -/
def State.ruleBytes (s : State) (i : RuleId) : List Byte :=
  ruleRecord (s.conf.rules.get i) (s.counters.get i).value

/-- READ_RULE (R60). -/
def State.bodyReadRule (payload : List Byte) (s : State) : Taken :=
  match ruleOf (arg payload 0) with
  | none => s.refuse .badValue
  | some i => (⟨.ok, s.ruleBytes i⟩, s)

/-- Whether a field mask selects a group (R18). -/
def selects (mask n : Nat) : Bool := mask.testBit n

/-- One field mask group of a rule, checked and written: `none` when a value is out of range (R61). The
record stands at payload byte 3, so byte n of the record is payload byte n + 3. -/
def Rule.writeWho (p : List Byte) (mask : Nat) (r : Rule) : Option Rule :=
  if (selects mask 0 && decide (64 ≤ arg p 4)) || (selects mask 1 && decide (4096 ≤ arg16 p 5))
      || (selects mask 2 && decide (32 ≤ arg p 7)) then none
  else
    some
      { r with
        requesters := if selects mask 0 then BitVec.ofNat 6 (arg p 4) else r.requesters
        kinds := if selects mask 1 then BitVec.ofNat 12 (arg16 p 5) else r.kinds
        credential := if selects mask 2 then BitVec.ofNat 5 (arg p 7) else r.credential }

/-- The time group (R61). -/
def Rule.writeTime (p : List Byte) (mask : Nat) (r : Rule) : Option Rule :=
  if selects mask 3 then
    match TimeMode.ofCode (arg p 8) with
    | none => none
    | some m =>
      if arg16 p 9 < Config.weekMinutes ∧ arg16 p 11 < Config.weekMinutes then
        some { r with timeMode := m, timeMin := arg16 p 9, timeMax := arg16 p 11 }
      else none
  else some r

/-- The verdict group (R61). -/
def Rule.writeVerdict (p : List Byte) (mask : Nat) (r : Rule) : Option Rule :=
  if selects mask 4 then (RuleVerdict.ofCode (arg p 13)).map fun v => { r with verdict := v } else some r

/-- The priority group (R61). -/
def Rule.writePriority (p : List Byte) (mask : Nat) (r : Rule) : Option Rule :=
  if selects mask 5 then
    match PriorityMode.ofCode (arg p 14) with
    | none => none
    | some m => if arg p 15 ≤ 7 then some { r with priorityMode := m, priority := arg p 15 } else none
  else some r

/-- The map group (R61). -/
def Rule.writeMap (p : List Byte) (mask : Nat) (r : Rule) : Option Rule :=
  if selects mask 6 then (MapMode.ofCode (arg p 16)).map fun m => { r with mapMode := m, map := argByte p 17 }
  else some r

/-- The counter group, which writes the escalate flag too (R61). -/
def Rule.writeCounter (p : List Byte) (mask : Nat) (r : Rule) : Option Rule :=
  if selects mask 7 then
    match CounterMode.ofCode (arg p 18), CounterUnit.ofCode (arg p 19) with
    | some m, some u =>
      if 1 ≤ arg16 p 20 ∧ arg16 p 20 ≤ 2047 then
        some { r with counterMode := m, unit := u, limit := arg16 p 20, escalate := (arg p 3).testBit 1 }
      else none
    | _, _ => none
  else some r

/-- The enabled group (R61). -/
def Rule.writeEnabled (p : List Byte) (mask : Nat) (r : Rule) : Rule :=
  if selects mask 8 then { r with enabled := (arg p 3).testBit 0 } else r

/-- Checks 3 and 4 of R61 and the rule they let through: bits 9 to 15 of the mask and bits 2 to 7 of the
flags byte clear, and every selected group in range. -/
def Rule.written (p : List Byte) (r : Rule) : Option Rule :=
  let mask := arg16 p 1
  if 512 ≤ mask ∨ 4 ≤ arg p 3 then none
  else
    ((((((r.writeWho p mask).bind (Rule.writeTime p mask)).bind (Rule.writeVerdict p mask)).bind
      (Rule.writePriority p mask)).bind (Rule.writeMap p mask)).bind (Rule.writeCounter p mask)).map
      (Rule.writeEnabled p mask)

/-- WRITE_RULE (R61). -/
def State.bodyWriteRule (payload : List Byte) (s : State) : Taken :=
  match ruleOf (arg payload 0) with
  | none => s.refuse .badValue
  | some i =>
    if s.ruleLocked i then s.refuse .locked
    else
      match (s.conf.rules.get i).written payload with
      | none => s.refuse .badValue
      | some r =>
        let t := s.setRule i r
        let u := if selects (arg16 payload 1) 7 || selects (arg16 payload 1) 8 then t.reload i else t
        (⟨.ok, u.ruleBytes i⟩, u)

/-! ## The matrix -/

/-- The five bytes of a cell and its class's rule set (R43). -/
def Stored.matrixBytes (c : Stored) (v : Level) (cls : ReqClass) : List Byte :=
  [flagByte (!(c.cell v cls).permit), byte (c.cell v cls).map.toNat, byte (c.cell v cls).priority]
    ++ be16 (c.ruleSet cls).toNat

/-- READ_MATRIX (R43). -/
def State.bodyReadMatrix (payload : List Byte) (s : State) : Taken :=
  match Level.ofCode (arg payload 0), ReqClass.ofCode (arg payload 1) with
  | some v, some cls => (⟨.ok, s.conf.matrixBytes v cls⟩, s)
  | _, _ => s.refuse .badValue

/-- A matrix cell is replaced (R44). -/
def Stored.setCell (c : Stored) (v : Level) (cls : ReqClass) (x : Cell) : Stored :=
  { c with
    matrix := c.matrix.set (6 * v.code + cls.code) x (by
      cases v <;> cases cls <;> simp [Level.code, ReqClass.code]) }

/-- A rule set is replaced (R44). -/
def Stored.setRuleSet (c : Stored) (cls : ReqClass) (x : BitVec 16) : Stored :=
  { c with ruleSets := c.ruleSets.set cls.code x (by cases cls <;> simp [ReqClass.code]) }

/-- WRITE_MATRIX (R44). -/
def State.bodyWriteMatrix (payload : List Byte) (s : State) : Taken :=
  match Level.ofCode (arg payload 0), ReqClass.ofCode (arg payload 1) with
  | some v, some cls =>
    if 4 ≤ arg payload 2 ∨ 1 < arg payload 3 ∨ 7 < arg payload 5 then s.refuse .badValue
    else
      let celled :=
        if (arg payload 2).testBit 0 then
          s.conf.setCell v cls ⟨arg payload 3 == 0, argByte payload 4, arg payload 5⟩
        else s.conf
      let both :=
        if (arg payload 2).testBit 1 then celled.setRuleSet cls (BitVec.ofNat 16 (arg16 payload 6))
        else celled
      (⟨.ok, both.matrixBytes v cls⟩, { s with conf := both })
  | _, _ => s.refuse .badValue

/-! ## Cards and groups -/

/-- The card with an index. -/
def cardIndex (n : Nat) : Option (Fin 8) := if h : n < 8 then some ⟨n, h⟩ else none

/-- READ_CARD (R33). -/
def State.bodyReadCard (payload : List Byte) (s : State) : Taken :=
  match cardIndex (arg payload 0) with
  | none => s.refuse .badValue
  | some i => (⟨.ok, (s.conf.cards.get i).record⟩, s)

/-- The role with a credential class code (R33). -/
def roleOf : Nat → Option Role
  | 3 => some .staff
  | 4 => some .tech
  | _ => none

/-- Whether another enabled card holds a token (R33). -/
def State.tokenTaken (s : State) (i : Fin 8) (t : BitVec 48) : Bool :=
  (List.finRange 8).any fun j => j != i && (s.conf.cards.get j).enabled && (s.conf.cards.get j).token == t

/-- WRITE_CARD, with the five checks in their order (R33). -/
def State.bodyWriteCard (payload : List Byte) (s : State) : Taken :=
  let t := tokenAt payload 2
  match cardIndex (arg payload 0), onOff (arg payload 1), roleOf (arg payload 8) with
  | some i, some on, some role =>
    if on && (malformed t || t.getLsbD 47 || s.tokenTaken i t) then s.refuse .badValue
    else
      (Answer.bare .ok, { s with conf := { s.conf with cards := s.conf.cards.set i.val ⟨on, t, role⟩ i.isLt } })
  | _, _, _ => s.refuse .badValue

/-- READ_GROUPS (R34). -/
def State.bodyReadGroups (s : State) : Taken := (⟨.ok, be64 s.conf.bins ++ [s.conf.filter.flags]⟩, s)

/-- WRITE_GROUPS (R34). -/
def State.bodyWriteGroups (payload : List Byte) (s : State) : Taken :=
  let f := arg payload 8
  if 8 ≤ f then s.refuse .badValue
  else
    (Answer.bare .ok,
      { s with
        conf := { s.conf with
          bins := BitVec.ofNat 64 (beNat (payload.take 8))
          filter := ⟨f.testBit 0, f.testBit 1, f.testBit 2⟩ } })

/-! ## The table lock -/

/-- The lock and boundaries now in force, as three bytes (R62). -/
def TableLock.bytes (k : TableLock) : List Byte := [flagByte k.on, byte k.schedule, byte k.rule]

/-- The table lock is replaced. -/
def State.setLock (s : State) (k : TableLock) : State := { s with conf := { s.conf with lock := k } }

/-- SET_TABLE_LOCK, the link's checks having passed (R62). -/
def State.bodySetTableLock (payload : List Byte) (s : State) : Taken :=
  let was := s.conf.lock
  match onOff (arg payload 0) with
  | none => s.refuse .badValue
  | some false =>
    let k : TableLock := { was with on := false }
    (⟨.ok, k.bytes⟩, s.setLock k)
  | some true =>
    let k : TableLock := ⟨true, arg payload 1, arg payload 2⟩
    if 48 < k.schedule ∨ k.schedule % 8 ≠ 0 ∨ 16 < k.rule ∨ k.rule % 4 ≠ 0 then s.refuse .badValue
    else if was.on ∧ (k.schedule < was.schedule ∨ k.rule < was.rule) ∧ ¬ s.techHold then s.refuse .needsTech
    else (⟨.ok, k.bytes⟩, s.setLock k)

end Sys2Proof.Machine
end

