-- ==== Sys2Proof/Machine/Management.lean ====
section
/-! DEFINITION. The thirty management requests as a link takes them: the checks of R5 and R6, the body that
the owning chapter gives, and the reply. -/

namespace Sys2Proof.Machine

/-- READ_STATUS (R14). -/
def execReadStatus (l : Link) (tag : Byte) (payload : List Byte) (s : State) :
    Host.Outcome State Fault Refusal :=
  .next (s.request l 0x20 tag payload (State.bodyReadStatus l))

/-- READ_LAMP (R99). -/
def execReadLamp (l : Link) (tag : Byte) (payload : List Byte) (s : State) :
    Host.Outcome State Fault Refusal :=
  .next (s.request l 0x21 tag payload (State.bodyReadLamp payload))

/-- READ_INPUT (R127). -/
def execReadInput (l : Link) (tag : Byte) (payload : List Byte) (s : State) :
    Host.Outcome State Fault Refusal :=
  .next (s.request l 0x22 tag payload (State.bodyReadInput payload))

/-- READ_GEOMETRY (R158). -/
def execReadGeometry (l : Link) (tag : Byte) (payload : List Byte) (s : State) :
    Host.Outcome State Fault Refusal :=
  .next (s.request l 0x23 tag payload (State.bodyReadGeometry payload))

/-- STORE_GEOMETRY (R156). -/
def execStoreGeometry (l : Link) (tag : Byte) (payload : List Byte) (s : State) :
    Host.Outcome State Fault Refusal :=
  .next (s.request l 0x24 tag payload (State.bodyStoreGeometry payload))

/-- READ_RULE (R60). -/
def execReadRule (l : Link) (tag : Byte) (payload : List Byte) (s : State) :
    Host.Outcome State Fault Refusal :=
  .next (s.request l 0x25 tag payload (State.bodyReadRule payload))

/-- WRITE_RULE (R61). -/
def execWriteRule (l : Link) (tag : Byte) (payload : List Byte) (s : State) :
    Host.Outcome State Fault Refusal :=
  .next (s.request l 0x26 tag payload (State.bodyWriteRule payload))

/-- READ_MATRIX (R43). -/
def execReadMatrix (l : Link) (tag : Byte) (payload : List Byte) (s : State) :
    Host.Outcome State Fault Refusal :=
  .next (s.request l 0x27 tag payload (State.bodyReadMatrix payload))

/-- WRITE_MATRIX (R44). -/
def execWriteMatrix (l : Link) (tag : Byte) (payload : List Byte) (s : State) :
    Host.Outcome State Fault Refusal :=
  .next (s.request l 0x28 tag payload (State.bodyWriteMatrix payload))

/-- READ_CARD (R33). -/
def execReadCard (l : Link) (tag : Byte) (payload : List Byte) (s : State) :
    Host.Outcome State Fault Refusal :=
  .next (s.request l 0x29 tag payload (State.bodyReadCard payload))

/-- WRITE_CARD (R33). -/
def execWriteCard (l : Link) (tag : Byte) (payload : List Byte) (s : State) :
    Host.Outcome State Fault Refusal :=
  .next (s.request l 0x2A tag payload (State.bodyWriteCard payload))

/-- READ_GROUPS (R34). -/
def execReadGroups (l : Link) (tag : Byte) (payload : List Byte) (s : State) :
    Host.Outcome State Fault Refusal :=
  .next (s.request l 0x2B tag payload (State.bodyReadGroups))

/-- WRITE_GROUPS (R34). -/
def execWriteGroups (l : Link) (tag : Byte) (payload : List Byte) (s : State) :
    Host.Outcome State Fault Refusal :=
  .next (s.request l 0x2C tag payload (State.bodyWriteGroups payload))

/-- READ_ENTRY (R182). -/
def execReadEntry (l : Link) (tag : Byte) (payload : List Byte) (s : State) :
    Host.Outcome State Fault Refusal :=
  .next (s.request l 0x2D tag payload (State.bodyReadEntry payload))

/-- WRITE_ENTRY (R182). -/
def execWriteEntry (l : Link) (tag : Byte) (payload : List Byte) (s : State) :
    Host.Outcome State Fault Refusal :=
  .next (s.request l 0x2E tag payload (State.bodyWriteEntry payload))

/-- READ_EXCEPTIONS (R184). -/
def execReadExceptions (l : Link) (tag : Byte) (payload : List Byte) (s : State) :
    Host.Outcome State Fault Refusal :=
  .next (s.request l 0x2F tag payload (State.bodyReadExceptions))

/-- WRITE_EXCEPTION (R183). -/
def execWriteException (l : Link) (tag : Byte) (payload : List Byte) (s : State) :
    Host.Outcome State Fault Refusal :=
  .next (s.request l 0x30 tag payload (State.bodyWriteException payload))

/-- READ_CLOCK (R180). -/
def execReadClock (l : Link) (tag : Byte) (payload : List Byte) (s : State) :
    Host.Outcome State Fault Refusal :=
  .next (s.request l 0x31 tag payload (State.bodyReadClock))

/-- SET_CLOCK (R179). -/
def execSetClock (l : Link) (tag : Byte) (payload : List Byte) (s : State) :
    Host.Outcome State Fault Refusal :=
  .next (s.request l 0x32 tag payload (State.bodySetClock payload))

/-- READ_FORMAT (R126). -/
def execReadFormat (l : Link) (tag : Byte) (payload : List Byte) (s : State) :
    Host.Outcome State Fault Refusal :=
  .next (s.request l 0x33 tag payload (State.bodyReadFormat payload))

/-- WRITE_FORMAT (R126). -/
def execWriteFormat (l : Link) (tag : Byte) (payload : List Byte) (s : State) :
    Host.Outcome State Fault Refusal :=
  .next (s.request l 0x34 tag payload (State.bodyWriteFormat payload))

/-- READ_SETTING (R194). -/
def execReadSetting (l : Link) (tag : Byte) (payload : List Byte) (s : State) :
    Host.Outcome State Fault Refusal :=
  .next (s.request l 0x35 tag payload (State.bodyReadSetting payload))

/-- WRITE_SETTING (R194). -/
def execWriteSetting (l : Link) (tag : Byte) (payload : List Byte) (s : State) :
    Host.Outcome State Fault Refusal :=
  .next (s.request l 0x36 tag payload (State.bodyWriteSetting payload))

/-- COMMIT (R192): its reply comes at the end of the write. -/
def execCommit (l : Link) (tag : Byte) (payload : List Byte) (s : State) : Host.Outcome State Fault Refusal :=
  .next (s.handled l 0x37 tag payload fun t => t.commitTaken l tag)

/-- LEARN_BASE (R175). -/
def execLearnBase (l : Link) (tag : Byte) (payload : List Byte) (s : State) :
    Host.Outcome State Fault Refusal :=
  .next (s.request l 0x38 tag payload (State.bodyLearnBase payload))

/-- SERVICE_CLEAR (R117). -/
def execServiceClear (l : Link) (tag : Byte) (payload : List Byte) (s : State) :
    Host.Outcome State Fault Refusal :=
  .next (s.request l 0x39 tag payload (State.bodyServiceClear payload))

/-- RESET_LAMP_WEAR (R103). -/
def execResetLampWear (l : Link) (tag : Byte) (payload : List Byte) (s : State) :
    Host.Outcome State Fault Refusal :=
  .next (s.request l 0x3A tag payload (State.bodyResetLampWear payload))

/-- READ_INCIDENTS (R109). -/
def execReadIncidents (l : Link) (tag : Byte) (payload : List Byte) (s : State) :
    Host.Outcome State Fault Refusal :=
  .next (s.request l 0x3B tag payload (State.bodyReadIncidents payload))

/-- SET_TABLE_LOCK (R62). -/
def execSetTableLock (l : Link) (tag : Byte) (payload : List Byte) (s : State) :
    Host.Outcome State Fault Refusal :=
  .next (s.request l 0x3C tag payload (State.bodySetTableLock payload))

/-- RESTART (R195): the restart begins once this reply has been sent (R8). -/
def execRestart (l : Link) (tag : Byte) (payload : List Byte) (s : State) :
    Host.Outcome State Fault Refusal :=
  .next (s.request l 0x3D tag payload (fun t => (Answer.bare .ok, t)))

end Sys2Proof.Machine
end

