-- ==== Sys2Proof/Machine/Operational.lean ====
section
/-! DEFINITION. The twelve operational requests as a link takes them: the arguments of R10, then the policy
unit and the owning block. An argument that is no code of its list is `none` and is refused BAD_VALUE (R49). -/

namespace Sys2Proof.Machine

/-- POWER_ON (R162). -/
def execPowerOn (l : Link) (tag : Byte) (payload : List Byte) (s : State) :
    Host.Outcome State Fault Refusal :=
  .next
    (s.operational l 0x10 tag payload
      (some .powerOn))

/-- POWER_OFF (R163). -/
def execPowerOff (l : Link) (tag : Byte) (payload : List Byte) (s : State) :
    Host.Outcome State Fault Refusal :=
  .next
    (s.operational l 0x11 tag payload
      (some .powerOff))

/-- SELECT_INPUT (R130, R131). -/
def execSelectInput (l : Link) (tag : Byte) (payload : List Byte) (s : State) :
    Host.Outcome State Fault Refusal :=
  .next
    (s.operational l 0x12 tag payload
      ((inputOf (arg payload 0)).map .selectInput))

/-- PICTURE_MUTE (R142). -/
def execPictureMute (l : Link) (tag : Byte) (payload : List Byte) (s : State) :
    Host.Outcome State Fault Refusal :=
  .next
    (s.operational l 0x13 tag payload
      ((onOff (arg payload 0)).map .pictureMute))

/-- SET_KEYSTONE (R144). -/
def execSetKeystone (l : Link) (tag : Byte) (payload : List Byte) (s : State) :
    Host.Outcome State Fault Refusal :=
  .next
    (s.operational l 0x14 tag payload
      ((onOff (arg payload 0)).map fun relative =>
      .setKeystone relative (argSigned8 payload 1) (argSigned8 payload 2)))

/-- SET_CORNER (R145). -/
def execSetCorner (l : Link) (tag : Byte) (payload : List Byte) (s : State) :
    Host.Outcome State Fault Refusal :=
  .next
    (s.operational l 0x15 tag payload
      ((Corner.ofCode (arg payload 0)).map fun c =>
      .setCorner c (argSigned16 payload 1) (argSigned16 payload 3)))

/-- RECALL_GEOMETRY (R157). -/
def execRecallGeometry (l : Link) (tag : Byte) (payload : List Byte) (s : State) :
    Host.Outcome State Fault Refusal :=
  .next
    (s.operational l 0x16 tag payload
      ((presetOf (arg payload 0)).map .recallGeometry))

/-- SET_LAMP_LEVEL (R90). -/
def execSetLampLevel (l : Link) (tag : Byte) (payload : List Byte) (s : State) :
    Host.Outcome State Fault Refusal :=
  .next
    (s.operational l 0x17 tag payload
      ((LampLevel.ofCode (arg payload 0)).map .setLampLevel))

/-- SET_LAMP_PLAN (R87). -/
def execSetLampPlan (l : Link) (tag : Byte) (payload : List Byte) (s : State) :
    Host.Outcome State Fault Refusal :=
  .next
    (s.operational l 0x18 tag payload
      ((Plan.ofCode (arg payload 0)).map .setLampPlan))

/-- SET_LOCKOUT (R57). -/
def execSetLockout (l : Link) (tag : Byte) (payload : List Byte) (s : State) :
    Host.Outcome State Fault Refusal :=
  .next
    (s.operational l 0x19 tag payload
      ((Level.ofCode (arg payload 0)).map .setLockout))

/-- PRESENT_CREDENTIAL (R30, R35). -/
def execPresentCredential (l : Link) (tag : Byte) (payload : List Byte) (s : State) :
    Host.Outcome State Fault Refusal :=
  .next
    (s.operational l 0x1A tag payload
      (if malformed (tokenAt payload 0) then none else some (.presentCredential (tokenAt payload 0))))

/-- END_CREDENTIAL (R36). -/
def execEndCredential (l : Link) (tag : Byte) (payload : List Byte) (s : State) :
    Host.Outcome State Fault Refusal :=
  .next
    (s.operational l 0x1B tag payload
      (some .endCredential))

end Sys2Proof.Machine
end

