-- ==== Sys2Proof/Machine/PowerEvents.lean ====
section
/-! DEFINITION. The events of the power unit: idle, auto-off and the scan groups (R168, R171 to R174). -/

namespace Sys2Proof.Machine

/-- The auto-off timer as it starts: not at all when its time is 0 (R168). -/
def State.autoOffTimer (s : State) : Timer := if s.item 27 = 0 then none else some (60000 * s.item 27)

/-- Whether a lamp in LIT forbids dimming (R168). -/
def State.forbidsDim (s : State) (m : Lamp) : Bool := m.state == .lit && decide (s.item 31 ≤ m.wakeLate)

/-- Whether an idle expiry dims (R168). -/
def State.mayDim (s : State) : Bool :=
  s.item 28 != 0 && !s.forbidsDim s.lampA && !s.forbidsDim s.lampB

/-- The projector dims, or is marked idle-expired (R168). THE MODEL'S CHOICE (assumption 18): R79 gives the two
lamps of a DIM no order, and lamp A enters DIMMED and reports first. -/
def State.idleExpired (s : State) : State :=
  if s.mayDim then
    let dim := (s.dimLamp .a).dimLamp .b
    dim.setPower { dim.power with state := .dimmed }
  else s.setPower { s.power with idleExpired := true }

/-- IDLE_EXPIRY (R168). -/
def execIdleExpiry (s : State) : Host.Outcome State Fault Refusal :=
  .next
    (if s.power.state = .on ∧ s.power.idle.isSome then
      let t := (s.setPower { s.power with idle := none }).idleExpired
      (t.reportPower .on .idle .none).setPower { t.power with autoOff := t.autoOffTimer }
    else s)

/-- AUTO_OFF_EXPIRY (R171). -/
def execAutoOffExpiry (s : State) : Host.Outcome State Fault Refusal :=
  .next
    (if s.power.autoOff.isSome then
      let t := (s.setPower { s.power with autoOff := none }).operate .auto .powerOff none none
      if t.1.result = .denied then t.2.setPower { t.2.power with autoOff := t.2.autoOffTimer } else t.2
    else s)

/-- A member's run count in a group. -/
def State.run (s : State) (g : GroupId) (i : InputId) : Nat := (s.scan.get g).runs.get i

/-- A member's run count is set. -/
def State.setRun (s : State) (g : GroupId) (i : InputId) (n : Nat) : State :=
  { s with
    scan := s.scan.set g.val { s.scan.get g with runs := (s.scan.get g).runs.set i.val n i.isLt } g.isLt }

/-- Whether a sample differs from an input's base by more than its range (R173). -/
def State.deviates (s : State) (i : InputId) (sample : Nat) : Bool :=
  decide (s.scanRange i < sample - s.scanBase i) || decide (s.scanRange i < s.scanBase i - sample)

/-- One input at a scan interval: passed over when it is no member or a trigger has come; otherwise sampled
and counted (R173). -/
def State.sample (g : GroupId) (samples : Vector (BitVec 16) 8) (w : State × Option InputId) (i : InputId) :
    State × Option InputId :=
  if w.2.isSome || !(w.1.scanMembers g).testBit i.val then w
  else
    let n := (samples.get i).toNat
    let t := w.1.setInput i { w.1.input i with activity := n }
    if t.deviates i n then
      if 2 ≤ t.run g i + 1 then (t.setRun g i 0, some i) else (t.setRun g i (t.run g i + 1), none)
    else (t.setRun g i 0, none)

/-- A trigger whose wake is enabled: POWER_ON, and then the select if the POWER_ON is permitted (R174). -/
def State.scanWakeUp (s : State) (i : InputId) : State :=
  let on := s.operate .auto .powerOn none none
  if on.1.result = .denied then on.2 else on.2.unlinked .auto (.selectInput i)

/-- A group's interval timer starts again, its counts standing (R173). -/
def State.restartInterval (s : State) (g : GroupId) : State :=
  { s with scan := s.scan.set g.val { s.scan.get g with interval := some (s.scanIntervalMs g) } g.isLt }

/-- SCAN_INTERVAL (R173, R174). -/
def execScanInterval (g : GroupId) (samples : Vector (BitVec 16) 8) (s : State) :
    Host.Outcome State Fault Refusal :=
  .next
    (if s.power.state = .standby ∧ (s.scan.get g).interval.isSome then
      let w := (List.finRange 8).foldl (State.sample g samples) (s, none)
      let t := w.1.restartInterval g
      match w.2 with
      | some i => if t.scanWake g then t.scanWakeUp i else t
      | none => t
    else s)

end Sys2Proof.Machine
end

