-- ==== Sys2Proof/Machine/ScheduleEvents.lean ====
section
/-! DEFINITION. The events of the clock (R178, R186). -/

namespace Sys2Proof.Machine

/-- The minute that starts: the purge at a midnight, and then the firing (R185, R186). -/
def State.startMinute (s : State) (t : DateTime) : State :=
  let begun := { s with clock := some ⟨t, 0⟩, skip := false }
  (if t.midnight then begun.purge else begun).fireWeek t

/-- MINUTE_START (R178, R186): none for an unset clock, nor past the last minute the clock can hold. -/
def execMinuteStart (s : State) : Host.Outcome State Fault Refusal :=
  .next
    (match s.clock with
      | none => s
      | some c => if c.now.lastMinute then s else s.startMinute c.now.nextMinute)

/-- CLOCK_END (R178): the clock counts past 2099-12-31 23:59:59 and becomes unset. -/
def execClockEnd (s : State) : Host.Outcome State Fault Refusal :=
  .next
    (match s.clock with
      | none => s
      | some c => if c.now.lastMinute then { s with clock := none } else s)

end Sys2Proof.Machine
end

