-- ==== Sys2Proof/Machine/Time.lean ====
section
/-! DEFINITION. One millisecond of the part with no command waiting: every running timer goes down, every
elapsed time goes up, and the clock counts (assumptions 2 to 5). No event is taken here: each has its own
command. Also how a clock counts on through a reset (R178, R190). -/

namespace Sys2Proof.Machine

/-- A link's stall time (R3). -/
def LinkState.tick (k : LinkState) : LinkState := { k with stall := k.stall.tick }

/-- A lamp's timers, the time since its extinguish, and its lit-time fraction, which waits at one second
for LIT_SECOND (R94). -/
def Lamp.tick (m : Lamp) : Lamp :=
  { m with
    since := m.since + 1
    timer := m.timer.tick
    wakeTimer := m.wakeTimer.tick
    fraction := if m.state.burning then min (m.fraction + 1) 1000 else m.fraction }

/-- The repeat times of KEY_UP and KEY_DOWN (R23). -/
def Keypad.tick (k : Keypad) : Keypad :=
  { k with upRepeat := k.upRepeat.tick, downRepeat := k.downRepeat.tick }

/-- The times since the remote's last keystone requests (R29). -/
def RemoteMemory.tick (r : RemoteMemory) : RemoteMemory :=
  { r with sinceUp := r.sinceUp.map (· + 1), sinceDown := r.sinceDown.map (· + 1) }

/-- The switch unit's timers (R132, R135, R136, R140). -/
def SwitchUnit.tick (u : SwitchUnit) : SwitchUnit :=
  { u with
    inFlight := u.inFlight.map fun w => { w with timer := w.timer.tick }
    slot := u.slot.map fun p => { p with deferral := p.deferral.tick }
    hold := u.hold.map fun h => { h with left := h.left - 1 }
    grace := u.grace.tick }

/-- The power unit's timers (R167, R168). -/
def PowerUnit.tick (p : PowerUnit) : PowerUnit := { p with idle := p.idle.tick, autoOff := p.autoOff.tick }

/-- The clock counts; the last ms of a minute waits for MINUTE_START or CLOCK_END (R178). -/
def Clock.tick (c : Clock) : Clock :=
  if c.ms < 999 then { c with ms := c.ms + 1 }
  else if c.now.second < 59 then { now := { c.now with second := c.now.second + 1 }, ms := 0 }
  else c

/-- One millisecond of a clock that counts with no minute start taken, as through a reset: past
2099-12-31 23:59:59 it is unset (R178, R190). -/
def Clock.nextMs (c : Clock) : Option Clock :=
  if c.ms < 999 ∨ c.now.second < 59 then some c.tick
  else if c.now.lastMinute then none
  else some { now := c.now.nextMinute, ms := 0 }

/-- A clock after a number of milliseconds in which no minute start is taken (R190). -/
def Clock.passed (c : Clock) : Nat → Option Clock
  | 0 => some c
  | n + 1 => (c.passed n).bind Clock.nextMs

/-- One millisecond passes. -/
def State.tick (s : State) : State :=
  { s with
    control := s.control.tick
    lectern := s.lectern.tick
    window := s.window.map fun w => { w with left := w.left.tick }
    keypad := s.keypad.tick
    remote := s.remote.tick
    hold := s.hold.map fun h => { h with left := h.left - 1 }
    counters := s.counters.map fun c => { c with unit := c.unit.tick }
    lampA := s.lampA.tick
    lampB := s.lampB.tick
    inputs := s.inputs.map fun r => { r with acquire := r.acquire.tick }
    sw := s.sw.tick
    power := s.power.tick
    scan := s.scan.map fun g => { g with interval := g.interval.tick }
    clock := s.clock.map (·.tick)
    settingsWrite := s.settingsWrite.map fun w => { w with left := w.left.tick }
    lampWrite := s.lampWrite.map fun w => { w with left := w.left.tick } }

end Sys2Proof.Machine
end

