-- ==== Sys2Proof/Machine/Startup.lean ====
section
/-! DEFINITION. The four resets and the start-up that follows each (R15, R40, R64, R92, R102, R110, R119,
R143, R160, R176, R177, R190, R195, R196), and the ends of the two store writes (R192, R193). -/

namespace Sys2Proof.Machine

/-- The settings record as a start-up finds it: a write in flight leaves it failing its check (R191). -/
def State.settingsFound (s : State) : Option Stored := if s.settingsWrite.isSome then none else s.nvSettings

/-- The lamp record as a start-up finds it (R191, R193). -/
def State.lampsFound (s : State) : Option LampRecord := if s.lampWrite.isSome then none else s.nvLamps

/-- Whether the clock is kept over a reset (R190, R195). -/
def ResetCause.keepsClock : ResetCause → Bool
  | .resetLine | .restart => true
  | .powerOn | .supplyDip => false

/-- The clock as a start-up finds it: kept, having counted on through the reset for a time that no rule gives
and with no minute start taken, or unset (R178, R190, R195; the time is free, assumption 34). -/
def State.clockFound (s : State) (cause : ResetCause) : Option Clock :=
  if cause.keepsClock then s.clock.bind fun c => c.passed (Config.timeInReset s.keptResets) else none

/-- A lamp as a start-up leaves it, before its threshold flags; the sense lines are the ballast's (R92,
R102). -/
def Lamp.started (m : Lamp) (found : Option LampEntry) : Lamp :=
  { Lamp.fresh with
    state := if found.any (·.out) then .out else .hot
    out := found.any (·.out)
    wear := found.elim 0 (·.wear)
    strikeCount := found.elim 0 (·.strikeCount)
    wearUnknown := found.all (·.wearUnknown)
    wakeLate := found.elim 0 (·.wakeLate)
    history := found.elim [] (·.history)
    faultLine := m.faultLine
    atLevelLine := m.atLevelLine }

/-- The geometry unit with a quad in force and stages 4 and 5 still to run (R160). -/
def GeometryUnit.begun (q : Quad) : GeometryUnit :=
  { quad := q, area := q.area, rect := fullRect, fit := .fill, pictureQuad := q, pictureArea := q.area,
    input := 0, deferred := false }

/-- Every block at its start value, before any report and before the computations that need the restored
settings; the queue of commands, the pins, the clock and the two records are what the reset leaves (R15, R40,
R64, R92, R119, R143, R177, R190, R195). -/
def State.cleared (s : State) (cause : ResetCause) : State :=
  let conf := s.settingsFound.getD Stored.defaults
  let selected : InputId := Fin.ofNat 8 (conf.items.get 24)
  { pending := s.pending
    control := LinkState.fresh
    lectern := LinkState.fresh
    restartDue := false
    conf := conf
    window := none
    keypad := ⟨false, false, false, false, false, false, none, none⟩
    remote := ⟨none, none, none⟩
    hold := none
    level := (Level.ofCode (conf.items.get 5)).getD .opened
    counters := conf.rules.map Rule.loaded
    lampA := s.lampA.started (s.lampsFound.map (·.a))
    lampB := s.lampB.started (s.lampsFound.map (·.b))
    lastStruck := none
    fan := false
    recovery := false
    latch := false
    thermalInput := s.thermalInput
    inputs := Vector.replicate 8 InputRecord.fresh
    sw :=
      { selected := selected, inFlight := none, slot := none, hold := none, mute := false,
        watch := .watching, grace := none, selectLines := selected, blankLine := false }
    geo := GeometryUnit.begun conf.geometry.quad
    scaler := s.scaler
    power :=
      { state := .standby, intent := false, intentClass := none, intentPriority := 0, degraded := false,
        idleExpired := false, idle := none, autoOff := none }
    scan := Vector.replicate 2 ⟨none, Vector.replicate 8 0⟩
    clock := s.clockFound cause
    keptResets := if cause.keepsClock then s.keptResets + 1 else s.keptResets
    skip := false
    settingsWrite := none
    lampWrite := none
    waitingCheckpoint := false
    nvSettings := s.settingsFound
    nvLamps := s.lampsFound }

/-- The geometry that a start-up puts in force: the restored values, or zero values where they fail stage 3
(R160). -/
def State.startGeometry (s : State) : State :=
  if s.geometryOk s.conf.geometry then s.adoptGeometry s.conf.geometry else s.adoptGeometry zeroGeo

/-- The cause of the GEOMETRY report at start-up (R160). -/
def State.startGeoCause (s : State) : GeoCause :=
  if s.geometryOk s.conf.geometry then .start else .startDefaulted

/-- The blocks with their start values complete, and nothing reported yet: threshold flags without a
crossing (R102), the scan groups running (R177), the purge of a kept clock (R190), the geometry. -/
def State.restored (s : State) (cause : ResetCause) : State :=
  let c := s.cleared cause
  let flagged := { c with lampA := c.flagged c.lampA, lampB := c.flagged c.lampB }
  flagged.startScan.purge.startGeometry

/-- The START report; its clock-kept byte tells of the clock before the reset (R196). -/
def State.startReport (s : State) (cause : ResetCause) : Report :=
  .start
    { cause := cause, settingsDefaulted := s.settingsFound.isNone, lampDefaulted := s.lampsFound.isNone,
      clockKept := cause.keepsClock && s.clock.isSome, litA := s.lampsFound.any (·.a.lit),
      litB := s.lampsFound.any (·.b.lit) }

/-- UNCLEAN_OFF for the lamps whose stored lit flag is set, and one checkpoint if any is (R110). -/
def State.uncleanOff (s : State) (litA litB : Bool) : State :=
  let told := (s.conditionIf litA .a .uncleanOff).conditionIf litB .b .uncleanOff
  if litA || litB then told.checkpoint else told

/-- The reports of the start-up up to GEOMETRY, in their order (R65, R92, R160, R177, R195). THE MODEL'S CHOICE
(assumption 18): R92 and R195 give the two LAMP_STATE reports of cause START no order, and lamp A's is offered
first. -/
def State.announce (s : State) (start : Report) (geoCause : GeoCause) : State :=
  let levelled :=
    ((s.offer start).offer
      (.lockout { cause := .start, level := s.level, previous := s.level, source := 0xFF })).reconstruct
  (((levelled.reportPower .standby .start .none).reportLamp .a s.lampA.state .start).reportLamp .b
    s.lampB.state .start).sendUpdate geoCause false

/-- A resume after power loss (R176). -/
def State.resume (s : State) (cause : ResetCause) (lit : Bool) : State :=
  if lit ∧ ¬ cause.keepsClock ∧ s.item 32 ≠ 0 then s.unlinked .auto .powerOn else s

/-- A reset and its start-up, whole (R195). -/
def State.startUp (s : State) (cause : ResetCause) : State :=
  let litA := s.lampsFound.any (·.a.lit)
  let litB := s.lampsFound.any (·.b.lit)
  let announced :=
    (s.restored cause).announce (s.startReport cause) ((s.cleared cause).startGeoCause)
  let unclean := announced.uncleanOff litA litB
  let alarmed := if unclean.thermalInput then unclean.thermalAlarm else unclean
  alarmed.resume cause (litA || litB)

/-! ## The commands -/

/-- SUPPLY_APPLIED (R195). -/
def execSupplyApplied (s : State) : Host.Outcome State Fault Refusal := .next (s.startUp .powerOn)

/-- SUPPLY_DIP (R195). -/
def execSupplyDip (s : State) : Host.Outcome State Fault Refusal := .next (s.startUp .supplyDip)

/-- RESET_LINE (R195). -/
def execResetLine (s : State) : Host.Outcome State Fault Refusal := .next (s.startUp .resetLine)

/-- RESTART_RESET (R195): the restart that a RESTART's sent reply has made due. -/
def execRestartReset (s : State) : Host.Outcome State Fault Refusal :=
  .next (if s.restartDue then s.startUp .restart else s)

/-- SETTINGS_WRITE_END (R191, R192): the record passes its check, and the COMMIT is answered. -/
def execSettingsWriteEnd (s : State) : Host.Outcome State Fault Refusal :=
  .next
    (match s.settingsWrite with
      | none => s
      | some w =>
        let freed :=
          { s.setLink w.link { s.link w.link with awaiting := false } with
            settingsWrite := none, nvSettings := some w.content }
        freed.answer w.link 0x37 w.tag (Answer.bare .ok))

/-- LAMP_WRITE_END (R191, R193): the record passes its check, and a waiting checkpoint begins its write. -/
def execLampWriteEnd (s : State) : Host.Outcome State Fault Refusal :=
  .next
    (match s.lampWrite with
      | none => s
      | some w =>
        if s.waitingCheckpoint then
          { s with nvLamps := some w.content, waitingCheckpoint := false }.beginLampWrite
        else { s with nvLamps := some w.content, lampWrite := none })

end Sys2Proof.Machine
end

