-- ==== Sys2Proof/Machine/Dispatch.lean ====
section
/-! DEFINITION. One arm per command: each is one call of its meaning. -/

namespace Sys2Proof.Machine

/-- A command's effect on everything but the queue of waiting commands. -/
def exec (i : Instr) (s : State) : Host.Outcome State Fault Refusal :=
  match i with
  | .linkByteReceived l b stop => Sys2Proof.Machine.execLinkByteReceived l b stop s
  | .frameStall l => Sys2Proof.Machine.execFrameStall l s
  | .unknownKind l kind tag payload => Sys2Proof.Machine.execUnknownKind l kind tag payload s
  | .frameSendEnd l => Sys2Proof.Machine.execFrameSendEnd l s
  | .powerOn l tag payload => Sys2Proof.Machine.execPowerOn l tag payload s
  | .powerOff l tag payload => Sys2Proof.Machine.execPowerOff l tag payload s
  | .selectInput l tag payload => Sys2Proof.Machine.execSelectInput l tag payload s
  | .pictureMute l tag payload => Sys2Proof.Machine.execPictureMute l tag payload s
  | .setKeystone l tag payload => Sys2Proof.Machine.execSetKeystone l tag payload s
  | .setCorner l tag payload => Sys2Proof.Machine.execSetCorner l tag payload s
  | .recallGeometry l tag payload => Sys2Proof.Machine.execRecallGeometry l tag payload s
  | .setLampLevel l tag payload => Sys2Proof.Machine.execSetLampLevel l tag payload s
  | .setLampPlan l tag payload => Sys2Proof.Machine.execSetLampPlan l tag payload s
  | .setLockout l tag payload => Sys2Proof.Machine.execSetLockout l tag payload s
  | .presentCredential l tag payload => Sys2Proof.Machine.execPresentCredential l tag payload s
  | .endCredential l tag payload => Sys2Proof.Machine.execEndCredential l tag payload s
  | .countDownDecrement r => Sys2Proof.Machine.execCountDownDecrement r s
  | .readStatus l tag payload => Sys2Proof.Machine.execReadStatus l tag payload s
  | .readLamp l tag payload => Sys2Proof.Machine.execReadLamp l tag payload s
  | .readInput l tag payload => Sys2Proof.Machine.execReadInput l tag payload s
  | .readGeometry l tag payload => Sys2Proof.Machine.execReadGeometry l tag payload s
  | .storeGeometry l tag payload => Sys2Proof.Machine.execStoreGeometry l tag payload s
  | .readRule l tag payload => Sys2Proof.Machine.execReadRule l tag payload s
  | .writeRule l tag payload => Sys2Proof.Machine.execWriteRule l tag payload s
  | .readMatrix l tag payload => Sys2Proof.Machine.execReadMatrix l tag payload s
  | .writeMatrix l tag payload => Sys2Proof.Machine.execWriteMatrix l tag payload s
  | .readCard l tag payload => Sys2Proof.Machine.execReadCard l tag payload s
  | .writeCard l tag payload => Sys2Proof.Machine.execWriteCard l tag payload s
  | .readGroups l tag payload => Sys2Proof.Machine.execReadGroups l tag payload s
  | .writeGroups l tag payload => Sys2Proof.Machine.execWriteGroups l tag payload s
  | .readEntry l tag payload => Sys2Proof.Machine.execReadEntry l tag payload s
  | .writeEntry l tag payload => Sys2Proof.Machine.execWriteEntry l tag payload s
  | .readExceptions l tag payload => Sys2Proof.Machine.execReadExceptions l tag payload s
  | .writeException l tag payload => Sys2Proof.Machine.execWriteException l tag payload s
  | .readClock l tag payload => Sys2Proof.Machine.execReadClock l tag payload s
  | .setClock l tag payload => Sys2Proof.Machine.execSetClock l tag payload s
  | .readFormat l tag payload => Sys2Proof.Machine.execReadFormat l tag payload s
  | .writeFormat l tag payload => Sys2Proof.Machine.execWriteFormat l tag payload s
  | .readSetting l tag payload => Sys2Proof.Machine.execReadSetting l tag payload s
  | .writeSetting l tag payload => Sys2Proof.Machine.execWriteSetting l tag payload s
  | .commit l tag payload => Sys2Proof.Machine.execCommit l tag payload s
  | .learnBase l tag payload => Sys2Proof.Machine.execLearnBase l tag payload s
  | .serviceClear l tag payload => Sys2Proof.Machine.execServiceClear l tag payload s
  | .resetLampWear l tag payload => Sys2Proof.Machine.execResetLampWear l tag payload s
  | .readIncidents l tag payload => Sys2Proof.Machine.execReadIncidents l tag payload s
  | .setTableLock l tag payload => Sys2Proof.Machine.execSetTableLock l tag payload s
  | .restart l tag payload => Sys2Proof.Machine.execRestart l tag payload s
  | .restartReset => Sys2Proof.Machine.execRestartReset s
  | .supplyApplied => Sys2Proof.Machine.execSupplyApplied s
  | .supplyDip => Sys2Proof.Machine.execSupplyDip s
  | .resetLine => Sys2Proof.Machine.execResetLine s
  | .keyPress k => Sys2Proof.Machine.execKeyPress k s
  | .keyRelease k => Sys2Proof.Machine.execKeyRelease k s
  | .keyRepeat k => Sys2Proof.Machine.execKeyRepeat k s
  | .remoteCode address command again => Sys2Proof.Machine.execRemoteCode address command again s
  | .confirmationWindowExpiry => Sys2Proof.Machine.execConfirmationWindowExpiry s
  | .holdExpiry => Sys2Proof.Machine.execHoldExpiry s
  | .litSense x => Sys2Proof.Machine.execLitSense x s
  | .strikeWindowExpiry x => Sys2Proof.Machine.execStrikeWindowExpiry x s
  | .retryWaitExpiry x => Sys2Proof.Machine.execRetryWaitExpiry x s
  | .retryHoldReached x => Sys2Proof.Machine.execRetryHoldReached x s
  | .ballastFault x => Sys2Proof.Machine.execBallastFault x s
  | .warmupExpiry x weak => Sys2Proof.Machine.execWarmupExpiry x weak s
  | .cooldownExpiry x => Sys2Proof.Machine.execCooldownExpiry x s
  | .holdReached x => Sys2Proof.Machine.execHoldReached x s
  | .litSecond x => Sys2Proof.Machine.execLitSecond x s
  | .thermalAlarm => Sys2Proof.Machine.execThermalAlarm s
  | .thermalInputRelease => Sys2Proof.Machine.execThermalInputRelease s
  | .atLevel x => Sys2Proof.Machine.execAtLevel x s
  | .wakeTimerExpiry x => Sys2Proof.Machine.execWakeTimerExpiry x s
  | .measurement n sync w h r => Sys2Proof.Machine.execMeasurement n sync w h r s
  | .acquireTimeout n => Sys2Proof.Machine.execAcquireTimeout n s
  | .blankEnd => Sys2Proof.Machine.execBlankEnd s
  | .settleExpiry => Sys2Proof.Machine.execSettleExpiry s
  | .deferralExpiry => Sys2Proof.Machine.execDeferralExpiry s
  | .sourceHoldExpiry => Sys2Proof.Machine.execSourceHoldExpiry s
  | .lossGraceExpiry => Sys2Proof.Machine.execLossGraceExpiry s
  | .idleExpiry => Sys2Proof.Machine.execIdleExpiry s
  | .autoOffExpiry => Sys2Proof.Machine.execAutoOffExpiry s
  | .scanInterval g samples => Sys2Proof.Machine.execScanInterval g samples s
  | .minuteStart => Sys2Proof.Machine.execMinuteStart s
  | .clockEnd => Sys2Proof.Machine.execClockEnd s
  | .settingsWriteEnd => Sys2Proof.Machine.execSettingsWriteEnd s
  | .lampWriteEnd => Sys2Proof.Machine.execLampWriteEnd s
  | .ballastFaultRelease x => Sys2Proof.Machine.execBallastFaultRelease x s
  | .atLevelRelease x => Sys2Proof.Machine.execAtLevelRelease x s

end Sys2Proof.Machine
end

