-- ==== Sys2Proof/WellFormed.lean ====
section
/-! DEFINITION. Which commands can reach the part: the bounds that the manual puts on what an event or a
frame brings with it. -/

namespace Sys2Proof

/-- A kind byte that is one of the 42 request kinds (R10). -/
def knownKind (k : Byte) : Bool :=
  (0x10 ≤ k.toNat && k.toNat ≤ 0x1B) || (0x20 ≤ k.toNat && k.toNat ≤ 0x3D)

/-- A payload that fits a frame: a body has at most 250 bytes, two of them kind and tag (R1). -/
def fitsFrame (p : List Byte) : Bool := p.length ≤ 248

/-- A measurement within its ranges, with zeros when sync is absent (R120). -/
def measurementOk (sync : Bool) (width height rate : BitVec 16) : Bool :=
  if sync then width.toNat ≤ 4096 && height.toNat ≤ 2160 else width == 0 && height == 0 && rate == 0

/-- A command that can reach the part. -/
def Instr.wellFormed : Instr → Bool
  | .unknownKind _ k _ p => !knownKind k && fitsFrame p
  | .powerOn _ _ p | .powerOff _ _ p | .selectInput _ _ p | .pictureMute _ _ p | .setKeystone _ _ p
  | .setCorner _ _ p | .recallGeometry _ _ p | .setLampLevel _ _ p | .setLampPlan _ _ p
  | .setLockout _ _ p | .presentCredential _ _ p | .endCredential _ _ p => fitsFrame p
  | .readStatus _ _ p | .readLamp _ _ p | .readInput _ _ p | .readGeometry _ _ p | .storeGeometry _ _ p
  | .readRule _ _ p | .writeRule _ _ p | .readMatrix _ _ p | .writeMatrix _ _ p | .readCard _ _ p
  | .writeCard _ _ p | .readGroups _ _ p | .writeGroups _ _ p | .readEntry _ _ p | .writeEntry _ _ p
  | .readExceptions _ _ p | .writeException _ _ p | .readClock _ _ p | .setClock _ _ p
  | .readFormat _ _ p | .writeFormat _ _ p | .readSetting _ _ p | .writeSetting _ _ p | .commit _ _ p
  | .learnBase _ _ p | .serviceClear _ _ p | .resetLampWear _ _ p | .readIncidents _ _ p
  | .setTableLock _ _ p | .restart _ _ p => fitsFrame p
  | .keyRepeat k => k == .keyUp || k == .keyDown
  | .measurement _ sync w h r => measurementOk sync w h r
  | .linkByteReceived _ _ _ | .frameStall _ | .frameSendEnd _ | .countDownDecrement _ | .restartReset
  | .supplyApplied | .supplyDip | .resetLine | .keyPress _ | .keyRelease _ | .remoteCode _ _ _
  | .confirmationWindowExpiry | .holdExpiry | .litSense _ | .strikeWindowExpiry _ | .retryWaitExpiry _
  | .retryHoldReached _ | .ballastFault _ | .warmupExpiry _ _ | .cooldownExpiry _ | .holdReached _
  | .litSecond _ | .thermalAlarm | .thermalInputRelease | .atLevel _ | .wakeTimerExpiry _
  | .acquireTimeout _ | .blankEnd | .settleExpiry | .deferralExpiry | .sourceHoldExpiry
  | .lossGraceExpiry | .idleExpiry | .autoOffExpiry | .scanInterval _ _ | .minuteStart | .clockEnd
  | .settingsWriteEnd | .lampWriteEnd | .ballastFaultRelease _ | .atLevelRelease _ => true

end Sys2Proof
end

