-- ==== Sys2Proof/Safety.lean ====
section
/-! DEFINITION. The words that the claims about the KP-628 are made in: the request that a command has its
link take, what a link's taking and a permit hand on, what a call, a departure from play and an entry to
STOPPING leave, what a frame leaves alone, what the week table gives as the level at a date-time, and the
invariants that every step keeps. -/

namespace Sys2Proof.Machine

/-! ## Commands as requests -/

/-- The link and the request of a command that has a link take a request: the 42 kinds of R10, and
UNKNOWN_KIND. The events of the table have none. -/
def requestOfCommand : Instr → Option (Link × Request)
  | .unknownKind l k t p => some (l, ⟨k, t, p⟩)
  | .powerOn l t p => some (l, ⟨0x10, t, p⟩)
  | .powerOff l t p => some (l, ⟨0x11, t, p⟩)
  | .selectInput l t p => some (l, ⟨0x12, t, p⟩)
  | .pictureMute l t p => some (l, ⟨0x13, t, p⟩)
  | .setKeystone l t p => some (l, ⟨0x14, t, p⟩)
  | .setCorner l t p => some (l, ⟨0x15, t, p⟩)
  | .recallGeometry l t p => some (l, ⟨0x16, t, p⟩)
  | .setLampLevel l t p => some (l, ⟨0x17, t, p⟩)
  | .setLampPlan l t p => some (l, ⟨0x18, t, p⟩)
  | .setLockout l t p => some (l, ⟨0x19, t, p⟩)
  | .presentCredential l t p => some (l, ⟨0x1A, t, p⟩)
  | .endCredential l t p => some (l, ⟨0x1B, t, p⟩)
  | .readStatus l t p => some (l, ⟨0x20, t, p⟩)
  | .readLamp l t p => some (l, ⟨0x21, t, p⟩)
  | .readInput l t p => some (l, ⟨0x22, t, p⟩)
  | .readGeometry l t p => some (l, ⟨0x23, t, p⟩)
  | .storeGeometry l t p => some (l, ⟨0x24, t, p⟩)
  | .readRule l t p => some (l, ⟨0x25, t, p⟩)
  | .writeRule l t p => some (l, ⟨0x26, t, p⟩)
  | .readMatrix l t p => some (l, ⟨0x27, t, p⟩)
  | .writeMatrix l t p => some (l, ⟨0x28, t, p⟩)
  | .readCard l t p => some (l, ⟨0x29, t, p⟩)
  | .writeCard l t p => some (l, ⟨0x2A, t, p⟩)
  | .readGroups l t p => some (l, ⟨0x2B, t, p⟩)
  | .writeGroups l t p => some (l, ⟨0x2C, t, p⟩)
  | .readEntry l t p => some (l, ⟨0x2D, t, p⟩)
  | .writeEntry l t p => some (l, ⟨0x2E, t, p⟩)
  | .readExceptions l t p => some (l, ⟨0x2F, t, p⟩)
  | .writeException l t p => some (l, ⟨0x30, t, p⟩)
  | .readClock l t p => some (l, ⟨0x31, t, p⟩)
  | .setClock l t p => some (l, ⟨0x32, t, p⟩)
  | .readFormat l t p => some (l, ⟨0x33, t, p⟩)
  | .writeFormat l t p => some (l, ⟨0x34, t, p⟩)
  | .readSetting l t p => some (l, ⟨0x35, t, p⟩)
  | .writeSetting l t p => some (l, ⟨0x36, t, p⟩)
  | .commit l t p => some (l, ⟨0x37, t, p⟩)
  | .learnBase l t p => some (l, ⟨0x38, t, p⟩)
  | .serviceClear l t p => some (l, ⟨0x39, t, p⟩)
  | .resetLampWear l t p => some (l, ⟨0x3A, t, p⟩)
  | .readIncidents l t p => some (l, ⟨0x3B, t, p⟩)
  | .setTableLock l t p => some (l, ⟨0x3C, t, p⟩)
  | .restart l t p => some (l, ⟨0x3D, t, p⟩)
  | .linkByteReceived _ _ _ | .frameStall _ | .frameSendEnd _ | .countDownDecrement _ | .restartReset
  | .supplyApplied | .supplyDip | .resetLine | .keyPress _ | .keyRelease _ | .keyRepeat _
  | .remoteCode _ _ _ | .confirmationWindowExpiry | .holdExpiry | .litSense _ | .strikeWindowExpiry _
  | .retryWaitExpiry _ | .retryHoldReached _ | .ballastFault _ | .warmupExpiry _ _ | .cooldownExpiry _
  | .holdReached _ | .litSecond _ | .thermalAlarm | .thermalInputRelease | .atLevel _
  | .wakeTimerExpiry _ | .measurement _ _ _ _ _ | .acquireTimeout _ | .blankEnd | .settleExpiry
  | .deferralExpiry | .sourceHoldExpiry | .lossGraceExpiry | .idleExpiry | .autoOffExpiry
  | .scanInterval _ _ | .minuteStart | .clockEnd | .settingsWriteEnd | .lampWriteEnd
  | .ballastFaultRelease _ | .atLevelRelease _ => none

/-- The operation that an operational request of the right length names, or `none` where an argument is no
code of its list (R10, R30, R49). -/
def operationOf (r : Request) : Option Operation :=
  match r.kind.toNat, r.payload with
  | 0x10, [] => some .powerOn
  | 0x11, [] => some .powerOff
  | 0x12, [i] => (inputOf i.toNat).map .selectInput
  | 0x13, [b] => (onOff b.toNat).map .pictureMute
  | 0x14, [b, v, h] => (onOff b.toNat).map fun relative => .setKeystone relative v.toInt h.toInt
  | 0x15, [c, x1, x0, y1, y0] =>
    (Corner.ofCode c.toNat).map fun corner => .setCorner corner (x1 ++ x0).toInt (y1 ++ y0).toInt
  | 0x16, [p] => (presetOf p.toNat).map .recallGeometry
  | 0x17, [v] => (LampLevel.ofCode v.toNat).map .setLampLevel
  | 0x18, [p] => (Plan.ofCode p.toNat).map .setLampPlan
  | 0x19, [v] => (Level.ofCode v.toNat).map .setLockout
  | 0x1A, [a, b, c, d, e, f] =>
    let token : BitVec 48 := a ++ b ++ c ++ d ++ e ++ f
    if token = 0 ∨ token = BitVec.allOnes 48 then none else some (.presentCredential token)
  | 0x1B, [] => some .endCredential
  | _, _ => none

/-- A link takes a request out of its queue, and `t` is the state right after (R5). -/
def State.linkTakes (s : State) (l : Link) (r : Request) (t : State) : Prop :=
  ∃ k, (s.link l).takes r = some k ∧ t = s.setLink l k

/-- A management request of a link meets no refusal under the third row of R6's table. -/
def State.mayManage (t : State) (l : Link) : Prop := l = .control ∨ t.techHold = true

/-- An operational request that a link has taken is permitted with an effective priority, and `u` is the
state in which its owning block takes it: the counts of the evaluation made (R52), and the activity of R169
taken. -/
def State.permits (t : State) (l : Link) (o : Operation) (priority : Nat) (u : State) : Prop :=
  (t.evaluate (ReqClass.ofLink l) o none).1.permit = true
    ∧ (t.evaluate (ReqClass.ofLink l) o none).1.priority = priority
    ∧ u = if o.isActivity (ReqClass.ofLink l) then (t.evaluate (ReqClass.ofLink l) o none).2.activity
        else (t.evaluate (ReqClass.ofLink l) o none).2

/-- The projector is on its way up or lit: STARTING, ON or DIMMED (chapter 9). -/
def PowerState.running : PowerState → Bool
  | .starting | .on | .dimmed => true
  | .standby | .stopping | .shutdown => false

/-! ## The timetable's level -/

/-- Week entry `n` is a candidate of the reconstruction at a date-time, `back` minutes before it: an enabled
SET_LOCKOUT entry on a day of its set, which the exception record of today's date does not strike out where it
falls today (R189). -/
def Stored.timetabled (c : Stored) (t : DateTime) (n : Fin 48) (back : Nat) : Prop :=
  (c.week.get n).enabled = true ∧ (c.week.get n).action = .setLockout
    ∧ (∃ day : Fin 7, (c.week.get n).days.getLsbD day.val = true
      ∧ back = (t.date.weekday * 1440 + (t.hour * 60 + t.minute) + 10080
          - (day.val * 1440 + (c.week.get n).minute)) % 10080)
    ∧ ¬ (back ≤ t.hour * 60 + t.minute
      ∧ ((c.exceptions.find? fun r : ExceptionRecord => decide (r.date = t.date)).any fun r =>
        r.actions.getLsbD 3) = true)

/-- The level of the candidate of the least distance back, and of the highest index where several entries fall
at that minute (R189). -/
def Stored.restores (c : Stored) (t : DateTime) (v : Level) : Prop :=
  ∃ n back, c.timetabled t n back ∧ v.code = (c.week.get n).arg1
    ∧ ∀ m other, c.timetabled t m other → back < other ∨ back = other ∧ m ≤ n

/-! ## Calls, departures from play and the power state -/

/-- A call of the lamp begins or resumes a power-on: it is available, and it is in DARK with its ballast free of
a fault, in COOLDOWN or HOT without waiting, or in IGNITE or WARMUP with its off pending (R70). -/
def Lamp.callable (m : Lamp) : Prop :=
  m.out = false ∧ m.expired = false ∧ match m.state with
    | .dark => m.faultLine = false
    | .cooldown | .hot => m.waiting = false
    | .ignite | .warmup => m.pendingOff = true
    | .retryWait | .lit | .dimmed | .out => False

/-- `n` is what a call makes of a lamp `m`: from DARK it is struck in a new power-on, in COOLDOWN and HOT a new
power-on begins and it waits, and in IGNITE and WARMUP its power-on goes on without the pending off; a call
of any other lamp has no effect (R70, R72). -/
def State.callMakes (s : State) (m n : Lamp) : Prop :=
  match m.state with
  | .dark =>
    n.state = .ignite ∧ n.demand = .ignite ∧ n.called = true ∧ n.attempts = 1 ∧ n.limit = s.item 9
      ∧ n.cap = s.item 10 ∧ n.timer = some 2000 ∧ n.strikeCount = min (m.strikeCount + 1) 65535
      ∧ n.wear = min (m.wear + 600) 4294967295
  | .cooldown | .hot =>
    n = { m with called := true, waiting := true, attempts := 0, limit := s.item 9, cap := s.item 10
                 demand := .off, wakeTimer := none }
  | .ignite => n = { m with called := true, pendingOff := false, demand := .ignite, wakeTimer := none }
  | .warmup => n = { m with called := true, pendingOff := false, demand := .full, wakeTimer := none }
  | .retryWait | .lit | .dimmed | .out => n = m

/-- The power unit after a lamp event that leaves it a lamp in play, from `s` before the event to `v` after it.
STARTING goes to ON where some lamp is called and every called lamp is LIT; ON and DIMMED go back to STARTING
where no called lamp is LIT or DIMMED; STOPPING goes on to STANDBY where recovery is clear and no lamp is alight
or cooling. The intent stays; the degraded mark is set by a DEGRADED signal, and cleared where the plan is not
DUAL or both lamps are called again (R164). -/
def State.powerFollows (s : State) (signalled : Bool) (v : State) : Prop :=
  let allLit := (v.lampA.called = true ∨ v.lampB.called = true)
    ∧ (v.lampA.called = true → v.lampA.state = .lit) ∧ (v.lampB.called = true → v.lampB.state = .lit)
  let shines := fun m : Lamp => m.called = true ∧ (m.state = .lit ∨ m.state = .dimmed)
  let ended := fun m : Lamp => m.state ∈ [LampState.dark, .retryWait, .hot, .out]
  v.power.state = (match s.power.state with
    | .starting => if allLit then .on else .starting
    | .on => if shines v.lampA ∨ shines v.lampB then .on else .starting
    | .dimmed => if shines v.lampA ∨ shines v.lampB then .dimmed else .starting
    | .stopping => if s.recovery = false ∧ ended v.lampA ∧ ended v.lampB then .standby else .stopping
    | .standby => .standby
    | .shutdown => .shutdown)
  ∧ v.power.intent = s.power.intent ∧ v.power.intentClass = s.power.intentClass
  ∧ v.power.intentPriority = s.power.intentPriority
  ∧ (s.power.state.running = true →
    v.power.degraded = (signalled || (s.power.degraded && decide (s.conf.plan = .dual)
      && !(v.lampA.called && v.lampB.called))))

/-- No lamp is in play any more: the intent is OFF with no class and priority 0, and the projector enters STOPPING
with outcome START_FAILED, and goes on to STANDBY in the same event where recovery is clear and no lamp is alight or
cooling (R89, R164). -/
def State.startFails (s v : State) : Prop :=
  let ended := fun m : Lamp => m.state ∈ [LampState.dark, .retryWait, .hot, .out]
  v.power.state = (if s.recovery = false ∧ ended v.lampA ∧ ended v.lampB then .standby else .stopping)
    ∧ v.power.intent = false ∧ v.power.intentClass = none ∧ v.power.intentPriority = 0
    ∧ v.power.degraded = false
    ∧ ∃ w : State, w.power.state = .stopping ∧ w.power.intent = false ∧ w.power.intentClass = none
      ∧ v = (w.offer (.powerState
          { state := .stopping, previous := s.power.state, cause := .lamps, outcome := .startFailed
            intent := false, intentClass := none, intentPriority := 0, calledA := v.lampA.called
            calledB := v.lampB.called, degraded := false, idleExpired := false
            plan := s.conf.plan })).tryStandby

/-- A lamp has left play, from `s` before the event to `v` after it (R89). With the intent OFF nothing further
is done. With the intent ON in STARTING, ON or DIMMED, under DUAL and ALTERNATE a partner that is called carries
on, and one that is not is called; under DUAL that is DEGRADED. Under a fixed plan, and where the partner cannot
be called, no lamp is in play. -/
def State.afterLeaving (s : State) (x : LampId) (v : State) : Prop :=
  let partner := s.lamp (otherLamp x)
  let shared := s.conf.plan = .dual ∨ s.conf.plan = .alternate
  let goesOn := s.powerFollows (decide (s.conf.plan = .dual)) v
  (s.power.intent = false → s.powerFollows false v ∧ v.lamp (otherLamp x) = partner)
    ∧ (s.power.intent = true → s.power.state.running = true →
      (shared → partner.called = true → goesOn ∧ v.lamp (otherLamp x) = partner)
      ∧ (shared → partner.called = false → partner.callable →
        goesOn ∧ s.callMakes partner (v.lamp (otherLamp x)))
      ∧ (¬ shared ∨ partner.called = false ∧ (partner.out = true ∨ partner.expired = true) →
        s.startFails v ∧ v.lamp (otherLamp x) = { partner with wakeTimer := none }))

/-- The switch unit and the picture after an entry to STOPPING: the pending select and the source hold are gone,
and a switch in flight is dropped, its target selected at the lines and its picture at the scaler (R138,
R154). -/
def State.dropsSwitch (s v : State) : Prop :=
  v.sw.inFlight = none ∧ v.sw.slot = none ∧ v.sw.hold = none ∧ v.sw.mute = s.sw.mute
    ∧ v.sw.selected = (s.sw.inFlight.map (·.target)).getD s.sw.selected
    ∧ v.sw.selectLines = v.sw.selected ∧ v.sw.blankLine = v.sw.mute
    ∧ (s.geo.input = s.sw.selected ∨ s.sw.inFlight.isSome = true → v.geo.input = v.sw.selected)
    ∧ (s.sw.inFlight.isSome = true →
      v.runPicture.geo = v.geo ∧ v.geo.deferred = false ∧ v.scaler = v.geo.update)

/-! ## Frames: what is as it was -/

/-- Only the two links differ. -/
def State.linksOnly (s t : State) : Prop := t = { s with control := t.control, lectern := t.lectern }

/-- Only the links, the lamps with their lines, and the lamp record's writing differ. -/
def State.lampsOnly (s t : State) : Prop :=
  t =
    { s with
      control := t.control, lectern := t.lectern, lampA := t.lampA, lampB := t.lampB
      lastStruck := t.lastStruck, fan := t.fan, lampWrite := t.lampWrite
      waitingCheckpoint := t.waitingCheckpoint }

/-- Only the links, the inputs, the switch unit, the geometry with the scaler, the power unit, and the
lamps as UNDIM leaves them differ: what a change of source can reach. -/
def State.sourceOnly (s t : State) : Prop :=
  t =
    { s with
      control := t.control, lectern := t.lectern, lampA := t.lampA, lampB := t.lampB, fan := t.fan
      inputs := t.inputs, sw := t.sw, geo := t.geo, scaler := t.scaler, power := t.power }

/-- Only the links, the lamps with their lines and the lamp record's writing, thermal recovery, and the power
unit with all that runs by its state differ: what a lamp event or a thermal alarm can reach. -/
def State.lampPathOnly (s t : State) : Prop :=
  t =
    { s with
      control := t.control, lectern := t.lectern, window := t.window, hold := t.hold, lampA := t.lampA
      lampB := t.lampB, lastStruck := t.lastStruck, fan := t.fan, recovery := t.recovery
      inputs := t.inputs, sw := t.sw, geo := t.geo, scaler := t.scaler, power := t.power, scan := t.scan
      lampWrite := t.lampWrite, waitingCheckpoint := t.waitingCheckpoint }

/-- Only the links, the lockout level and the rules' counters differ: what an evaluation can reach. -/
def State.policyOnly (s t : State) : Prop :=
  t = { s with control := t.control, lectern := t.lectern, level := t.level, counters := t.counters }

/-! ## Invariants of the links -/

/-- What the frame assembler has gathered fits its length byte (R1, R2). -/
def Assembler.sound : Assembler → Prop
  | .hunt | .length => True
  | .body len got => 2 ≤ len ∧ len ≤ 250 ∧ got.length < len
  | .check len got => 2 ≤ len ∧ len ≤ 250 ∧ got.length = len

/-- A link's queues hold at most their places, its error count its top; a reply is owed only while the list
is full; the line is never idle while a reply or a report waits; the stall time runs exactly outside HUNT
(R2, R3, R4, R8, R11, R12). -/
def LinkState.sound (k : LinkState) : Prop :=
  k.assembler.sound ∧ (k.assembler = .hunt ↔ k.stall = none)
    ∧ k.inbound.length ≤ 4 ∧ k.replies.length ≤ 4 ∧ k.reports.length ≤ 16 ∧ k.errors ≤ 255
    ∧ (k.owed.isSome → k.replies.length = 4)
    ∧ (k.sending = none → k.replies = [] ∧ k.reports = [])

/-- Both links are sound, and a link waits for a COMMIT exactly while a settings write of its own is in
flight (R8, R192). -/
def State.linksSound (s : State) : Prop :=
  ∀ l : Link, (s.link l).sound
    ∧ ((s.link l).awaiting = true ↔ ∃ w, s.settingsWrite = some w ∧ w.link = l)

/-! ## Invariants of the lines -/

/-- The demand lines, the fan line, the select lines and the blank line are what R67, R69 and R129 give, and
a wake timer runs for a lamp in LIT alone (R170). -/
def State.linesDriven (s : State) : Prop :=
  (∀ x : LampId, (s.lamp x).demand = demandOf (s.lamp x).state s.conf.lampLevel)
    ∧ (s.fan = true ↔ s.lampA.state = .cooldown ∨ s.lampB.state = .cooldown ∨ s.recovery = true)
    ∧ s.sw = s.sw.drive
    ∧ ∀ x : LampId, (s.lamp x).state ≠ .lit → (s.lamp x).wakeTimer = none

/-! ## Invariants of the lamps -/

/-- A lamp's counts stay within their tops, its history within four records, and its lit seconds below the
next checkpoint (R72, R93, R94, R100, R107, R170). -/
def Lamp.bounded (m : Lamp) : Prop :=
  m.wear ≤ 4294967295 ∧ m.strikeCount ≤ 65535 ∧ m.wakeLate ≤ 255 ∧ m.history.length ≤ 4
    ∧ m.fraction ≤ 1000 ∧ m.litSeconds < 600

/-- The same bounds of what a lamp record carries (R101). -/
def LampEntry.bounded (e : LampEntry) : Prop :=
  e.wear ≤ 4294967295 ∧ e.strikeCount ≤ 65535 ∧ e.wakeLate ≤ 255 ∧ e.history.length ≤ 4

/-- The bounds hold of both lamps of a record. -/
def LampRecord.bounded (r : LampRecord) : Prop := r.a.bounded ∧ r.b.bounded

/-- The bounds hold of the lamps, of a lamp write in flight and of the stored lamp record. -/
def State.lampsBounded (s : State) : Prop :=
  (∀ x : LampId, (s.lamp x).bounded) ∧ (∀ w, s.lampWrite = some w → w.content.bounded)
    ∧ ∀ r, s.nvLamps = some r → r.bounded

/-- How a lamp's flags and timer go with its state (R70 to R83): a waiting lamp is called and in COOLDOWN or
HOT, a pending off stands in IGNITE or WARMUP without a call, a lamp that is alight or waits to retry is
called or has its off pending, the out flag stands in OUT, or in COOLDOWN on the way there, and the one
timer runs in the states that have one. -/
def Lamp.playSound (m : Lamp) : Prop :=
  match m.state with
  | .dark => m.called = false ∧ m.waiting = false ∧ m.pendingOff = false ∧ m.out = false ∧ m.timer = none
  | .ignite | .warmup =>
    m.called = !m.pendingOff ∧ m.waiting = false ∧ m.out = false ∧ m.timer.isSome = true
  | .retryWait => m.called = true ∧ m.pendingOff = false ∧ m.waiting = false ∧ m.out = false
  | .lit | .dimmed =>
    m.called = true ∧ m.pendingOff = false ∧ m.waiting = false ∧ m.out = false ∧ m.timer = none
  | .cooldown =>
    m.called = m.waiting ∧ m.pendingOff = false ∧ (m.out = true → m.called = false) ∧ m.timer.isSome = true
  | .hot => m.called = m.waiting ∧ m.pendingOff = false ∧ m.out = false ∧ m.timer = none
  | .out => m.called = false ∧ m.waiting = false ∧ m.pendingOff = false ∧ m.out = true ∧ m.timer = none

/-- Both lamps' flags go with their states. -/
def State.lampsInPlay (s : State) : Prop := ∀ x : LampId, (s.lamp x).playSound

/-- Each threshold flag of each lamp is set exactly while its wear stands at or above the threshold of the
setting items in force (R96). -/
def State.flagsFollowWear (s : State) : Prop :=
  ∀ x : LampId,
    ((s.lamp x).warning = true ↔ (s.item 11 - s.item 12) * 43200 ≤ (s.lamp x).wear)
      ∧ ((s.lamp x).endOfLife = true ↔ s.item 11 * 43200 ≤ (s.lamp x).wear)
      ∧ ((s.lamp x).expired = true ↔ (s.item 11 + s.item 13) * 43200 ≤ (s.lamp x).wear)

/-! ## Invariants of the picture -/

/-- The geometry quad and its area are those of the geometry values in force, the picture figures are those
that stages 4 and 5 give for the source as it stands, and the scaler holds the figures in force, but for an
update that a switch in flight defers (R147 to R154). -/
def State.pictureSound (s : State) : Prop :=
  s.geo.quad = s.conf.geometry.quad ∧ s.geo.area = s.geo.quad.area ∧ s.runPicture.geo = s.geo
    ∧ (s.geo.deferred = false → s.scaler = s.geo.update)
    ∧ (s.geo.deferred = true → s.sw.inFlight.isSome = true)

/-! ## Invariants of the power unit and of what runs by its state -/

/-- What each power state keeps running: the monitor (R120), the idle and auto-off timers and the mark
(R167, R168), the scan groups (R172), a switch, a pending select and a source hold (R130, R138), the intent
(R161), and thermal recovery (R111 to R115). A switch in flight goes to another input than the selected one, and
a pending select names another input than the switch in flight goes to (R131). -/
def State.powerSound (s : State) : Prop :=
  (∀ i : InputId, (s.input i).signal = .dormant ↔ s.power.state = .standby ∨ s.power.state = .shutdown)
    ∧ (∀ g : GroupId, (s.scan.get g).interval.isSome = true ↔ s.power.state = .standby)
    ∧ (s.power.idle.isSome = true ↔ s.idleHolds = true)
    ∧ (s.power.idleExpired = true → s.power.state = .on)
    ∧ (s.power.autoOff.isSome = true → s.power.state = .dimmed ∨ s.power.idleExpired = true)
    ∧ (s.power.intent = true ↔ s.power.state.running = true)
    ∧ (s.recovery = true → s.power.state.running = false)
    ∧ (s.power.state = .shutdown → s.recovery = true)
    ∧ (s.sw.inFlight.isSome = true → s.power.state.running = true)
    ∧ (s.sw.slot.isSome = true → s.sw.inFlight.isSome = true)
    ∧ (s.sw.hold.isSome = true → s.power.state.running = true)
    ∧ s.sw.inFlight.map (·.target) ≠ some s.sw.selected
    ∧ (s.sw.slot.isSome = true → s.sw.slot.map (·.input) ≠ s.sw.inFlight.map (·.target))

/-- While the power state is SHUTDOWN no lamp is alight (R115); and while thermal recovery is active, none is
alight and none is called (R84, R113). -/
def State.protectionSound (s : State) : Prop :=
  ∀ x : LampId,
    (s.power.state = .shutdown → (s.lamp x).state ∉ [LampState.ignite, .warmup, .lit, .dimmed])
      ∧ (s.recovery = true →
        (s.lamp x).state ∉ [LampState.ignite, .warmup, .lit, .dimmed] ∧ (s.lamp x).called = false)

/-- A rule's counter never exceeds its limit, and that of a COUNT_UP rule stands below it (R52, R53). -/
def State.countersWithin (s : State) : Prop :=
  ∀ i : RuleId,
    (s.counters.get i).value ≤ (s.conf.rules.get i).limit
      ∧ ((s.conf.rules.get i).counterMode = .countUp →
        (s.counters.get i).value < (s.conf.rules.get i).limit)

/-- What the monitor and the loss watch keep: a format exactly while STABLE, the acquire timer exactly while
ACQUIRING (R122), the watch out of WATCHING exactly while it acts on a selected input that is not STABLE,
and the grace timer exactly in GRACE (R140). -/
def State.watchSound (s : State) : Prop :=
  (∀ i : InputId,
    ((s.input i).signal = .stable ↔ (s.input i).format.isSome = true)
      ∧ ((s.input i).signal = .acquiring ↔ (s.input i).acquire.isSome = true))
    ∧ (s.sw.watch ≠ .watching ↔ s.watchActs = true ∧ s.selectedStable = false)
    ∧ (s.sw.grace.isSome = true ↔ s.sw.watch = .grace)

/-! ## Invariants of the stored tables -/

/-- Whether geometry values are within the ranges of section 8.1. -/
def GeoValues.inRange (g : GeoValues) : Prop :=
  -40 ≤ g.v ∧ g.v ≤ 40 ∧ -30 ≤ g.h ∧ g.h ≤ 30
    ∧ ∀ p ∈ [g.tl, g.tr, g.br, g.bl], -192 ≤ p.x ∧ p.x ≤ 192 ∧ -192 ≤ p.y ∧ p.y ≤ 192

/-- What the writes of each table let in: items within their forms (R194), the matrix and the rules within
their fields (R42, R45), the lock's boundaries (R62), formats with their aspect overrides (R125), card entries
whose tokens, where enabled, are personal tokens no two alike (R33), week entries (R181), geometry values
(section 8.1), and an exception list of at most 16 valid dates in ascending order, no two alike (R183). -/
def Stored.inRange (c : Stored) : Prop :=
  (∀ n f, itemOf n = some f → f.2.apply (c.items.get f.1) = c.items.get f.1)
    ∧ (∀ i : Fin 24, (c.matrix.get i).priority ≤ 7)
    ∧ (∀ i : Fin 16,
      (c.rules.get i).timeMin < 10080 ∧ (c.rules.get i).timeMax < 10080 ∧ (c.rules.get i).priority ≤ 7
        ∧ 1 ≤ (c.rules.get i).limit ∧ (c.rules.get i).limit ≤ 2047)
    ∧ (c.lock.schedule ≤ 48 ∧ c.lock.schedule % 8 = 0 ∧ c.lock.rule ≤ 16 ∧ c.lock.rule % 4 = 0)
    ∧ (∀ i : Fin 16,
      1 ≤ (c.formats.get i).width ∧ (c.formats.get i).width ≤ 4096
        ∧ 1 ≤ (c.formats.get i).height ∧ (c.formats.get i).height ≤ 2160
        ∧ 1 ≤ (c.formats.get i).rateMin ∧ (c.formats.get i).rateMin ≤ (c.formats.get i).rateMax
        ∧ (c.formats.get i).rateMax ≤ 65535
        ∧ ∀ a, (c.formats.get i).aspect = some a → 1 ≤ a.1 ∧ a.1 ≤ 64 ∧ 1 ≤ a.2 ∧ a.2 ≤ 64)
    ∧ (∀ i : Fin 8, (c.cards.get i).enabled = true →
      (c.cards.get i).token ≠ 0 ∧ (c.cards.get i).token ≠ BitVec.allOnes 48
        ∧ (c.cards.get i).token.getLsbD 47 = false
        ∧ ∀ j, j ≠ i → (c.cards.get j).enabled = true → (c.cards.get j).token ≠ (c.cards.get i).token)
    ∧ (∀ i : Fin 48,
      (c.week.get i).minute < 1440 ∧ (c.week.get i).priority ≤ 7
        ∧ (c.week.get i).action.argsOk (c.week.get i).arg1 (c.week.get i).arg2 = true)
    ∧ c.geometry.inRange ∧ (∀ p : Fin 4, (c.presets.get p).inRange)
    ∧ c.exceptions.length ≤ 16 ∧ (∀ e ∈ c.exceptions, e.date.valid = true)
    ∧ c.exceptions.Pairwise fun e f => e.date.before f.date = true

/-- The tables are in range as the blocks hold them, as a settings write in flight carries them, and as the
settings record stores them; an input's activity sample, which LEARN_BASE stores, fits two bytes (R173). -/
def State.tablesInRange (s : State) : Prop :=
  s.conf.inRange ∧ (∀ w, s.settingsWrite = some w → w.content.inRange)
    ∧ (∀ c, s.nvSettings = some c → c.inRange)
    ∧ ∀ i : InputId, (s.input i).activity < 65536

end Sys2Proof.Machine
end

