-- ==== Sys2Proof/Certificates/Slice0/Obligations.lean ====
section
/-! DEFINITION. The statements about the KP-628 for the provers, chapter by chapter. -/

open Sys2Proof Sys2Proof.Machine

/-! ## The machine -/

/-- Step takes the command at the front of the queue and answers what exec answers on it. -/
def Obligations.StepRunsTheFrontCommand : Prop :=
  ∀ (c : Instr) (rest : List Instr) (s : State),
    s.pending = c :: rest → step s = exec c { s with pending := rest }

/-- THE MODEL'S CHOICE (assumptions 2, 3 and 5): with no command waiting, one millisecond passes. Every timer
that runs is one nearer its end, and waits at 0 there; every elapsed time that counts is one longer, the
lit-time fraction of a burning lamp up to one second; a set clock counts up to the last millisecond of its
minute. Nothing else of the state changes: no timer stops or starts, and nothing is sent, answered or
reported. -/
def Obligations.IdleStepLetsOneMillisecondPass : Prop :=
  ∀ s : State, s.pending = [] →
    let nearer : Timer → Timer := fun left => left.map (· - 1)
    let longer : Option Nat → Option Nat := fun since => since.map (· + 1)
    let stalled := fun k : LinkState => { k with stall := nearer k.stall }
    let aged := fun m : Lamp =>
      { m with
        since := m.since + 1, timer := nearer m.timer, wakeTimer := nearer m.wakeTimer
        fraction := match m.state with
          | .warmup | .lit | .dimmed => min (m.fraction + 1) 1000
          | .dark | .ignite | .retryWait | .cooldown | .hot | .out => m.fraction }
    step s = .next { s with
      control := stalled s.control
      lectern := stalled s.lectern
      window := s.window.map fun w => { w with left := nearer w.left }
      keypad := { s.keypad with
        upRepeat := nearer s.keypad.upRepeat, downRepeat := nearer s.keypad.downRepeat }
      remote := { s.remote with
        sinceUp := longer s.remote.sinceUp, sinceDown := longer s.remote.sinceDown }
      hold := s.hold.map fun h => { h with left := h.left - 1 }
      counters := s.counters.map fun c => { c with unit := nearer c.unit }
      lampA := aged s.lampA
      lampB := aged s.lampB
      inputs := s.inputs.map fun r => { r with acquire := nearer r.acquire }
      sw := { s.sw with
        inFlight := s.sw.inFlight.map fun w => { w with timer := nearer w.timer }
        slot := s.sw.slot.map fun p => { p with deferral := nearer p.deferral }
        hold := s.sw.hold.map fun h => { h with left := h.left - 1 }
        grace := nearer s.sw.grace }
      power := { s.power with idle := nearer s.power.idle, autoOff := nearer s.power.autoOff }
      scan := s.scan.map fun g => { g with interval := nearer g.interval }
      clock := s.clock.map fun c =>
        if c.ms < 999 then { c with ms := c.ms + 1 }
        else if c.now.second < 59 then ⟨{ c.now with second := c.now.second + 1 }, 0⟩
        else c
      settingsWrite := s.settingsWrite.map fun w => { w with left := nearer w.left }
      lampWrite := s.lampWrite.map fun w => { w with left := nearer w.left } }

/-- THE MODEL'S CHOICES: every command completes, since the model has no faults and refuses no command, and
one that cannot occur leaves the state as it is (assumption 6); and no command, the four resets included,
touches the queue of commands that wait, which is the model's own form for a block that takes commands
(assumption 33). The manual states neither: 95_what_each_step_holds.md lists the steps that the commands are,
each whole and indivisible. -/
def Obligations.NoCommandTouchesTheQueue : Prop :=
  ∀ (c : Instr) (s : State), ∃ t, exec c s = .next t ∧ t.pending = s.pending

/-! ## Chapter 1: the message links -/

/-- R1, R2, R4: every frame the part sends is the sync byte 0x5A, the number of body bytes, the body and a
check byte, and its bytes after the sync byte sum to 0 modulo 256. The bytes of a whole frame, received one
after the other by an assembler in HUNT, hand on exactly the request that the frame carries, for every body of
2 to 250 bytes. -/
def Obligations.WholeFrameHandsOnItsRequest : Prop :=
  (∀ f : OutFrame,
    f.bytes.take 2 = [0x5A, byte f.body.length] ∧ (f.bytes.drop 2).take f.body.length = f.body
      ∧ byteSum (f.bytes.drop 1) = 0 ∧ f.bytes.length = f.body.length + 3)
    ∧ ∀ (k : LinkState) (kind tag : Byte) (payload : List Byte),
      k.assembler = .hunt → payload.length ≤ 248 →
        (frameOf (kind :: tag :: payload)).foldl (fun k b => k.receive b true) k
          = ({ k with stall := none } : LinkState).offerRequest ⟨kind, tag, payload⟩

/-- R2, R3: the four states of the frame assembler, what each makes of a byte, and what a missing stop bit
does, with the error count of R3; LINK_BYTE_RECEIVED reaches nothing but the link it names. FRAME_STALL
discards the frame being assembled and counts it (R3). THE MODEL'S CHOICE (assumption 6): in HUNT, where no
frame is being assembled, FRAME_STALL changes nothing. -/
def Obligations.AssemblerTakesEachByteByItsState : Prop :=
  (∀ (s : State) (l : Link),
    exec (.frameStall l) s
      = .next (if (s.link l).assembler = .hunt then s
        else s.setLink l { s.link l with
          assembler := .hunt, stall := none, errors := min ((s.link l).errors + 1) 255 }))
  ∧ ∀ (s : State) (l : Link) (b : Byte) (stop : Bool),
    ∃ k, exec (.linkByteReceived l b stop) s = .next (s.setLink l k)
      ∧ match (s.link l).assembler with
        | .hunt =>
          if stop = true ∧ b = 0x5A then k = { s.link l with assembler := .length, stall := some 50 }
          else k = s.link l
        | .length =>
          if stop = true ∧ 2 ≤ b.toNat ∧ b.toNat ≤ 250 then
            k = { s.link l with assembler := .body b.toNat [], stall := some 50 }
          else
            k = { s.link l with
                  assembler := .hunt, stall := none, errors := min ((s.link l).errors + 1) 255 }
        | .body len got =>
          if stop = false then
            k = { s.link l with
                  assembler := .hunt, stall := none, errors := min ((s.link l).errors + 1) 255 }
          else if got.length + 1 < len then
            k = { s.link l with assembler := .body len (got ++ [b]), stall := some 50 }
          else k = { s.link l with assembler := .check len (got ++ [b]), stall := some 50 }
        | .check len got =>
          if stop = true ∧ byteSum (byte len :: (got ++ [b])) = 0 then
            k = ({ s.link l with assembler := .hunt, stall := none } : LinkState).offerRequest
              ⟨got.getD 0 0, got.getD 1 0, got.drop 2⟩
          else
            k = { s.link l with
                  assembler := .hunt, stall := none, errors := min ((s.link l).errors + 1) 255 }

/-- R4: a request joins a queue with a free place; with the queue full it is answered BUSY while the reply
list has room, and dropped and counted when the list is full too. -/
def Obligations.RequestJoinsIsAnsweredBusyOrIsDropped : Prop :=
  ∀ (k : LinkState) (r : Request),
    (k.inbound.length < 4 → k.offerRequest r = { k with inbound := k.inbound ++ [r] })
      ∧ (4 ≤ k.inbound.length → k.replies.length < 4 →
        k.offerRequest r
          = k.reply ⟨if r.kind.toNat < 0x80 then r.kind + 0x80 else 0xFF, r.tag, .busy, []⟩)
      ∧ (4 ≤ k.inbound.length → 4 ≤ k.replies.length →
        k.offerRequest r = { k with errors := min (k.errors + 1) 255 })

/-- R5, R8, and assumptions 1 and 6: a link takes the oldest request of its queue when the one before has
produced its reply and the reply list has a free place; THE MODEL'S CHOICE is that a request that finds the
queue empty is taken as it arrives, and that a request command whose request the link does not take leaves the
whole state as it was. -/
def Obligations.LinkTakesTheOldestRequest : Prop :=
  (∀ (c : Instr) (l : Link) (r : Request) (s : State),
    requestOfCommand c = some (l, r) → (∀ t, ¬ s.linkTakes l r t) → exec c s = .next s)
  ∧ ∀ (s : State) (l : Link) (r : Request) (t : State),
    s.linkTakes l r t ↔
      ((s.link l).awaiting = false ∧ (s.link l).owed = none ∧ (s.link l).replies.length < 4)
        ∧ ((∃ rest, (s.link l).inbound = r :: rest
              ∧ t = s.setLink l { s.link l with inbound := rest })
          ∨ ((s.link l).inbound = [] ∧ t = s))

/-- R5 checks 1 and 2: a kind that is none of the 42 is answered UNKNOWN_KIND, and a known kind with another
payload length than its own BAD_LENGTH, both before anything else and with nothing else changed. -/
def Obligations.UnknownKindsAndWrongLengthsAreRefused : Prop :=
  (∀ (s : State) (l : Link) (kind tag : Byte) (payload : List Byte) (t : State),
    s.linkTakes l ⟨kind, tag, payload⟩ t → knownKind kind = false →
      exec (.unknownKind l kind tag payload) s
        = .next (t.reply l ⟨if kind.toNat < 0x80 then kind + 0x80 else 0xFF, tag, .unknownKind, []⟩))
    ∧ ∀ (c : Instr) (l : Link) (r : Request) (s t : State) (n : Nat),
      c.wellFormed = true → requestOfCommand c = some (l, r) → s.linkTakes l r t →
        requestLength r.kind = some n → r.payload.length ≠ n →
          exec c s = .next (t.reply l ⟨r.kind + 0x80, r.tag, .badLength, []⟩)

/-- R6: the access checks of the management kinds, row by row: what each row refuses is answered with the
refusal and changes nothing else, and what no row refuses passes. -/
def Obligations.AccessChecksDecideManagementRequests : Prop :=
  ∀ (c : Instr) (l : Link) (r : Request) (s t : State),
    c.wellFormed = true → requestOfCommand c = some (l, r) → s.linkTakes l r t →
      0x20 ≤ r.kind.toNat → requestLength r.kind = some r.payload.length →
        if r.kind = 0x3D then
          if l = .lectern then
            exec c s = .next (t.reply l ⟨0xBD, r.tag, .denied, [0xFE]⟩)
          else t.linkRefusal l r.kind r.payload = none
        else if t.holdClass = .tech then t.linkRefusal l r.kind r.payload = none
        else if l = .lectern ∨ r.kind = 0x39 ∨ r.kind = 0x3A ∨ (r.kind = 0x3C ∧ r.payload.getD 0 0 = 0) then
          exec c s = .next (t.reply l ⟨r.kind + 0x80, r.tag, .needsTech, []⟩)
        else t.linkRefusal l r.kind r.payload = none

/-- R8, R12: a reply is sent at once on an idle line, and otherwise joins the reply list at the newest end;
nothing else of the link or of the state changes. -/
def Obligations.ReplyIsSentAtOnceOrJoinsTheList : Prop :=
  ∀ (s : State) (l : Link) (r : Reply),
    ((s.link l).sending = none → (s.link l).replies = [] → (s.link l).owed = none →
      s.reply l r = s.setLink l { s.link l with sending := some (.reply r) })
      ∧ ((s.link l).sending.isSome = true → (s.link l).replies.length < 4 →
        s.reply l r = s.setLink l { s.link l with replies := (s.link l).replies ++ [r] })

/-- R9, R11, R12: a report is offered to each link by its own mask, START to both; it takes the next sequence
number, and is sent at once on an idle line, joins the queue behind a frame being sent, or is lost when 16
reports wait, with the reports-lost flag set. -/
def Obligations.ReportsAreOfferedToEachLink : Prop :=
  ∀ (s : State) (r : Report) (l : Link),
    (s.link l).sound →
      s.linksOnly (s.offer r)
        ∧ (s.offer r).link l =
          if r.index = 0 ∨ (s.mask l).testBit r.index = true then
            if (s.link l).reports.length = 16 then
              { s.link l with sequence := (s.link l).sequence + 1, lost := true }
            else if (s.link l).sending = none then
              { s.link l with
                sequence := (s.link l).sequence + 1
                sending := some (.report ((s.link l).sequence + 1) r) }
            else
              { s.link l with
                sequence := (s.link l).sequence + 1
                reports := (s.link l).reports ++ [((s.link l).sequence + 1, r)] }
          else s.link l

/-- R12: when a frame ends, the oldest reply goes next, else the oldest report, else the line is idle; an
owed reply then takes the place freed (assumption 9), and the end of RESTART's OK reply on the control link
makes the restart due (R8, assumption 10). -/
def Obligations.FrameEndPicksRepliesBeforeReports : Prop :=
  ∀ (s : State) (l : Link) (f : OutFrame),
    (s.link l).sending = some f →
      ∃ k t, exec (.frameSendEnd l) s = .next t
        ∧ t = { s.setLink l k with restartDue := t.restartDue }
        ∧ (t.restartDue = true ↔
          s.restartDue = true ∨ (l = .control ∧ ∃ tag p, f = .reply ⟨0xBD, tag, .ok, p⟩))
        ∧ match (s.link l).replies with
          | r :: rest =>
            rest.length < 4 →
              k = { s.link l with
                    sending := some (.reply r), replies := rest ++ (s.link l).owed.toList, owed := none }
          | [] =>
            match (s.link l).reports with
            | (n, r) :: rest => k = { s.link l with sending := some (.report n r), reports := rest }
            | [] => k = { s.link l with sending := none }

/-! ## What the reads answer -/

/-- R14, R17, R20, R21, R99, R109: READ_STATUS, READ_LAMP and READ_INCIDENTS answer the records that their
chapters lay out, and change nothing, but for the reports-lost flag of the link that READ_STATUS came on;
a lamp code above 1 is refused BAD_VALUE. THE MODEL'S CHOICE (assumption 27): the minutes remaining of a hold
that stands are at least 1. -/
def Obligations.StatusAndLampReadsAnswerTheirRecords : Prop :=
  ∀ (s : State) (l : Link) (tag x : Byte) (t : State),
    t.mayManage l →
      (s.linkTakes l ⟨0x20, tag, []⟩ t →
        exec (.readStatus l tag []) s
          = .next ((t.setLink l { t.link l with lost := false }).reply l ⟨0xA0, tag, .ok,
              [byte t.power.state.code, flagByte t.power.intent, byte t.level.code,
                byte t.holdClass.code, byte (t.hold.elim 0 fun h => max 1 ((h.left + 59999) / 60000)),
                byte t.sw.selected.val,
                byte (t.sw.inFlight.elim 0 fun w => match w.phase with
                  | .blank => 1
                  | .settle => 2
                  | .awaitSignal => 3),
                t.sw.inFlight.elim 0xFF fun w => byte w.target.val,
                t.sw.slot.elim 0xFF fun p => byte p.input.val, byte t.lampA.state.code,
                byte t.lampB.state.code, byte t.conf.plan.code, byte t.conf.lampLevel.code,
                flagsByte [t.sw.mute, t.recovery, t.latch, t.clock.isSome, t.conf.lock.on,
                  t.power.idleExpired, t.control.lost, t.lectern.lost],
                byte t.control.errors, byte t.lectern.errors]⟩))
      ∧ (s.linkTakes l ⟨0x21, tag, [x]⟩ t →
        exec (.readLamp l tag [x]) s
          = .next (t.reply l (match lampOf x.toNat with
              | none => ⟨0xA1, tag, .badValue, []⟩
              | some y => ⟨0xA1, tag, .ok,
                  [x, byte (t.lamp y).state.code,
                    flagsByte [(t.lamp y).expired, (t.lamp y).out, (t.lamp y).wearUnknown,
                      (t.lamp y).pendingOff, (t.lamp y).waiting, (t.lamp y).warning,
                      (t.lamp y).endOfLife]]
                  ++ be32 (t.lamp y).wear ++ be24 ((t.lamp y).wear / 4320)
                  ++ be24 ((t.item 11 * 43200 - (t.lamp y).wear) / 4320)
                  ++ be16 (t.lamp y).strikeCount
                  ++ [byte (t.lamp y).attempts, byte (t.lamp y).wakeLate,
                    byte (t.lamp y).history.length]⟩)))
      ∧ (s.linkTakes l ⟨0x3B, tag, [x]⟩ t →
        exec (.readIncidents l tag [x]) s
          = .next (t.reply l (match lampOf x.toNat with
              | none => ⟨0xBB, tag, .badValue, []⟩
              | some y => ⟨0xBB, tag, .ok,
                  x :: byte (t.lamp y).history.length :: ((t.lamp y).history.flatMap fun r =>
                    [byte r.kind.code, byte r.cls.code, byte r.lampState.code] ++ be32 r.wear
                      ++ r.time.elim (List.replicate 8 0) fun d =>
                        1 :: be16 d.date.year ++ [byte d.date.month, byte d.date.day, byte d.hour,
                          byte d.minute, byte d.second])⟩)))

/-- R125 to R127, R158: READ_INPUT, READ_FORMAT and READ_GEOMETRY answer the input's record, the format entry,
and the geometry in force or a preset with its two computed figures, and change nothing; a number out of range
is refused BAD_VALUE. The aspect of a STABLE input is its format's override, or else its width to its height;
the two aspect bytes of a figure too large for one byte are free (assumption 31). -/
def Obligations.InputAndGeometryReadsAnswerTheirRecords : Prop :=
  let stable := fun (t : State) (i : InputId) =>
    if (t.input i).signal = .stable then (t.input i).format else none
  ∀ (s : State) (l : Link) (tag n : Byte) (t : State),
    t.mayManage l →
      (s.linkTakes l ⟨0x22, tag, [n]⟩ t →
        exec (.readInput l tag [n]) s
          = .next (t.reply l (match inputOf n.toNat with
              | none => ⟨0xA2, tag, .badValue, []⟩
              | some i => ⟨0xA2, tag, .ok,
                  [n, byte (t.input i).signal.code, (stable t i).elim 0xFF fun f => byte f.val,
                    flagByte (t.input i).latest.sync]
                  ++ be16 (t.input i).latest.width ++ be16 (t.input i).latest.height
                  ++ be16 (t.input i).latest.rate ++ be16 (t.input i).activity
                  ++ [byte (t.aspectMode i).code, byte (t.autoRank i)]
                  ++ (match (stable t i).map (t.conf.formats.get ·) with
                    | none => [0, 0]
                    | some f => match f.aspect with
                      | some a => [byte a.1, byte a.2]
                      | none => if f.width < 256 ∧ f.height < 256 then [byte f.width, byte f.height]
                        else be16 (Config.unstatedAspectBytes f.width f.height).toNat)
                  ++ [flagByte (decide (i = t.sw.selected))]⟩)))
      ∧ (s.linkTakes l ⟨0x33, tag, [n]⟩ t →
        exec (.readFormat l tag [n]) s
          = .next (t.reply l (if h : n.toNat < 16 then
              let f := t.conf.formats.get ⟨n.toNat, h⟩
              ⟨0xB3, tag, .ok,
                flagByte f.enabled :: be16 f.width ++ be16 f.height ++ be16 f.rateMin ++ be16 f.rateMax
                  ++ f.aspect.elim [0, 0, 0] fun a => [1, byte a.1, byte a.2]⟩
            else ⟨0xB3, tag, .badValue, []⟩)))
      ∧ (s.linkTakes l ⟨0x23, tag, [n]⟩ t →
        exec (.readGeometry l tag [n]) s
          = .next (t.reply l (
              if n = 0 then
                ⟨0xA3, tag, .ok,
                  [0, signed8 t.conf.geometry.v, signed8 t.conf.geometry.h]
                    ++ t.conf.geometry.offsetBytes ++ t.geo.quad.bytes ++ be16 t.geo.area
                    ++ t.geo.pictureQuad.bytes ++ be16 t.geo.pictureArea
                    ++ [byte t.geo.input.val, byte t.geo.fit.code, flagByte t.geo.deferred]
                    ++ be16 (t.item 25)⟩
              else if h : n.toNat - 1 < 4 then
                let g := t.conf.presets.get ⟨n.toNat - 1, h⟩
                ⟨0xA3, tag, .ok,
                  [n, signed8 g.v, signed8 g.h] ++ g.offsetBytes ++ be16 g.quad.area
                    ++ [flagByte (g.quad.valid (t.item 25))]⟩
              else ⟨0xA3, tag, .badValue, []⟩)))

/-- R33, R34, R43, R60: READ_RULE, READ_MATRIX, READ_CARD and READ_GROUPS answer the rule record with the
counter's live value, the cell with its class's rule set, the card entry, and the bins with the filter
flags, and change nothing; an index or code out of range is refused BAD_VALUE. -/
def Obligations.PolicyTableReadsAnswerTheirRecords : Prop :=
  ∀ (s : State) (l : Link) (tag n m : Byte) (t : State),
    t.mayManage l →
      (s.linkTakes l ⟨0x25, tag, [n]⟩ t →
        exec (.readRule l tag [n]) s
          = .next (t.reply l (if h : n.toNat < 16 then
              ⟨0xA5, tag, .ok,
                ruleRecord (t.conf.rules.get ⟨n.toNat, h⟩) (t.counters.get ⟨n.toNat, h⟩).value⟩
            else ⟨0xA5, tag, .badValue, []⟩)))
      ∧ (s.linkTakes l ⟨0x27, tag, [n, m]⟩ t →
        exec (.readMatrix l tag [n, m]) s
          = .next (t.reply l (match Level.ofCode n.toNat, ReqClass.ofCode m.toNat with
              | some v, some c => ⟨0xA7, tag, .ok,
                  [flagByte (!(t.conf.cell v c).permit), byte (t.conf.cell v c).map.toNat,
                    byte (t.conf.cell v c).priority] ++ be16 (t.conf.ruleSet c).toNat⟩
              | _, _ => ⟨0xA7, tag, .badValue, []⟩)))
      ∧ (s.linkTakes l ⟨0x29, tag, [n]⟩ t →
        exec (.readCard l tag [n]) s
          = .next (t.reply l (if h : n.toNat < 8 then
              ⟨0xA9, tag, .ok,
                flagByte (t.conf.cards.get ⟨n.toNat, h⟩).enabled
                  :: be48 (t.conf.cards.get ⟨n.toNat, h⟩).token
                  ++ [if (t.conf.cards.get ⟨n.toNat, h⟩).role = .staff then (3 : Byte) else 4]⟩
            else ⟨0xA9, tag, .badValue, []⟩)))
      ∧ (s.linkTakes l ⟨0x2B, tag, []⟩ t →
        exec (.readGroups l tag []) s
          = .next (t.reply l ⟨0xAB, tag, .ok,
              be64 t.conf.bins
                ++ [flagsByte [t.conf.filter.personalByBins, t.conf.filter.inverse,
                  t.conf.filter.acceptAll]]⟩))

/-- R180, R182, R184, R194: READ_ENTRY, READ_EXCEPTIONS, READ_CLOCK and READ_SETTING answer the week entry,
the exception records in date order, the clock with the day of the week and the minute-of-week, and the
item's value in force, and change nothing; an entry index above 47 and an item number not in the table are
refused BAD_VALUE, a clock read while it is unset CLOCK_UNSET. -/
def Obligations.ScheduleAndSettingReadsAnswerTheirRecords : Prop :=
  ∀ (s : State) (l : Link) (tag n : Byte) (t : State),
    t.mayManage l →
      (s.linkTakes l ⟨0x2D, tag, [n]⟩ t →
        exec (.readEntry l tag [n]) s
          = .next (t.reply l (if h : n.toNat < 48 then
              let e := t.conf.week.get ⟨n.toNat, h⟩
              ⟨0xAD, tag, .ok,
                [flagByte e.enabled, byte e.days.toNat] ++ be16 e.minute
                  ++ [byte e.action.code, byte e.arg1, byte e.arg2, byte e.priority]⟩
            else ⟨0xAD, tag, .badValue, []⟩)))
      ∧ (s.linkTakes l ⟨0x2F, tag, []⟩ t →
        exec (.readExceptions l tag []) s
          = .next (t.reply l ⟨0xAF, tag, .ok,
              byte t.conf.exceptions.length :: t.conf.exceptions.flatMap fun e =>
                be16 e.date.year ++ [byte e.date.month, byte e.date.day, byte e.actions.toNat]⟩))
      ∧ (s.linkTakes l ⟨0x31, tag, []⟩ t →
        exec (.readClock l tag []) s
          = .next (t.reply l (match t.clock with
              | none => ⟨0xB1, tag, .clockUnset, []⟩
              | some c => ⟨0xB1, tag, .ok,
                  be16 c.now.date.year
                    ++ [byte c.now.date.month, byte c.now.date.day, byte c.now.hour, byte c.now.minute,
                      byte c.now.second, byte c.now.date.weekday]
                    ++ be16 (c.now.date.weekday * 1440 + (c.now.hour * 60 + c.now.minute))⟩)))
      ∧ (s.linkTakes l ⟨0x35, tag, [n]⟩ t →
        exec (.readSetting l tag [n]) s
          = .next (t.reply l (match itemOf n.toNat with
              | none => ⟨0xB5, tag, .badValue, []⟩
              | some (m, _) => ⟨0xB5, tag, .ok, n :: be16 (t.item m)⟩)))

/-! ## What the writes put in place -/

/-- R126, R156: WRITE_FORMAT writes back exactly the entry that its record carries, for every entry within the
ranges of R125, and re-evaluates each input against the table as written; STORE_GEOMETRY copies the geometry
values in force into the preset named and changes nothing else; a preset above 3 is refused BAD_VALUE. -/
def Obligations.FormatAndPresetWritesPutTheirRecordsInPlace : Prop :=
  ∀ (s : State) (l : Link) (tag : Byte) (t : State),
    t.mayManage l →
      (∀ (n : Fin 16) (f : Format) (p : List Byte),
        p = byte n.val :: f.record → 1 ≤ f.width → f.width ≤ 4096 → 1 ≤ f.height → f.height ≤ 2160 →
        1 ≤ f.rateMin → f.rateMin ≤ f.rateMax → f.rateMax < 65536 →
        (∀ a, f.aspect = some a → 1 ≤ a.1 ∧ a.1 ≤ 64 ∧ 1 ≤ a.2 ∧ a.2 ≤ 64) →
        s.linkTakes l ⟨0x34, tag, p⟩ t →
          ∃ u : State, exec (.writeFormat l tag p) s = .next (u.reply l ⟨0xB4, tag, .ok, f.record⟩)
            ∧ u.conf = { t.conf with formats := t.conf.formats.set n.val f n.isLt }
            ∧ ({ t with conf := u.conf } : State).sourceOnly u
            ∧ ∀ i, u.input i = match (t.input i).signal with
                | .stable =>
                  if u.matchOf (t.input i).latest = (t.input i).format then t.input i
                  else { t.input i with signal := .acquiring, format := none, run := none
                                        acquire := some 4000 }
                | .unsupported =>
                  { t.input i with signal := .acquiring, format := none, run := none, acquire := some 4000 }
                | .acquiring => { t.input i with run := none }
                | .absent | .dormant => t.input i)
      ∧ ∀ n : Byte, s.linkTakes l ⟨0x24, tag, [n]⟩ t →
          exec (.storeGeometry l tag [n]) s
            = .next (if h : n.toNat < 4 then
                ({ t with conf := { t.conf with
                    presets := t.conf.presets.set n.toNat t.conf.geometry h } } : State).reply l
                  ⟨0xA4, tag, .ok, [n]⟩
              else t.reply l ⟨0xA4, tag, .badValue, []⟩)

/-- R44, R61: WRITE_RULE writes exactly the groups of the rule record that its field mask selects, for every
rule whose fields are in range, reloads the counter where the mask selects the counter or the enabled group
(R55), answers the record afterwards, and is refused LOCKED below the rule boundary of a table lock that is on
(R63); WRITE_MATRIX writes the cell and the rule set that its mask selects. -/
def Obligations.RuleAndMatrixWritesPutTheirFieldsInPlace : Prop :=
  ∀ (s : State) (l : Link) (tag : Byte) (t : State),
    t.mayManage l →
      (∀ (i : RuleId) (mask : Nat) (r : Rule) (v : Nat) (p : List Byte),
        p = byte i.val :: be16 mask ++ ruleRecord r v → mask < 512 →
        r.timeMin < 10080 → r.timeMax < 10080 → r.priority ≤ 7 → 1 ≤ r.limit → r.limit ≤ 2047 →
        s.linkTakes l ⟨0x26, tag, p⟩ t →
          if t.conf.lock.on = true ∧ i.val < t.conf.lock.rule then
            exec (.writeRule l tag p) s = .next (t.reply l ⟨0xA6, tag, .locked, []⟩)
          else
            ∃ (u : State) (old new : Rule), old = t.conf.rules.get i ∧ new = u.conf.rules.get i
              ∧ exec (.writeRule l tag p) s
                  = .next (u.reply l ⟨0xA6, tag, .ok, ruleRecord new (u.counters.get i).value⟩)
              ∧ u = { t with
                  conf := { t.conf with rules := t.conf.rules.set i.val new i.isLt }
                  counters := t.counters.set i.val (u.counters.get i) i.isLt }
              ∧ new.requesters = (if mask.testBit 0 then r else old).requesters
              ∧ new.kinds = (if mask.testBit 1 then r else old).kinds
              ∧ new.credential = (if mask.testBit 2 then r else old).credential
              ∧ new.timeMode = (if mask.testBit 3 then r else old).timeMode
              ∧ new.timeMin = (if mask.testBit 3 then r else old).timeMin
              ∧ new.timeMax = (if mask.testBit 3 then r else old).timeMax
              ∧ new.verdict = (if mask.testBit 4 then r else old).verdict
              ∧ new.priorityMode = (if mask.testBit 5 then r else old).priorityMode
              ∧ new.priority = (if mask.testBit 5 then r else old).priority
              ∧ new.mapMode = (if mask.testBit 6 then r else old).mapMode
              ∧ new.map = (if mask.testBit 6 then r else old).map
              ∧ new.counterMode = (if mask.testBit 7 then r else old).counterMode
              ∧ new.unit = (if mask.testBit 7 then r else old).unit
              ∧ new.limit = (if mask.testBit 7 then r else old).limit
              ∧ new.escalate = (if mask.testBit 7 then r else old).escalate
              ∧ new.enabled = (if mask.testBit 8 then r else old).enabled
              ∧ u.counters.get i =
                  (if mask.testBit 7 = true ∨ mask.testBit 8 = true then new.loaded else t.counters.get i))
      ∧ ∀ (v : Level) (c : ReqClass) (mask : Nat) (x : Cell) (rs : BitVec 16) (p : List Byte),
          p = [byte v.code, byte c.code, byte mask, flagByte (!x.permit), byte x.map.toNat, byte x.priority]
            ++ be16 rs.toNat →
          mask < 4 → x.priority ≤ 7 → s.linkTakes l ⟨0x28, tag, p⟩ t →
            ∃ u : State, exec (.writeMatrix l tag p) s
                = .next (u.reply l ⟨0xA8, tag, .ok,
                    [flagByte (!(u.conf.cell v c).permit), byte (u.conf.cell v c).map.toNat,
                      byte (u.conf.cell v c).priority] ++ be16 (u.conf.ruleSet c).toNat⟩)
              ∧ u = { t with conf := { t.conf with matrix := u.conf.matrix, ruleSets := u.conf.ruleSets } }
              ∧ (∀ w d, u.conf.cell w d =
                  if w = v ∧ d = c ∧ mask.testBit 0 = true then x else t.conf.cell w d)
              ∧ ∀ d, u.conf.ruleSet d = if d = c ∧ mask.testBit 1 = true then rs else t.conf.ruleSet d

/-- R33, R34: WRITE_CARD writes the entry that its record carries, an enabled entry only with a personal token
that is neither all zeros nor all ones and that no other enabled entry holds, and is refused BAD_VALUE
otherwise; WRITE_GROUPS writes the bins and the three filter flags. A hold that stands keeps its class. -/
def Obligations.CardAndGroupWritesPutTheirRecordsInPlace : Prop :=
  ∀ (s : State) (l : Link) (tag : Byte) (t : State),
    t.mayManage l →
      (∀ (i : Fin 8) (c : Card) (p : List Byte),
        p = byte i.val :: c.record → s.linkTakes l ⟨0x2A, tag, p⟩ t →
          exec (.writeCard l tag p) s
            = .next (if c.enabled = true ∧ (c.token = 0 ∨ c.token = BitVec.allOnes 48
                  ∨ c.token.getLsbD 47 = true
                  ∨ ∃ j, j ≠ i ∧ (t.conf.cards.get j).enabled = true
                      ∧ (t.conf.cards.get j).token = c.token) then
                t.reply l ⟨0xAA, tag, .badValue, []⟩
              else
                ({ t with conf := { t.conf with cards := t.conf.cards.set i.val c i.isLt } } : State).reply l
                  ⟨0xAA, tag, .ok, []⟩))
      ∧ ∀ (bins : BitVec 64) (f : FilterFlags) (p : List Byte),
          p = be64 bins ++ [flagsByte [f.personalByBins, f.inverse, f.acceptAll]] →
          s.linkTakes l ⟨0x2C, tag, p⟩ t →
            exec (.writeGroups l tag p) s
              = .next (({ t with conf := { t.conf with bins := bins, filter := f } } : State).reply l
                  ⟨0xAC, tag, .ok, []⟩)

/-- R62: SET_TABLE_LOCK turns the lock off under a TECH hold with the boundaries kept, turns it on with
boundaries that are multiples of 8 up to 48 and of 4 up to 16, refuses others BAD_VALUE, and refuses
NEEDS_TECH without a TECH hold on the lectern link, to turn the lock off, and to lower a boundary of a lock
that is on. Nothing else changes. -/
def Obligations.TableLockTakesItsBoundaries : Prop :=
  ∀ (s : State) (l : Link) (tag b sch rul : Byte) (t : State),
    s.linkTakes l ⟨0x3C, tag, [b, sch, rul]⟩ t →
      exec (.setTableLock l tag [b, sch, rul]) s
        = .next (
          if t.holdClass ≠ .tech ∧ (l = .lectern ∨ b = 0) then
            t.reply l ⟨0xBC, tag, .needsTech, []⟩
          else if b = 0 then
            (t.setLock { t.conf.lock with on := false }).reply l
              ⟨0xBC, tag, .ok, [0, byte t.conf.lock.schedule, byte t.conf.lock.rule]⟩
          else if b ≠ 1 ∨ 48 < sch.toNat ∨ sch.toNat % 8 ≠ 0 ∨ 16 < rul.toNat ∨ rul.toNat % 4 ≠ 0 then
            t.reply l ⟨0xBC, tag, .badValue, []⟩
          else if t.conf.lock.on = true ∧ (sch.toNat < t.conf.lock.schedule ∨ rul.toNat < t.conf.lock.rule)
              ∧ t.holdClass ≠ .tech then
            t.reply l ⟨0xBC, tag, .needsTech, []⟩
          else
            (t.setLock ⟨true, sch.toNat, rul.toNat⟩).reply l ⟨0xBC, tag, .ok, [1, sch, rul]⟩)

/-- R63, R182, R183: WRITE_ENTRY writes exactly the groups of the schedule entry record that its field mask
selects, for every entry in range, and is refused LOCKED below the schedule boundary of a lock that is on;
WRITE_EXCEPTION adds a record or takes the place of the one of its date, removes the record of its date,
refuses an added date before the clock's BAD_VALUE and a seventeenth date FULL. -/
def Obligations.ScheduleWritesPutTheirRecordsInPlace : Prop :=
  ∀ (s : State) (l : Link) (tag : Byte) (t : State),
    t.mayManage l →
      (∀ (n : Fin 48) (mask : Nat) (e : Entry) (p : List Byte),
        p = byte n.val :: byte mask :: e.record → mask < 32 → e.minute < 1440 → e.priority ≤ 7 →
        e.action.argsOk e.arg1 e.arg2 = true → e.arg1 < 256 → s.linkTakes l ⟨0x2E, tag, p⟩ t →
          if t.conf.lock.on = true ∧ n.val < t.conf.lock.schedule then
            exec (.writeEntry l tag p) s = .next (t.reply l ⟨0xAE, tag, .locked, []⟩)
          else
            ∃ old new : Entry, old = t.conf.week.get n
              ∧ new = { enabled := (if mask.testBit 0 then e else old).enabled
                        days := (if mask.testBit 1 then e else old).days
                        minute := (if mask.testBit 2 then e else old).minute
                        action := (if mask.testBit 3 then e else old).action
                        arg1 := (if mask.testBit 3 then e else old).arg1
                        arg2 := (if mask.testBit 3 then e else old).arg2
                        priority := (if mask.testBit 4 then e else old).priority }
              ∧ exec (.writeEntry l tag p) s
                  = .next (({ t with conf := { t.conf with
                      week := t.conf.week.set n.val new n.isLt } } : State).reply l
                        ⟨0xAE, tag, .ok, new.record⟩))
      ∧ ∀ (remove : Bool) (e : ExceptionRecord) (p : List Byte),
          p = flagByte remove :: e.bytes → e.date.valid = true → t.conf.exceptions.length ≤ 16 →
          t.conf.exceptions.Pairwise (fun f g => f.date.before g.date = true) →
          s.linkTakes l ⟨0x30, tag, p⟩ t →
            ∃ (u : State) (r : Reply), exec (.writeException l tag p) s = .next (u.reply l r)
              ∧ u = { t with conf := { t.conf with exceptions := u.conf.exceptions } }
              ∧ if remove = true then
                  u.conf.exceptions = t.conf.exceptions.filter (fun f => decide (f.date ≠ e.date))
                    ∧ r = ⟨0xB0, tag, .ok, [byte u.conf.exceptions.length]⟩
                else if ∃ c, t.clock = some c ∧ e.date.before c.now.date = true then
                  u = t ∧ r = ⟨0xB0, tag, .badValue, []⟩
                else if ∃ f ∈ t.conf.exceptions, f.date = e.date then
                  u.conf.exceptions.length = t.conf.exceptions.length ∧ e ∈ u.conf.exceptions
                    ∧ (∀ f, f.date ≠ e.date → (f ∈ u.conf.exceptions ↔ f ∈ t.conf.exceptions))
                    ∧ r = ⟨0xB0, tag, .ok, [byte u.conf.exceptions.length]⟩
                else if t.conf.exceptions.length = 16 then
                  u = t ∧ r = ⟨0xB0, tag, .full, []⟩
                else
                  u.conf.exceptions.length = t.conf.exceptions.length + 1
                    ∧ (∀ f, f ∈ u.conf.exceptions ↔ f = e ∨ f ∈ t.conf.exceptions)
                    ∧ r = ⟨0xB0, tag, .ok, [byte u.conf.exceptions.length]⟩

/-- R98, R128, R140, R152, R172, R175, R194: WRITE_SETTING brings the value written to the item's form (a
number into its range, a set without its reserved bits, a scan multiple to the nearest of 1, 2, 4 and 8), puts
it in force and answers it; a number not in the table is refused BAD_VALUE. An item whose owner acts only
later changes nothing else; an item of a scan group empties that group's counts, and restarts its interval in
STANDBY. A write of item 11, 12 or 13 sets the three threshold flags of both lamps by the new thresholds, and
each one newly set becomes the newest record of that lamp's history and is reported, lamp A's before lamp B's;
auto-switch written off stops the loss watch, and written on it starts the grace time where the watch begins
to act on a selected input that is not STABLE; and the aspect mode of the selected input refits the picture. A
write of item 7 or 8 applies the new restrike hold to each lamp at once (R75, R82): a lamp in HOT that has
reached it enters DARK with READY, where a waiting lamp is struck, or ends its call if it is no longer
available; a lamp in DARK below it returns to HOT with HOLD_RAISED; a lamp in RETRY_WAIT whose wait is over
and that has reached it is struck, or enters DARK if it is no longer available; every other lamp is left as it
is. This is said of a lamp whose partner is not at the same moment taken out of play by a strike of its own.
LEARN_BASE makes the latest activity sample of each input of its set that input's scan base and empties the
input's run count in both groups, and answers the eight bases; the other inputs keep theirs, and nothing else
changes. -/
def Obligations.SettingWritesTakeTheNearestValueInRange : Prop :=
  (∀ (s : State) (l : Link) (tag set : Byte) (t : State),
    t.mayManage l → s.linkTakes l ⟨0x38, tag, [set]⟩ t →
      ∃ u : State,
        exec (.learnBase l tag [set]) s
          = .next (u.reply l ⟨0xB8, tag, .ok, (List.finRange 8).flatMap fun i => be16 (u.scanBase i)⟩)
        ∧ u = { t with conf := { t.conf with items := u.conf.items }, scan := u.scan }
        ∧ (∀ i : InputId, u.scanBase i =
            if set.getLsbD i.val then (t.input i).activity else t.scanBase i)
        ∧ (∀ m : Fin 104, m.val < 80 ∨ 88 ≤ m.val → u.item m = t.item m)
        ∧ ∀ (g : GroupId) (i : InputId), (u.scan.get g).interval = (t.scan.get g).interval
            ∧ (u.scan.get g).runs.get i = if set.getLsbD i.val then 0 else (t.scan.get g).runs.get i)
  ∧ ∀ (s : State) (l : Link) (tag n : Byte) (v : Nat) (t : State),
    t.mayManage l → v < 65536 → s.linkTakes l ⟨0x36, tag, n :: be16 v⟩ t →
      match itemOf n.toNat with
      | none =>
        exec (.writeSetting l tag (n :: be16 v)) s = .next (t.reply l ⟨0xB6, tag, .badValue, []⟩)
      | some (m, form) =>
        ∃ (u : State) (w : Nat), w = (match form with
            | .range lo hi => if v < lo then lo else if hi < v then hi else v
            | .bits b => v % 2 ^ b
            | .multiple => if v < 2 then 1 else if v = 2 then 2 else if v < 6 then 4 else 8)
          ∧ exec (.writeSetting l tag (n :: be16 v)) s = .next (u.reply l ⟨0xB6, tag, .ok, n :: be16 w⟩)
          ∧ u.conf = { t.conf with items := t.conf.items.set m.val w m.isLt }
          ∧ u.level = t.level ∧ u.clock = t.clock ∧ u.counters = t.counters ∧ u.nvSettings = t.nvSettings
          ∧ (m.val ≠ 7 → m.val ≠ 8 → u.hold = t.hold)
          ∧ (m.val ∉ [7, 8, 11, 12, 13, 22, 33, 34, 35, 36, 37, 38, 64 + t.sw.selected.val] →
              u = { t with conf := u.conf })
          ∧ (∀ g : GroupId, m.val ∈ (if g = 0 then [33, 34, 35] else [36, 37, 38]) →
              u = { t with
                conf := u.conf
                scan := t.scan.set g.val
                  ⟨if t.power.state = .standby then some (u.scanIntervalMs g) else none,
                    Vector.replicate 8 0⟩ g.isLt })
          ∧ (m.val ∈ [11, 12, 13] →
            let written : State := { t with conf := u.conf }
            let life := u.item 11
            let crossing := fun (n : Lamp) (set : Bool) (threshold : Nat) (kind : IncidentKind)
                (cls : IncidentClass) =>
              if set = false ∧ threshold ≤ n.wear then
                [({ kind := kind, cls := cls, lampState := n.state, wear := n.wear
                    time := t.clock.map (·.now) } : Incident)]
              else []
            let crossed := fun n : Lamp =>
              crossing n n.warning ((life - u.item 12) * 43200) .wearWarn .note
                ++ crossing n n.endOfLife (life * 43200) .wearEnd .note
                ++ crossing n n.expired ((life + u.item 13) * 43200) .expired .abort
            u = ((crossed t.lampA).map (LampId.a, ·) ++ (crossed t.lampB).map (LampId.b, ·)).foldl
                (fun w r => w.offer (.incident r.1 r.2)) { written with lampA := u.lampA, lampB := u.lampB }
            ∧ ∀ x, u.lamp x = { t.lamp x with
                warning := decide ((life - u.item 12) * 43200 ≤ (t.lamp x).wear)
                endOfLife := decide (life * 43200 ≤ (t.lamp x).wear)
                expired := decide ((life + u.item 13) * 43200 ≤ (t.lamp x).wear)
                history := if crossed (t.lamp x) = [] then (t.lamp x).history
                  else ((crossed (t.lamp x)).reverse ++ (t.lamp x).history).take 4 })
          ∧ (m.val = 22 →
            let acts := w ≠ 0 ∧ (t.power.state = .on ∨ t.power.state = .dimmed) ∧ t.sw.inFlight = none
              ∧ (t.input t.sw.selected).signal ≠ .stable
            u = { t with
              conf := u.conf
              sw := { t.sw with
                watch := if acts then (if t.sw.watch = .watching then .grace else t.sw.watch) else .watching
                grace := if acts then
                    (if t.sw.watch = .watching then some (1000 * t.item 23) else t.sw.grace)
                  else none
                selectLines := u.sw.selectLines, blankLine := u.sw.blankLine } }
            ∧ (t.sw.drive = t.sw → u.sw.selectLines = t.sw.selectLines ∧ u.sw.blankLine = t.sw.blankLine))
          ∧ (m.val = 64 + t.sw.selected.val →
            u = { t with
              conf := u.conf, control := u.control, lectern := u.lectern, geo := u.geo, scaler := u.scaler }
            ∧ u.geo.input = t.sw.selected ∧ u.geo.quad = t.geo.quad ∧ u.geo.area = t.geo.area
            ∧ u.runPicture.geo = u.geo
            ∧ (if t.sw.inFlight.isSome = true then u.geo.deferred = true ∧ u.scaler = t.scaler
              else u.geo.deferred = false ∧ u.scaler = u.geo.update))
          ∧ (m.val = 7 ∨ m.val = 8 →
            let hold := 1000 * max (u.item 8) (u.item 7)
            let written : State := { t with conf := u.conf }
            let strikes := fun n : Lamp => hold ≤ n.since
              ∧ (n.state = .hot ∧ n.waiting = true ∨ n.state = .retryWait ∧ n.timer = none)
            let still := fun n : Lamp => ¬ strikes n ∧ (n.state = .hot → n.since < hold)
              ∧ (n.state = .dark → hold ≤ n.since)
            let told := fun (x : LampId) (previous : LampState) (cause : LampCause) =>
              ({ written.setLamp x (u.lamp x) with fan := u.fan } : State).offer (.lampState
                { lamp := x, state := (u.lamp x).state, previous := previous, cause := cause, demand := .off
                  flags := (u.lamp x).flags, attempts := (t.lamp x).attempts
                  limit := if (t.lamp x).called = true then (t.lamp x).limit else 0 })
            written.lampPathOnly u
            ∧ ((∀ x, still (t.lamp x)) → u = written)
            ∧ ∀ x, (strikes (t.lamp (otherLamp x)) →
                (t.lamp (otherLamp x)).available = true ∧ (t.lamp (otherLamp x)).faultLine = false) →
              (still (t.lamp x) → u.lamp x = t.lamp x)
              ∧ ((t.lamp x).state = .dark → (t.lamp x).since < hold →
                u.lamp x = { t.lamp x with state := .hot, demand := .off, wakeTimer := none }
                ∧ (still (t.lamp (otherLamp x)) → u = told x .dark .holdRaised))
              ∧ ((t.lamp x).state = .hot → hold ≤ (t.lamp x).since → (t.lamp x).waiting = false →
                u.lamp x = { t.lamp x with state := .dark, demand := .off, wakeTimer := none }
                ∧ (still (t.lamp (otherLamp x)) → t.power.state = .standby → t.power.degraded = false →
                  u = told x .hot .ready))
              ∧ (strikes (t.lamp x) → (t.lamp x).available = false →
                (u.lamp x).state = .dark ∧ (u.lamp x).demand = .off ∧ (u.lamp x).called = false
                  ∧ (u.lamp x).wear = (t.lamp x).wear
                  ∧ ((t.lamp x).state = .retryWait → (u.lamp x).timer = none)
                  ∧ ((t.lamp x).state = .hot → (u.lamp x).waiting = false))
              ∧ (strikes (t.lamp x) → (t.lamp x).available = true → (t.lamp x).faultLine = false →
                (u.lamp x).state = .ignite ∧ (u.lamp x).demand = .ignite
                  ∧ (u.lamp x).called = (t.lamp x).called ∧ (u.lamp x).timer = some 2000
                  ∧ (u.lamp x).attempts = (t.lamp x).attempts + 1
                  ∧ (u.lamp x).strikeCount = min ((t.lamp x).strikeCount + 1) 65535
                  ∧ (u.lamp x).wear = min ((t.lamp x).wear + 600) 4294967295
                  ∧ ((t.lamp x).state = .hot → (u.lamp x).waiting = false)
                  ∧ (¬ strikes (t.lamp (otherLamp x)) → u.lastStruck = some x)))

/-- R8, R100, R101, R191, R192, R193: COMMIT begins a settings write with the contents as they stand, and its
link takes no further request until the write ends; while a write is in flight it is refused BUSY. The write's
end stores those contents, frees the link and answers OK. A checkpoint begins a lamp write with the values as
they stand when none is in flight, and takes or keeps the waiting place otherwise; the end of a lamp write
stores what it carries, and a checkpoint in the waiting place then begins the next write with the values
standing at that moment, and empties the place. THE MODEL'S CHOICES: a write ends whenever its command comes,
200 ms being the longest (assumption 28); the end of a write that is not in flight changes nothing
(assumption 6); and COMMIT's reply is owed where the reply list is full (assumption 9, within `State.reply`). -/
def Obligations.StoreWritesKeepTheirRecords : Prop :=
  (∀ (s : State) (l : Link) (tag : Byte) (t : State),
    t.mayManage l → s.linkTakes l ⟨0x37, tag, []⟩ t →
      exec (.commit l tag []) s
        = .next (match t.settingsWrite with
          | some _ => t.reply l ⟨0xB7, tag, .busy, []⟩
          | none =>
            { t.setLink l { t.link l with awaiting := true } with
              settingsWrite := some { content := t.conf, link := l, tag := tag, left := some 200 } }))
    ∧ (∀ (s : State) (w : SettingsWrite), s.settingsWrite = some w →
        exec .settingsWriteEnd s
          = .next (({ s.setLink w.link { s.link w.link with awaiting := false } with
              settingsWrite := none, nvSettings := some w.content } : State).reply w.link
                ⟨0xB7, w.tag, .ok, []⟩))
    ∧ (∀ s : State, s.settingsWrite = none → exec .settingsWriteEnd s = .next s)
    ∧ (∀ s : State,
    exec .lampWriteEnd s
      = .next (match s.lampWrite with
        | none => s
        | some w =>
          if s.waitingCheckpoint = true then
            { s with
              nvLamps := some w.content, waitingCheckpoint := false
              lampWrite := some ⟨⟨s.lampA.entry, s.lampB.entry⟩, some 200⟩ }
          else { s with nvLamps := some w.content, lampWrite := none }))
    ∧ ∀ s : State,
    s.checkpoint
      = if s.lampWrite = none then
          { s with lampWrite := some ⟨⟨s.lampA.entry, s.lampB.entry⟩, some 200⟩ }
        else { s with waitingCheckpoint := true }

/-- R83, R103, R117: under a TECH hold, SERVICE_CLEAR of a lamp returns one in OUT to service in HOT with its
hold counted from now, and clears the wake-late count of one in DARK or HOT; RESET_LAMP_WEAR gives a lamp in
DARK or OUT the wear state of a new lamp, with its counts, flags and history cleared, and, where the warning
margin is at least the rated life, the warning flag set and WEAR_WARN the first record of the fresh history; a
lamp in OUT leaves it as at a SERVICE_CLEAR, and nothing else of the lamp changes. Both request a checkpoint and
answer the lamp record afterwards, and refuse STATE in every other lamp state. The other lamp is as it was. The
rated life is of its range, at least 500 hours, as every step keeps the setting items. -/
def Obligations.LampServiceRequestsRenewTheLamp : Prop :=
  ∀ (s : State) (l : Link) (tag : Byte) (x : LampId) (t : State),
    t.techHold = true →
      (s.linkTakes l ⟨0x39, tag, [byte (lampCode x)]⟩ t →
        match (t.lamp x).state with
        | .out | .dark | .hot =>
          ∃ u : State,
            exec (.serviceClear l tag [byte (lampCode x)]) s
              = .next (u.reply l ⟨0xB9, tag, .ok, u.lampRecordBytes x⟩)
            ∧ t.lampsOnly u ∧ u.lamp (otherLamp x) = t.lamp (otherLamp x)
            ∧ (u.lampWrite.isSome = true ∧ (t.lampWrite.isSome = true → u.waitingCheckpoint = true))
            ∧ u.lamp x =
                if (t.lamp x).state = .out then
                  { t.lamp x with
                    state := .hot, demand := .off, out := false, since := 0, called := false
                    pendingOff := false, waiting := false, timer := none, wakeTimer := none }
                else { t.lamp x with wakeLate := 0 }
        | .ignite | .retryWait | .warmup | .lit | .dimmed | .cooldown =>
          exec (.serviceClear l tag [byte (lampCode x)]) s = .next (t.reply l ⟨0xB9, tag, .state, []⟩))
      ∧ (s.linkTakes l ⟨0x3A, tag, [byte (lampCode x)]⟩ t →
        if (t.lamp x).state = .dark ∨ (t.lamp x).state = .out then
          ∃ u : State,
            exec (.resetLampWear l tag [byte (lampCode x)]) s
              = .next (u.reply l ⟨0xBA, tag, .ok, u.lampRecordBytes x⟩)
            ∧ t.lampsOnly u ∧ u.lamp (otherLamp x) = t.lamp (otherLamp x)
            ∧ u.lampWrite.isSome = true
            ∧ (u.lamp x).wear = 0 ∧ (u.lamp x).strikeCount = 0 ∧ (u.lamp x).wearUnknown = false
            ∧ (u.lamp x).wakeLate = 0 ∧ (u.lamp x).fraction = 0 ∧ (u.lamp x).litSeconds = 0
            ∧ (u.lamp x).state = (if (t.lamp x).state = .out then .hot else .dark)
            ∧ ((t.lamp x).state = .out → (u.lamp x).out = false)
            ∧ (t.lampWrite.isSome = true → u.waitingCheckpoint = true)
            ∧ (500 ≤ t.item 11 →
              let served :=
                if (t.lamp x).state = .out then
                  { t.lamp x with
                    state := .hot, demand := .off, out := false, since := 0, called := false
                    pendingOff := false, waiting := false, timer := none, wakeTimer := none }
                else t.lamp x
              u.lamp x = { served with
                wear := 0, strikeCount := 0, wearUnknown := false, wakeLate := 0, fraction := 0
                litSeconds := 0, endOfLife := false, expired := false
                warning := decide (t.item 11 ≤ t.item 12)
                history := if t.item 11 ≤ t.item 12 then
                    [⟨.wearWarn, .note, (t.lamp x).state, 0, t.clock.map (·.now)⟩]
                  else [] })
        else
          exec (.resetLampWear l tag [byte (lampCode x)]) s = .next (t.reply l ⟨0xBA, tag, .state, []⟩))

/-- R118: SERVICE_CLEAR of the projector under a TECH hold, in SHUTDOWN with the thermal alarm input released,
clears the latch and recovery, enters STANDBY with the intent OFF and sends every lamp that is not OUT to HOT
with its hold counted from now; in any other power state, and with the input asserted, it is refused STATE
and changes nothing. -/
def Obligations.ProjectorClearLeavesShutdown : Prop :=
  ∀ (s : State) (l : Link) (tag : Byte) (t : State),
    t.techHold = true → s.linkTakes l ⟨0x39, tag, [2]⟩ t →
      if t.power.state = .shutdown ∧ t.thermalInput = false then
        ∃ u : State,
          exec (.serviceClear l tag [2]) s = .next (u.reply l ⟨0xB9, tag, .ok, [0]⟩)
          ∧ u.power.state = .standby ∧ u.power.intent = false ∧ u.power.degraded = false
          ∧ u.latch = false ∧ u.recovery = false ∧ u.fan = false ∧ u.hold = t.hold ∧ u.conf = t.conf
          ∧ (∀ x, if (t.lamp x).state = .out then u.lamp x = t.lamp x
              else (u.lamp x).state = .hot ∧ (u.lamp x).since = 0 ∧ (u.lamp x).called = false)
          ∧ (∀ i, (u.input i).signal = .dormant)
          ∧ ∀ g, u.scan.get g = ⟨some (t.scanIntervalMs g), Vector.replicate 8 0⟩
      else exec (.serviceClear l tag [2]) s = .next (t.reply l ⟨0xB9, tag, .state, []⟩)

/-! ## Resets -/

/-- R8, R15, R64, R92, R110, R119, R143, R176, R178, R190, R191, R195, R196: what each of the four resets
leaves. In every case: the start values of every block, both records as they pass or fail their check, a store
write in flight losing its record, START as the first report of each link with sequence number 1, a kept clock
counted on with no minute start taken and the past exceptions purged against it, stored geometry values that
fail stage 3 replaced by zeros, and UNCLEAN_OFF for a stored lit flag with its checkpoint. Without a resume
the counters are reloaded (R55), and the level is the start level, or with a kept clock the one that the
timetable gives (R189). With the thermal alarm input released and no resume due, the projector is in STANDBY.
With the input asserted a thermal alarm is taken, which gives SHUTDOWN, and a resume finds it there. With the
input released and a resume due, and an empty rule set of class AUTO, POWER_ON of that class is decided by the
matrix under the start level: denied, the projector stays in STANDBY; permitted, with both lamps available, it
is STARTING, its called lamps waiting out their restrike hold; a resume that rules decide or count is left
out. RESTART on the control link is answered OK and changes nothing by itself; the restart begins with
RESTART_RESET once its reply has been sent (R8). THE MODEL'S CHOICES: RESTART_RESET is a command that changes
nothing while no restart is due (assumptions 6 and 10), the time that a kept clock counts on is free
(assumption 34), a reset keeps the levels of the thermal alarm input and of each lamp's ballast fault and
at-level lines as they stand (assumption 32), and SHUTDOWN stops the scan groups (assumption 25). -/
def Obligations.EveryResetRestoresTheStartValues : Prop :=
  (∀ (s : State) (tag : Byte) (t : State), s.linkTakes .control ⟨0x3D, tag, []⟩ t →
    exec (.restart .control tag []) s = .next (t.reply .control ⟨0xBD, tag, .ok, []⟩))
  ∧ (∀ s : State, s.restartDue = false → exec .restartReset s = .next s)
  ∧ (∀ r : Rule, r.loaded =
    { value := if r.counterMode = .countDown then r.limit else 0
      unit := if r.enabled = true ∧ r.counterMode = .countDown then
          some (if r.unit = .seconds then 1000 else 60000)
        else none })
  ∧ (∀ c : Clock, c.passed 0 = some c
    ∧ ∀ n, c.passed (n + 1) = (c.passed n).bind fun d =>
      if d.ms < 999 then some { d with ms := d.ms + 1 }
      else if d.now.second < 59 then some ⟨{ d.now with second := d.now.second + 1 }, 0⟩
      else if d.now.date = ⟨2099, 12, 31⟩ ∧ d.now.hour = 23 ∧ d.now.minute = 59 then none
      else some ⟨d.now.nextMinute, 0⟩)
  ∧ ∀ (s : State) (c : Instr) (cause : ResetCause) (stored : Stored) (lamps : Option LampRecord)
      (level : Level),
    (c, cause) ∈ [(Instr.supplyApplied, ResetCause.powerOn), (.supplyDip, .supplyDip),
      (.resetLine, .resetLine), (.restartReset, .restart)] →
    (c = .restartReset → s.restartDue = true) →
    stored = (if s.settingsWrite.isSome then Stored.defaults else s.nvSettings.getD Stored.defaults) →
    lamps = (if s.lampWrite.isSome then none else s.nvLamps) →
    level = (Level.ofCode (stored.items.get 5)).getD .opened →
      let kept : Bool := decide (cause = .resetLine ∨ cause = .restart)
      let entry : LampId → Option LampEntry := fun x => lamps.map fun r => (match x with
        | .a => r.a
        | .b => r.b)
      let lit : LampId → Bool := fun x => (entry x).elim false (·.lit)
      let due : Bool := (lit .a || lit .b) && !kept && decide (stored.items.get 32 ≠ 0)
      let calls : LampId → Bool := fun x => match stored.plan with
        | .dual => true
        | .fixedA => decide (x = .a)
        | .fixedB => decide (x = .b)
        | .alternate => decide (x =
          if (entry .b).elim 0 (·.wear) < (entry .a).elim 0 (·.wear) then LampId.b else .a)
      let values : GeoValues :=
        if stored.geometry.quad.valid (stored.items.get 25) = true then stored.geometry
        else ⟨0, 0, ⟨0, 0⟩, ⟨0, 0⟩, ⟨0, 0⟩, ⟨0, 0⟩⟩
      let input : InputId := Fin.ofNat 8 (stored.items.get 24)
      ∃ (t : State) (unclean : LampId → List Incident), exec c s = .next t
        ∧ (∀ x, unclean x = if lit x then
            ((⟨.uncleanOff, .note, (t.lamp x).state, (t.lamp x).wear, t.clock.map (·.now)⟩ : Incident)
              :: (entry x).elim [] (·.history)).take 4
          else (entry x).elim [] (·.history))
        ∧ t.latch = false ∧ t.recovery = s.thermalInput ∧ t.fan = s.thermalInput
        ∧ t.thermalInput = s.thermalInput ∧ t.window = none ∧ t.hold = none
        ∧ t.lastStruck = none ∧ t.skip = false ∧ t.settingsWrite = none ∧ t.restartDue = false
        ∧ t.keypad = ⟨false, false, false, false, false, false, none, none⟩ ∧ t.remote = ⟨none, none, none⟩
        ∧ t.power.idleExpired = false ∧ t.power.idle = none ∧ t.power.autoOff = none
        ∧ t.sw =
          { selected := input, inFlight := none, slot := none, hold := none, mute := false
            watch := .watching, grace := none, selectLines := input, blankLine := false }
        ∧ t.geo =
          { quad := values.quad, area := values.quad.area, rect := ⟨0, 0, 1920, 1200⟩, fit := .fill
            pictureQuad := values.quad, pictureArea := values.quad.area, input := input, deferred := false }
        ∧ t.scaler = ⟨values.quad, values.quad.area, values.quad, values.quad.area⟩
        ∧ t.clock = (if kept then s.clock.bind fun d => d.passed (Config.timeInReset s.keptResets) else none)
        ∧ t.conf = { stored with
          geometry := values
          exceptions := match t.clock with
            | none => stored.exceptions
            | some d => stored.exceptions.filter fun e => !e.date.before d.now.date }
        ∧ t.nvSettings = (if s.settingsWrite.isSome then none else s.nvSettings)
        ∧ t.nvLamps = lamps ∧ t.waitingCheckpoint = false
        ∧ t.lampWrite = (if lit .a || lit .b then
            some ⟨⟨{ t.lampA.entry with history := unclean .a }, { t.lampB.entry with history := unclean .b }⟩,
              some 200⟩
          else none)
        ∧ (∀ x, t.lamp x =
          let wear := (entry x).elim 0 (·.wear)
          { state := if (entry x).elim false (·.out) = true then .out else .hot
            demand := .off, called := (t.lamp x).called, pendingOff := false, waiting := (t.lamp x).called
            out := (entry x).elim false (·.out), attempts := 0
            limit := if (t.lamp x).called = true then stored.items.get 9 else 0
            cap := if (t.lamp x).called = true then stored.items.get 10 else 0
            since := 0, timer := none, strikeCount := (entry x).elim 0 (·.strikeCount), wear := wear
            fraction := 0, litSeconds := 0
            warning := decide ((stored.items.get 11 - stored.items.get 12) * 43200 ≤ wear)
            endOfLife := decide (stored.items.get 11 * 43200 ≤ wear)
            expired := decide ((stored.items.get 11 + stored.items.get 13) * 43200 ≤ wear)
            wearUnknown := (entry x).elim true (·.wearUnknown), wakeLate := (entry x).elim 0 (·.wakeLate)
            wakeTimer := none
            history := if s.thermalInput = true then
                ((⟨.thermal, .note, (t.lamp x).state, wear, t.clock.map (·.now)⟩ : Incident)
                  :: unclean x).take 4
              else unclean x
            faultLine := (s.lamp x).faultLine, atLevelLine := (s.lamp x).atLevelLine })
        ∧ (∀ l, (t.link l).assembler = .hunt ∧ (t.link l).inbound = [] ∧ (t.link l).replies = []
            ∧ (t.link l).errors = 0 ∧ (t.link l).stall = none ∧ (t.link l).awaiting = false
            ∧ (t.link l).owed = none
            ∧ (t.link l).sending = some (.report 1 (.start
                { cause := cause
                  settingsDefaulted := s.settingsWrite.isSome || s.nvSettings.isNone
                  lampDefaulted := lamps.isNone
                  clockKept := kept && s.clock.isSome
                  litA := lit .a, litB := lit .b })))
        ∧ (due = false →
            (∀ i : RuleId, t.counters.get i = (stored.rules.get i).loaded)
            ∧ (t.clock = none ∨ stored.items.get 39 = 0 → t.level = level)
            ∧ ∀ d, t.clock = some d → stored.items.get 39 ≠ 0 →
              ((∀ n back, ¬ t.conf.timetabled d.now n back) → t.level = level)
              ∧ ∀ v, t.conf.restores d.now v → t.level = v)
        ∧ (s.thermalInput = false → due = false →
            t.power = ⟨.standby, false, none, 0, false, false, none, none⟩
            ∧ (∀ i, t.input i = InputRecord.fresh)
            ∧ (∀ g, t.scan.get g = ⟨some (t.scanIntervalMs g), Vector.replicate 8 0⟩)
            ∧ (∀ x, (t.lamp x).called = false) ∧ ∀ l, (t.link l).lost = false)
        ∧ (s.thermalInput = true →
            t.power = ⟨.shutdown, false, none, 0, false, false, none, none⟩
            ∧ (∀ i, t.input i = InputRecord.fresh) ∧ (∀ g, t.scan.get g = ⟨none, Vector.replicate 8 0⟩)
            ∧ ∀ x, (t.lamp x).called = false)
        ∧ (s.thermalInput = false → due = true → stored.ruleSet .auto = 0 →
            t.level = level ∧ (∀ i : RuleId, t.counters.get i = (stored.rules.get i).loaded)
            ∧ ((stored.cell level .auto).permit = false →
              t.power.state = .standby ∧ t.power.intent = false ∧ ∀ x, (t.lamp x).called = false)
            ∧ ((stored.cell level .auto).permit = true →
              (∀ x, (t.lamp x).out = false
                ∧ (t.lamp x).wear < (stored.items.get 11 + stored.items.get 13) * 43200) →
                t.power.state = .starting ∧ t.power.intent = true ∧ t.power.intentClass = some .auto
                ∧ t.power.intentPriority = (stored.cell level .auto).priority ∧ t.power.degraded = false
                ∧ (∀ i, t.input i = { InputRecord.fresh with signal := .acquiring, acquire := some 4000 })
                ∧ (∀ g, t.scan.get g = ⟨none, Vector.replicate 8 0⟩)
                ∧ ∀ x, (t.lamp x).called = calls x ∧ (calls x = true → (t.lamp x).attempts = 0
                  ∧ (t.lamp x).limit = stored.items.get 9 ∧ (t.lamp x).cap = stored.items.get 10)))

/-! ## Chapter 3: the evaluation of requests -/

/-- R49, R51: an operational request with an argument that is no code of its list is refused BAD_VALUE before
any evaluation; one whose verdict is DENY is answered DENIED with the byte that names what decided, and goes
no further: all it can have changed are counters, the level and the links. -/
def Obligations.PolicyRefusesBadValuesAndDeniedRequests : Prop :=
  ∀ (c : Instr) (l : Link) (r : Request) (s t : State),
    c.wellFormed = true → requestOfCommand c = some (l, r) → s.linkTakes l r t →
      r.kind.toNat < 0x20 → requestLength r.kind = some r.payload.length →
        match operationOf r with
        | none => exec c s = .next (t.reply l ⟨r.kind + 0x80, r.tag, .badValue, []⟩)
        | some o =>
          (t.evaluate (ReqClass.ofLink l) o none).1.permit = false →
            exec c s = .next ((t.evaluate (ReqClass.ofLink l) o none).2.reply l
              ⟨r.kind + 0x80, r.tag, .denied, [(t.evaluate (ReqClass.ofLink l) o none).1.deciding]⟩)
            ∧ t.policyOnly (t.evaluate (ReqClass.ofLink l) o none).2

/-- R22, R46, R48 to R52: the verdict of an evaluation and what it counts, from the rules that match and are
taken: those of the class's set that match, in ascending index, up to the first that permits or denies. They
adjust the working priority and the working map one after the other by their modes (R50), the one that decides
included; the credential class that they test is that of the presented token for a PRESENT_CREDENTIAL, and
that of the hold for every other kind (R46); each of them counts, in that order, and no rule after a deciding
one does, which is all that an evaluation changes (R52); a deciding rule gives the verdict, the matrix cell
where there is none; and a select outside the working map is denied by the last rule that touched the map, or
by the matrix. -/
def Obligations.VerdictComesFromTheRulesTaken : Prop :=
  (∀ (r : Rule) (p : Nat), r.adjustPriority p = match r.priorityMode with
    | .keep => p
    | .atLeast => if p < r.priority then r.priority else p
    | .atMost => if r.priority < p then r.priority else p
    | .set => r.priority)
  ∧ (∀ (r : Rule) (m : BitVec 8) (i : InputId), (r.adjustMap m).getLsbD i.val = match r.mapMode with
    | .keep => m.getLsbD i.val
    | .add => m.getLsbD i.val || r.map.getLsbD i.val
    | .mask => m.getLsbD i.val && r.map.getLsbD i.val
    | .set => r.map.getLsbD i.val)
  ∧ (∀ (s : State) (o : Operation),
    (∀ token, o = .presentCredential token → s.credentialFor o = s.classify token)
    ∧ ((∀ token, o ≠ .presentCredential token) → s.credentialFor o = match s.hold with
      | none => .none
      | some h => h.cls))
  ∧ ∀ (s : State) (cls : ReqClass) (o : Operation) (override : Option Nat)
    (hits before taken : List RuleId) (deciding : Option RuleId) (priority : Nat) (map : BitVec 8),
    hits = (List.finRange 16).filter (fun i => (s.conf.ruleSet cls).getLsbD i.val
      && (s.conf.rules.get i).matches cls o.kindBit (s.credentialFor o) s.minuteOfWeek) →
    before = hits.takeWhile (fun i => decide ((s.conf.rules.get i).verdict = .continue)) →
    deciding = hits[before.length]? → taken = before ++ deciding.toList →
    priority = taken.foldl (fun p i => (s.conf.rules.get i).adjustPriority p)
      (override.getD (s.conf.cell s.level cls).priority) →
    map = taken.foldl (fun m i => (s.conf.rules.get i).adjustMap m) (s.conf.cell s.level cls).map →
      (s.evaluate cls o override).2
          = taken.foldl (fun u i => u.count i cls (byte (0x10 + o.kindBit))) s
      ∧ (s.evaluate cls o override).1
        = let outside : Bool := match o with
            | .selectInput i => !map.getLsbD i.val
            | _ => false
          let byMap : Byte :=
            match taken.reverse.find? fun i => decide ((s.conf.rules.get i).mapMode ≠ .keep) with
            | some i => byte i.val
            | none => 0xFF
          match deciding with
          | some i =>
            if (s.conf.rules.get i).verdict = .deny then ⟨false, byte i.val, priority, map⟩
            else ⟨!outside, if outside then byMap else 0xFF, priority, map⟩
          | none =>
            if (s.conf.cell s.level cls).permit = false then ⟨false, 0xFF, priority, map⟩
            else ⟨!outside, if outside then byMap else 0xFF, priority, map⟩

/-- R46, R47: when a rule matches: it is enabled, the class, the kind and the credential class are in its
sets, and its time condition holds for now, of which nothing but OFF holds while the clock is unset; a range
whose bounds stand in falling order wraps over the end of the week. R52, R53, R56, R59: what a matching rule
counts. A COUNT_UP rule below its limit goes up by one; one that reaches its limit tells LIMIT_REACHED, raises
OPEN to LECTURE or LECTURE to SECURE where it escalates, with a LOCKOUT report, and returns to 0; every other
rule counts nothing. -/
def Obligations.RulesMatchAndCount : Prop :=
  (∀ (r : Rule) (cls : ReqClass) (kindBit : Nat) (cred : CredClass) (now : Option Nat),
    r.matches cls kindBit cred now = true ↔
      r.enabled = true ∧ r.requesters.getLsbD cls.code = true ∧ r.kinds.getLsbD kindBit = true
        ∧ r.credential.getLsbD cred.code = true
        ∧ (r.timeMode = .off
          ∨ ∃ n, now = some n
            ∧ ((r.timeMode = .atBound ∧ (n = r.timeMin ∨ n = r.timeMax))
              ∨ (r.timeMode = .inside
                ∧ ((r.timeMin ≤ n ∧ n ≤ r.timeMax)
                  ∨ (r.timeMax < r.timeMin ∧ (r.timeMin ≤ n ∨ n ≤ r.timeMax))))
              ∨ (r.timeMode = .outside
                ∧ ¬ ((r.timeMin ≤ n ∧ n ≤ r.timeMax)
                  ∨ (r.timeMax < r.timeMin ∧ (r.timeMin ≤ n ∨ n ≤ r.timeMax)))))))
  ∧ ∀ (s : State) (i : RuleId) (cls : ReqClass) (kind : Byte) (r : Rule) (n : Nat) (raised : Level),
    r = s.conf.rules.get i → n = (s.counters.get i).value →
    raised = (match s.level with
      | .opened => .lecture
      | .lecture => .secure
      | .secure => .secure
      | .service => .service) →
      s.count i cls kind
        = if r.counterMode ≠ .countUp then s
          else if n + 1 ≠ r.limit then s.setCounter i { s.counters.get i with value := n + 1 }
          else if r.escalate = true ∧ raised ≠ s.level then
            ((({ s with level := raised } : State).offer
                (.ruleEvent ⟨i, .limitReached, some (cls, kind), true, raised⟩)).offer
              (.lockout ⟨.escalation, raised, s.level, byte i.val⟩)).setCounter i
                { s.counters.get i with value := 0 }
          else
            (s.offer (.ruleEvent ⟨i, .limitReached, some (cls, kind), false, s.level⟩)).setCounter i
              { s.counters.get i with value := 0 }

/-- R57: a permitted SET_LOCKOUT sets the level named and answers it, with a LOCKOUT report naming the class
where the level changes and none where it does not; in SHUTDOWN it is refused STATE. R55, R58, R63: the
SET_RULE of a week entry is evaluated as a request of kind SET_LOCKOUT of class SCHEDULE; a permitted one is
refused STATE in SHUTDOWN and LOCKED below the rule boundary of a lock that is on, and else sets the rule's
enabled field and reloads its counter, and nothing else. R54, R56: COUNT_DOWN_DECREMENT lowers an enabled
COUNT_DOWN rule's counter by one and runs its next unit; at the end of its last unit the rule disables itself
with its value at 0, and RULE_EVENT tells EXPIRED. -/
def Obligations.LockoutIsSetAndCountDownsRun : Prop :=
  (∀ (s : State) (l : Link) (tag : Byte) (v : Level) (t : State) (pr : Nat) (u : State),
    s.linkTakes l ⟨0x19, tag, [byte v.code]⟩ t → t.permits l (.setLockout v) pr u →
      exec (.setLockout l tag [byte v.code]) s
        = .next (if u.power.state = .shutdown then u.reply l ⟨0x99, tag, .state, []⟩
          else if v = u.level then u.reply l ⟨0x99, tag, .ok, [byte v.code]⟩
          else (({ u with level := v } : State).offer
              (.lockout ⟨.request, v, u.level, byte (ReqClass.ofLink l).code⟩)).reply l
                ⟨0x99, tag, .ok, [byte v.code]⟩))
  ∧ (∀ (e : Entry) (i : RuleId) (on : Bool), e.action = .setRule → e.arg1 = i.val →
      e.arg2 = (if on = true then 1 else 0) → e.operation = some (.setRule i on))
  ∧ (∀ (i : RuleId) (on : Bool) (v : Level),
    (Operation.setRule i on).kindBit = (Operation.setLockout v).kindBit)
  ∧ (∀ (s : State) (i : RuleId) (on : Bool) (priority : Nat) (e : Verdict) (w u : State) (r : Rule),
    (e, w) = s.evaluate .schedule (.setRule i on) (some priority) → u = w.activity →
    r = { u.conf.rules.get i with enabled := on } →
      ((s.operate .schedule (.setRule i on) none (some priority)).1.result,
        (s.operate .schedule (.setRule i on) none (some priority)).2)
        = if e.permit = false then (.denied, w)
          else if u.power.state = .shutdown then (.state, u)
          else if u.conf.lock.on = true ∧ i.val < u.conf.lock.rule then (.locked, u)
          else (.ok, { u with
            conf := { u.conf with rules := u.conf.rules.set i.val r i.isLt }
            counters := u.counters.set i.val
              { value := if r.counterMode = .countDown then r.limit else 0
                unit := if on = true ∧ r.counterMode = .countDown then
                    some (if r.unit = .seconds then 1000 else 60000)
                  else none } i.isLt }))
  ∧ ∀ (s : State) (i : RuleId) (r : Rule) (n : Nat),
    r = s.conf.rules.get i → n = (s.counters.get i).value →
    r.enabled = true → r.counterMode = .countDown → (s.counters.get i).unit.isSome = true →
      (2 ≤ n →
        exec (.countDownDecrement i) s
          = .next (s.setCounter i ⟨n - 1, some (if r.unit = .seconds then 1000 else 60000)⟩))
      ∧ (n ≤ 1 →
        exec (.countDownDecrement i) s
          = .next ((({ s with conf := { s.conf with
                rules := s.conf.rules.set i.val { r with enabled := false } i.isLt } } : State).setCounter i
                  ⟨0, none⟩).offer (.ruleEvent ⟨i, .expired, none, false, s.level⟩)))

/-! ## Chapter 2: credentials -/

/-- R30, R31, R32: a personal token takes the class of the enabled card that holds it; without one it is
UNKNOWN, or judged by the bins where the filter says so; a group token is judged by the bins: GROUP when the
bin of its eight 6-bit groups' exclusive-or is set, the other way round under the inverse flag, and always
under accept-all. -/
def Obligations.TokensClassifyByCardOrBins : Prop :=
  ∀ (s : State) (token : BitVec 48),
    let bin := ((token.extractLsb' 0 6 ^^^ token.extractLsb' 6 6) ^^^ (token.extractLsb' 12 6
        ^^^ token.extractLsb' 18 6)) ^^^ ((token.extractLsb' 24 6 ^^^ token.extractLsb' 30 6)
        ^^^ (token.extractLsb' 36 6 ^^^ token.extractLsb' 42 6))
    let byBins : CredClass :=
      if s.conf.filter.acceptAll = true ∨ s.conf.bins.getLsbD bin.toNat ≠ s.conf.filter.inverse then .group
      else .unknown
    if token.getLsbD 47 = true then s.classify token = byBins
    else
      (∀ c, s.conf.cards.toList.find? (fun c => c.enabled && c.token == token) = some c →
        s.classify token = if c.role = .staff then .staff else .tech)
      ∧ (s.conf.cards.toList.find? (fun c => c.enabled && c.token == token) = none →
        s.classify token = if s.conf.filter.personalByBins = true then byBins else .unknown)

/-- R35, R36, R37, R39: a permitted PRESENT_CREDENTIAL replaces the hold by one of the class found, on its
link, for the hold time in force; END_CREDENTIAL ends a hold whichever link it came on; HOLD_EXPIRY ends one
whose time has run out; each with its CREDENTIAL report. END_CREDENTIAL is refused STATE in SHUTDOWN. THE
MODEL'S CHOICES: HOLD_EXPIRY with no hold standing changes nothing (assumption 6), and one given while a hold
stands is honoured at any time left of it (assumption 3). -/
def Obligations.CredentialHoldIsSetAndEnded : Prop :=
  ∀ (s : State) (l : Link) (tag : Byte) (t : State) (pr : Nat) (u : State),
    (∀ (token : BitVec 48),
      token ≠ 0 → token ≠ BitVec.allOnes 48 → s.linkTakes l ⟨0x1A, tag, be48 token⟩ t →
      t.permits l (.presentCredential token) pr u →
        exec (.presentCredential l tag (be48 token)) s
          = .next ((({ u with
              hold := some { cls := u.classify token, token := token, left := 60000 * u.item 4, link := l } }
                : State).offer (.credential
                  { cause := .presented, cls := u.classify token, previous := u.holdClass, link := l
                    minutes := u.item 4, token := token })).reply l
                ⟨0x9A, tag, .ok, byte (u.classify token).code :: be16 (u.item 4)⟩))
      ∧ (s.linkTakes l ⟨0x1B, tag, []⟩ t → t.permits l .endCredential pr u →
        exec (.endCredential l tag []) s
          = .next (if u.power.state = .shutdown then u.reply l ⟨0x9B, tag, .state, []⟩
            else match u.hold with
              | none => u.reply l ⟨0x9B, tag, .ok, [0]⟩
              | some h =>
                (({ u with hold := none } : State).offer (.credential
                  { cause := .ended, cls := .none, previous := h.cls, link := h.link, minutes := 0
                    token := h.token })).reply l ⟨0x9B, tag, .ok, [byte h.cls.code]⟩))
      ∧ exec .holdExpiry s
          = .next (match s.hold with
            | none => s
            | some h => ({ s with hold := none } : State).offer (.credential
                { cause := .expired, cls := .none, previous := h.cls, link := h.link, minutes := 0
                  token := h.token }))

/-! ## Chapters 4 and 9: power requests -/

/-- R70, R72, R79, R85, R86, R161, R162, R169, R170: a permitted POWER_ON, and the activity of every other
permitted request of a class other than AUTO (`State.permits`). With the projector already on its way up or
lit POWER_ON is OK and records the intent. Leaving DIMMED, by POWER_ON or by activity, stops the auto-off
timer and takes each lamp in DIMMED to LIT at the level in force, with its wake timer started unless its
at-level line stands asserted; leaving the idle-expired mark clears it and stops the auto-off timer; neither
touches any other lamp. From STANDBY or STOPPING with thermal recovery clear it calls the lamps of the plan,
enters STARTING, and is ACCEPTED: both under DUAL, the named one under a fixed plan, and under ALTERNATE the
one that R86 chooses. A lamp called in DARK with its ballast free of a fault is struck, one in COOLDOWN or HOT
waits, and one in IGNITE or WARMUP goes on without its pending off; one that is not available is as it was,
which under DUAL is DEGRADED, and so is a lamp that the plan does not call. In SHUTDOWN, and in STANDBY and
STOPPING during recovery, it is refused STATE and changes nothing; with no lamp available in STANDBY it is
refused STATE. -/
def Obligations.PowerOnStrikesThePlansLamps : Prop :=
  let lightened := fun u v : State => ∀ x, v.lamp x =
    if u.power.state = .dimmed ∧ (u.lamp x).state = .dimmed then
      { u.lamp x with
        state := .lit, demand := if u.conf.lampLevel = .full then .full else .eco
        wakeTimer := if (u.lamp x).atLevelLine = true then none else some (1000 * u.item 30) }
    else u.lamp x
  (∀ u : State,
    (u.power.state = .dimmed →
      ∃ v, v = u.activity ∧ lightened u v ∧ v.power.state = .on ∧ v.power.autoOff = none
        ∧ v.power.intent = u.power.intent
        ∧ v = { u with
            control := v.control, lectern := v.lectern, lampA := v.lampA, lampB := v.lampB
            fan := v.fan, power := v.power })
    ∧ (u.power.state = .on → u.power.idleExpired = true →
      ∃ v, v = u.activity ∧ v.power.state = .on ∧ v.power.idleExpired = false ∧ v.power.autoOff = none
        ∧ v = { u with control := v.control, lectern := v.lectern, power := v.power })
    ∧ (u.power.state = .on → u.power.idleExpired = false →
      u.activity = if (u.input u.sw.selected).signal = .stable ∧ u.sw.mute = false then u
        else { u with power := { u.power with idle := some (60000 * u.item 26) } })
    ∧ (u.power.state ≠ .on → u.power.state ≠ .dimmed → u.activity = u))
  ∧ (∀ u : State,
    let resumes := fun m : Lamp => decide (m.state ∈ [LampState.ignite, .warmup, .lit, .dimmed])
      && m.pendingOff
    (u.conf.plan = .dual → u.planLamps = [.a, .b])
    ∧ (u.conf.plan = .fixedA → u.planLamps = [.a]) ∧ (u.conf.plan = .fixedB → u.planLamps = [.b])
    ∧ (u.conf.plan = .alternate → u.lampA.available = true ∨ u.lampB.available = true →
      u.planLamps = [
        if u.lampA.available ≠ u.lampB.available then (if u.lampA.available then .a else .b)
        else if resumes u.lampA ≠ resumes u.lampB then (if resumes u.lampA then .a else .b)
        else if decide (u.lampA.state = .dark) ≠ decide (u.lampB.state = .dark) then
          (if u.lampA.state = .dark then .a else .b)
        else if u.lampA.wear ≠ u.lampB.wear then (if u.lampA.wear < u.lampB.wear then .a else .b)
        else if u.lastStruck = some .a then .b else .a]))
  ∧ ∀ (s : State) (l : Link) (tag : Byte) (t : State) (pr : Nat) (u : State),
    s.linkTakes l ⟨0x10, tag, []⟩ t → t.permits l .powerOn pr u →
      (u.power.state.running = true →
        ∃ v : State, exec (.powerOn l tag []) s
            = .next (v.reply l ⟨0x90, tag, .ok, [byte v.power.state.code]⟩)
          ∧ v.power.state = (if u.power.state = .starting then .starting else .on)
          ∧ v.power.intent = true ∧ v.power.intentClass = some (ReqClass.ofLink l)
          ∧ v.power.intentPriority = pr ∧ v.power.idleExpired = (decide (u.power.state ≠ .on)
            && u.power.idleExpired)
          ∧ lightened u v
          ∧ (u.power.state = .dimmed ∨ u.power.state = .on ∧ u.power.idleExpired = true →
            v.power.autoOff = none)
          ∧ v = { u with
              control := v.control, lectern := v.lectern, lampA := v.lampA, lampB := v.lampB
              fan := v.fan, power := v.power })
      ∧ (u.power.state = .standby ∨ u.power.state = .stopping → u.recovery = false →
        (∀ x ∈ u.planLamps, (u.lamp x).callable ∨ (u.lamp x).called = false
          ∧ ((u.lamp x).out = true ∨ (u.lamp x).expired = true)) →
        (∃ x ∈ u.planLamps, (u.lamp x).callable) →
          ∃ v : State, exec (.powerOn l tag []) s = .next (v.reply l ⟨0x90, tag, .accepted, [1]⟩)
            ∧ v.power.state = .starting ∧ v.power.intent = true
            ∧ v.power.intentClass = some (ReqClass.ofLink l) ∧ v.power.intentPriority = pr
            ∧ (∀ x ∈ u.planLamps, (u.lamp x).callable → u.callMakes (u.lamp x) (v.lamp x))
            ∧ (∀ x, x ∉ u.planLamps ∨ (u.lamp x).out = true ∨ (u.lamp x).expired = true →
              v.lamp x = u.lamp x)
            ∧ ((∀ x ∈ u.planLamps, (u.lamp x).callable) → v.power.degraded = u.power.degraded)
            ∧ (∀ x ∈ u.planLamps, (u.lamp x).out = true ∨ (u.lamp x).expired = true →
              v.power.degraded = true)
            ∧ v = { u with
                control := v.control, lectern := v.lectern, lampA := v.lampA, lampB := v.lampB
                lastStruck := v.lastStruck, fan := v.fan, lampWrite := v.lampWrite
                waitingCheckpoint := v.waitingCheckpoint, power := v.power, inputs := v.inputs
                sw := v.sw, geo := v.geo, scaler := v.scaler, scan := v.scan })
      ∧ (u.power.state = .shutdown
          ∨ ((u.power.state = .standby ∨ u.power.state = .stopping) ∧ u.recovery = true) →
        exec (.powerOn l tag []) s = .next (u.reply l ⟨0x90, tag, .state, []⟩))
      ∧ (u.power.state = .standby → u.recovery = false → u.power.degraded = false →
        u.lampA.available = false → u.lampB.available = false → u.calledCount = 0 →
          exec (.powerOn l tag []) s
            = .next ((u.reportPower .standby .request .startFailed).reply l ⟨0x90, tag, .state, []⟩))

/-- R38, R71, R80, R138, R154, R163, R164, R165: a permitted POWER_OFF. In STARTING, ON and DIMMED the intent
becomes OFF, the projector enters STOPPING, and every called lamp is released: one LIT or DIMMED is
extinguished into COOLDOWN, one in IGNITE or WARMUP goes on with its off pending, one in RETRY_WAIT ends
there; STOPPING is left for STANDBY at once where no lamp keeps it and recovery is clear, and the reply is
then OK instead of ACCEPTED. A switch in flight is dropped: its target becomes the selected input, with its
picture sent to the scaler, and the pending select and the source hold end. In STANDBY and STOPPING POWER_OFF
is OK and records the intent; in SHUTDOWN it is refused STATE and changes nothing. The move from STOPPING to
STANDBY, in this event or at the end of the last lamp's cooldown, ends the credential hold after its
POWER_STATE report, with a CREDENTIAL report of cause STANDBY; without that move the hold stands. -/
def Obligations.PowerOffReleasesTheCalledLamps : Prop :=
  let ended := fun s v : State => v.hold = none ∧ ∃ w : State, w.hold = s.hold ∧ w.power = v.power
    ∧ v = match w.hold with
      | none => w
      | some h => ({ w with hold := none } : State).offer (.credential
          { cause := .standby, cls := .none, previous := h.cls, link := h.link, minutes := 0
            token := h.token })
  (∀ (s : State) (x : LampId),
    s.power.state = .stopping → s.recovery = false → (s.lamp x).state = .cooldown →
    (s.lamp x).timer.isSome = true → (s.lamp x).waiting = false →
    (s.lamp (otherLamp x)).state.busy = false →
      ∃ v, exec (.cooldownExpiry x) s = .next v ∧ s.lampPathOnly v ∧ v.power.state = .standby
        ∧ ended s v)
  ∧ ∀ (s : State) (l : Link) (tag : Byte) (t : State) (pr : Nat) (u : State),
    s.linkTakes l ⟨0x11, tag, []⟩ t → t.permits l .powerOff pr u →
      (u.power.state.running = true →
        ∃ v : State, exec (.powerOff l tag []) s
            = .next (v.reply l ⟨0x91, tag, if v.power.state = .standby then .ok else .accepted,
                [byte v.power.state.code]⟩)
          ∧ (v.power.state = .stopping ∨ v.power.state = .standby)
          ∧ (v.power.state = .standby ↔
            u.recovery = false ∧ v.lampA.state.busy = false ∧ v.lampB.state.busy = false)
          ∧ v.power.intent = false ∧ v.power.intentClass = some (ReqClass.ofLink l)
          ∧ v.power.intentPriority = pr ∧ v.power.degraded = false ∧ v.power.idle = none
          ∧ v.power.autoOff = none ∧ v.power.idleExpired = false ∧ v.window = none
          ∧ u.dropsSwitch v ∧ v.conf = u.conf
          ∧ (v.power.state = .stopping → u.sw.inFlight = none → v.geo = u.geo ∧ v.scaler = u.scaler)
          ∧ v.level = u.level ∧ v.clock = u.clock ∧ v.recovery = u.recovery
          ∧ (v.power.state = .stopping → v.hold = u.hold) ∧ (v.power.state = .standby → ended u v)
          ∧ ∀ x,
            if (u.lamp x).called = false then v.lamp x = { u.lamp x with wakeTimer := none }
            else match (u.lamp x).state with
              | .lit | .dimmed =>
                (v.lamp x).state = .cooldown ∧ (v.lamp x).demand = .off ∧ (v.lamp x).called = false
                  ∧ (v.lamp x).since = 0 ∧ (v.lamp x).timer = some (1000 * u.item 7)
              | .ignite | .warmup =>
                (v.lamp x).state = (u.lamp x).state ∧ (v.lamp x).called = false
                  ∧ (v.lamp x).pendingOff = true ∧ (v.lamp x).timer = (u.lamp x).timer
              | .retryWait =>
                (v.lamp x).state = (if (u.lamp x).since < u.restrikeHold then .hot else .dark)
                  ∧ (v.lamp x).called = false ∧ (v.lamp x).timer = none
              | .cooldown | .hot =>
                (v.lamp x).state = (u.lamp x).state ∧ (v.lamp x).called = false
                  ∧ (v.lamp x).waiting = false
              | .dark | .out => v.lamp x = { u.lamp x with wakeTimer := none })
      ∧ (u.power.state = .standby ∨ u.power.state = .stopping →
        exec (.powerOff l tag []) s
          = .next (({ u with power := { u.power with
              intent := false, intentClass := some (ReqClass.ofLink l), intentPriority := pr } } : State).reply
                l ⟨0x91, tag, .ok, [byte u.power.state.code]⟩))
      ∧ (u.power.state = .shutdown →
        exec (.powerOff l tag []) s = .next (u.reply l ⟨0x91, tag, .state, []⟩))

/-- R67, R90: a permitted SET_LAMP_LEVEL puts the level in force; a lamp in LIT takes the demand of the new
level at once, and no other lamp changes; in SHUTDOWN it is refused STATE. -/
def Obligations.LampLevelReachesTheLampsInLit : Prop :=
  ∀ (s : State) (l : Link) (tag : Byte) (v : LampLevel) (t : State) (pr : Nat) (u : State),
    s.linkTakes l ⟨0x17, tag, [byte v.code]⟩ t → t.permits l (.setLampLevel v) pr u →
      (u.power.state = .shutdown →
        exec (.setLampLevel l tag [byte v.code]) s = .next (u.reply l ⟨0x97, tag, .state, []⟩))
      ∧ (u.power.state ≠ .shutdown →
        ∃ w : State, exec (.setLampLevel l tag [byte v.code]) s
            = .next (w.reply l ⟨0x97, tag, .ok, [byte v.code]⟩)
          ∧ w.conf = { u.conf with lampLevel := v }
          ∧ (v = u.conf.lampLevel → w = u)
          ∧ (v ≠ u.conf.lampLevel →
            w = { u with
                conf := w.conf, control := w.control, lectern := w.lectern, lampA := w.lampA
                lampB := w.lampB, fan := w.fan }
            ∧ ∀ x, w.lamp x =
                if (u.lamp x).state = .lit then
                  { u.lamp x with demand := (match v with
                    | .full => .full
                    | .eco => .eco) }
                else u.lamp x))

/-- R70, R85 to R88, R164: a permitted SET_LAMP_PLAN of a fixed plan whose lamp is not available is refused
STATE, as is any in SHUTDOWN, and changes nothing; the plan in force is answered and left; with the intent OFF
the plan changes alone. With the intent ON, in ON: with both lamps LIT and called, a change to FIXED_A
extinguishes lamp B and leaves lamp A as it is, a change to FIXED_B the other way round, and a change to
ALTERNATE extinguishes the lamp that R86 does not keep; with one lamp called and LIT, a change to ALTERNATE
touches no lamp, a change to DUAL leaves that lamp as it is and calls the other, by the lamp's state as at a
POWER_ON, or leaves it uncalled where it is not available, which is DEGRADED, and a change to the fixed plan
of the other extinguishes that lamp and calls the other, which takes the projector to STARTING. -/
def Obligations.LampPlanChangesTheCalledSet : Prop :=
  ∀ (s : State) (l : Link) (tag : Byte) (p : Plan) (t : State) (pr : Nat) (u : State),
    s.linkTakes l ⟨0x18, tag, [byte p.code]⟩ t → t.permits l (.setLampPlan p) pr u →
      let barred := u.power.state = .shutdown ∨ (p = .fixedA ∧ u.lampA.available = false)
        ∨ (p = .fixedB ∧ u.lampB.available = false)
      let answered := fun (v : State) =>
        exec (.setLampPlan l tag [byte p.code]) s = .next (v.reply l ⟨0x98, tag, .ok, [byte p.code]⟩)
      let planned : State :=
        { u with conf := { u.conf with plan := p }, power := { u.power with degraded := false } }
      let keep : LampId :=
        if u.lampA.available ≠ u.lampB.available then (if u.lampA.available then .a else .b)
        else if u.lampA.wear ≠ u.lampB.wear then (if u.lampA.wear < u.lampB.wear then .a else .b)
        else if u.lastStruck = some .a then .b else .a
      (barred → exec (.setLampPlan l tag [byte p.code]) s = .next (u.reply l ⟨0x98, tag, .state, []⟩))
      ∧ (¬ barred → p = u.conf.plan → answered u)
      ∧ (¬ barred → p ≠ u.conf.plan → u.power.intent = false → u.power.degraded = false →
        answered { u with conf := { u.conf with plan := p } })
      ∧ (∀ x, ¬ barred → p ≠ u.conf.plan → u.power.intent = true → u.power.state = .on →
          (∀ y, (u.lamp y).state = .lit) → (∀ y, (u.lamp y).called = true) →
          (p = .fixedA ∧ x = .a ∨ p = .fixedB ∧ x = .b ∨ p = .alternate ∧ x = keep) →
            ∃ v : State, answered v
              ∧ v = { planned with
                  control := v.control, lectern := v.lectern, lampA := v.lampA, lampB := v.lampB
                  fan := v.fan, lampWrite := v.lampWrite, waitingCheckpoint := v.waitingCheckpoint }
              ∧ v.lamp x = u.lamp x
              ∧ (v.lamp (otherLamp x)).state = .cooldown ∧ (v.lamp (otherLamp x)).called = false
              ∧ (v.lamp (otherLamp x)).demand = .off)
      ∧ ∀ x y : LampId, y = otherLamp x → ¬ barred → p ≠ u.conf.plan → u.power.intent = true →
          u.power.state = .on → (u.lamp x).state = .lit → (u.lamp x).called = true →
          (u.lamp y).called = false →
          (p = .alternate → answered planned)
          ∧ (p = .dual → (u.lamp y).available = false →
            answered ((planned.setPower { planned.power with degraded := true }).reportPower .on .lamps
              .degraded))
          ∧ (p = .dual → (u.lamp y).callable →
            ∃ v : State, answered v
              ∧ v = { planned with
                  control := v.control, lectern := v.lectern, lampA := v.lampA, lampB := v.lampB
                  lastStruck := v.lastStruck, fan := v.fan, lampWrite := v.lampWrite
                  waitingCheckpoint := v.waitingCheckpoint }
              ∧ v.lastStruck = (if (u.lamp y).state = .dark then some y else u.lastStruck)
              ∧ v.lamp x = u.lamp x ∧ u.callMakes (u.lamp y) (v.lamp y))
          ∧ (p = .fixedA ∧ y = .a ∨ p = .fixedB ∧ y = .b → (u.lamp y).callable →
            ∃ v : State, answered v ∧ planned.lampPathOnly v
              ∧ v.power.state = .starting ∧ v.power.intent = true
              ∧ (v.lamp x).state = .cooldown ∧ (v.lamp x).called = false ∧ (v.lamp x).demand = .off
              ∧ u.callMakes (u.lamp y) (v.lamp y))

/-! ## Chapter 7: selects and mute -/

/-- R130, R131, R132, R136, R152, R153: a permitted SELECT_INPUT, row by row. In SHUTDOWN it is refused STATE;
in STANDBY and STOPPING it selects directly, with the select lines on the input at once, and the picture is
fitted to it and sent to the scaler with its GEOMETRY report, the input already selected not excepted. In
STARTING, ON and DIMMED a source hold of higher priority refuses it HELD; a select of the selected input, or
of the target of the switch in flight, is OK and changes nothing; with no switch in flight one begins in
BLANK; otherwise the select takes an empty slot, or the place of a waiting one of no higher priority, and is
else refused BUSY. -/
def Obligations.SelectIsTakenByTheRowThatApplies : Prop :=
  ∀ (s : State) (l : Link) (tag : Byte) (i : InputId) (t : State) (pr : Nat) (u : State),
    s.linkTakes l ⟨0x12, tag, [byte i.val]⟩ t → t.permits l (.selectInput i) pr u →
      let answered := fun (v : State) (r : Result) (p : List Byte) =>
        exec (.selectInput l tag [byte i.val]) s = .next (v.reply l ⟨0x92, tag, r, p⟩)
      if u.power.state = .shutdown then answered u .state []
      else if u.power.state.running = false then
        ∃ v, answered v .ok [byte i.val]
          ∧ v = { u with
              control := v.control, lectern := v.lectern, sw := v.sw, geo := v.geo, scaler := v.scaler }
          ∧ v.sw.selected = i ∧ v.sw.hold = u.sw.hold ∧ v.sw.mute = u.sw.mute ∧ v.sw.slot = u.sw.slot
          ∧ v.geo.input = i ∧ v.geo.quad = u.geo.quad ∧ v.geo.area = u.geo.area
          ∧ (u.sw.inFlight = none →
            v.sw.inFlight = none ∧ v.sw.selectLines = i ∧ v.geo.deferred = false ∧ v.scaler = v.geo.update
            ∧ v = ({ u with sw := v.sw, geo := v.geo, scaler := v.scaler } : State).offer (.geometry
                { cause := .source, deferred := false, input := i, fit := v.geo.fit
                  v := u.conf.geometry.v, h := u.conf.geometry.h, sent := v.geo.update }))
      else if ∃ h, u.sw.hold = some h ∧ pr < h.priority then answered u .held []
      else match u.sw.inFlight with
        | none =>
          if i = u.sw.selected then answered u .ok [byte i.val]
          else
            ∃ v, answered v .accepted [byte i.val, 0] ∧ v = { u with sw := v.sw }
              ∧ v.sw.inFlight = some ⟨i, ReqClass.ofLink l, pr, some (l, tag), .blank, some 100⟩
              ∧ v.sw.blankLine = true ∧ v.sw.selectLines = u.sw.selected ∧ v.sw.selected = u.sw.selected
              ∧ v.sw.watch = .watching ∧ v.sw.slot = u.sw.slot ∧ v.sw.hold = u.sw.hold
        | some w =>
          if w.target = i then answered u .ok [byte u.sw.selected.val]
          else if ∃ p, u.sw.slot = some p ∧ pr < p.priority then answered u .busy []
          else
            ∃ v, answered v .accepted [byte i.val, 1]
              ∧ v = { u with control := v.control, lectern := v.lectern, sw := v.sw }
              ∧ v.sw.slot = some ⟨i, ReqClass.ofLink l, pr, some (l, tag), some (1000 * u.item 15)⟩
              ∧ v.sw.inFlight = u.sw.inFlight ∧ v.sw.selected = u.sw.selected ∧ v.sw.hold = u.sw.hold

/-- R129, R142: a permitted PICTURE_MUTE puts mute at the value named and answers it; a change asserts or
releases the blank line, which a switch in flight keeps asserted; in SHUTDOWN it is refused STATE. -/
def Obligations.PictureMuteDrivesTheBlankLine : Prop :=
  ∀ (s : State) (l : Link) (tag : Byte) (b : Bool) (t : State) (pr : Nat) (u : State),
    s.linkTakes l ⟨0x13, tag, [flagByte b]⟩ t → t.permits l (.pictureMute b) pr u →
      if u.power.state = .shutdown then
        exec (.pictureMute l tag [flagByte b]) s = .next (u.reply l ⟨0x93, tag, .state, []⟩)
      else
        ∃ v : State, exec (.pictureMute l tag [flagByte b]) s
            = .next (v.reply l ⟨0x93, tag, .ok, [flagByte b]⟩)
          ∧ v.sw.mute = b ∧ (b = u.sw.mute → v = u)
          ∧ (b ≠ u.sw.mute → v.sw.blankLine = (b || u.sw.inFlight.isSome))
          ∧ v.sw.selected = u.sw.selected ∧ v.sw.inFlight = u.sw.inFlight
          ∧ v = { u with
              control := v.control, lectern := v.lectern, lampA := v.lampA, lampB := v.lampB
              fan := v.fan, sw := v.sw, power := v.power }

/-! ## Chapter 8: geometry requests -/

/-- R144, R145, R149, R153, R154, R157: a permitted SET_KEYSTONE, SET_CORNER or RECALL_GEOMETRY forms its
candidate from the values in force, each value saturated to its range. A candidate that passes stage 3 under
the minimum area in force becomes the geometry, its values and its area are answered, and the update goes to
the scaler, or is deferred while a switch is in flight; one that does not is refused LIMIT and changes
nothing; in SHUTDOWN every one is refused STATE. -/
def Obligations.GeometryRequestsApplyOnlyValidCandidates : Prop :=
  ∀ (s : State) (l : Link) (tag : Byte) (t : State) (pr : Nat) (u : State) (c : Instr) (r : Request)
    (o : Operation) (g : GeoValues) (echo : List Byte),
    requestOfCommand c = some (l, r) → r.tag = tag → operationOf r = some o → s.linkTakes l r t →
    t.permits l o pr u →
    c.wellFormed = true →
    (match o with
      | .setKeystone relative v h =>
        g = { u.conf.geometry with
              v := max (-40) (min 40 (if relative then u.conf.geometry.v + v else v))
              h := max (-30) (min 30 (if relative then u.conf.geometry.h + h else h)) }
          ∧ echo = [signed8 g.v, signed8 g.h]
      | .setCorner corner dx dy =>
        ∃ p : Point, p = ⟨max (-192) (min 192 dx), max (-192) (min 192 dy)⟩
          ∧ g = (match corner with
            | .tl => { u.conf.geometry with tl := p }
            | .tr => { u.conf.geometry with tr := p }
            | .br => { u.conf.geometry with br := p }
            | .bl => { u.conf.geometry with bl := p })
          ∧ echo = r.payload.take 1 ++ signed16 p.x ++ signed16 p.y
      | .recallGeometry p =>
        g = u.conf.presets.get p ∧ echo = r.payload ++ [signed8 g.v, signed8 g.h]
      | _ => False) →
      if u.power.state = .shutdown then exec c s = .next (u.reply l ⟨r.kind + 0x80, tag, .state, []⟩)
      else if g.quad.valid (u.item 25) = true then
        ∃ v : State, exec c s
            = .next (v.reply l ⟨r.kind + 0x80, tag, .ok, echo ++ be16 g.quad.area⟩)
          ∧ v = { u with
              control := v.control, lectern := v.lectern, conf := { u.conf with geometry := g }
              geo := v.geo, scaler := v.scaler }
          ∧ v.geo.quad = g.quad ∧ v.geo.area = g.quad.area ∧ v.geo.input = u.sw.selected
          ∧ (if u.sw.inFlight.isSome = true then v.geo.deferred = true ∧ v.scaler = u.scaler
            else v.geo.deferred = false ∧ v.scaler = v.geo.update)
      else exec c s = .next (u.reply l ⟨r.kind + 0x80, tag, .limit, []⟩)

/-- R125, R128, R146 to R148, R150, R151: the corner points that keystone V and H give with the offsets added
and clamped to the panel, and stage 3: each edge long enough, every corner turning the same way, and an area
of at least the minimum, in permille of the panel, figured from the doubled area, which is positive for a
convex quad. Stage 4 forms the picture rectangle from the selected input as it stands: the full panel where it
is not STABLE or its aspect mode is FILL; its format's own size, centred, under NATIVE where it is within the
panel; and else the largest rectangle of its aspect, rounded half up and centred. Stage 5 maps the four
corners into the geometry quad by their weights, rounded half up, and the picture area is figured from them as
the geometry area is, but for a negative doubled area, where it is free (assumption 19). Those two stages
change nothing else. -/
def Obligations.GeometryQuadFollowsKeystoneAndCorners : Prop :=
  (∀ (g : GeoValues) (minimum : Nat) (q : Quad),
    q = g.quad →
      q.tl = ⟨max 0 (min 1920 ((if 0 < g.v then 9 * g.v else 0) + g.tl.x)),
          max 0 (min 1200 ((if g.h < 0 then -6 * g.h else 0) + g.tl.y))⟩
      ∧ q.tr = ⟨max 0 (min 1920 ((if 0 < g.v then 1920 - 9 * g.v else 1920) + g.tr.x)),
          max 0 (min 1200 ((if 0 < g.h then 6 * g.h else 0) + g.tr.y))⟩
      ∧ q.br = ⟨max 0 (min 1920 ((if g.v < 0 then 1920 + 9 * g.v else 1920) + g.br.x)),
          max 0 (min 1200 ((if 0 < g.h then 1200 - 6 * g.h else 1200) + g.br.y))⟩
      ∧ q.bl = ⟨max 0 (min 1920 ((if g.v < 0 then -9 * g.v else 0) + g.bl.x)),
          max 0 (min 1200 ((if g.h < 0 then 1200 + 6 * g.h else 1200) + g.bl.y))⟩
      ∧ (q.valid minimum = true ↔
        (960 ≤ q.tr.x - q.tl.x ∧ 960 ≤ q.br.x - q.bl.x ∧ 600 ≤ q.bl.y - q.tl.y ∧ 600 ≤ q.br.y - q.tr.y)
        ∧ (∀ p ∈ [(q.bl, q.tl, q.tr), (q.tl, q.tr, q.br), (q.tr, q.br, q.bl), (q.br, q.bl, q.tl)],
          0 < (p.2.1.x - p.1.x) * (p.2.2.y - p.2.1.y) - (p.2.1.y - p.1.y) * (p.2.2.x - p.2.1.x))
        ∧ minimum ≤ q.area)
      ∧ ∀ area2 : Int,
        area2 = (q.tl.x * q.tr.y - q.tr.x * q.tl.y) + (q.tr.x * q.br.y - q.br.x * q.tr.y)
          + (q.br.x * q.bl.y - q.bl.x * q.br.y) + (q.bl.x * q.tl.y - q.tl.x * q.bl.y) →
          q.area = (area2 * 1000 / 4608000).toNat ∧ (q.convex = true → 0 < area2))
  ∧ ∀ s : State,
    let i : InputId := s.sw.selected
    let mode := s.item ⟨64 + i.val, by omega⟩
    let centred := fun w h : Nat => (⟨(1920 - w) / 2, (1200 - h) / 2, w, h⟩ : Rect)
    let fitted := fun f : Format =>
      let aspect := f.aspect.getD (f.width, f.height)
      if aspect.2 * 1920 ≤ aspect.1 * 1200 then
        centred 1920 ((2 * (1920 * aspect.2) + aspect.1) / (2 * aspect.1))
      else centred ((2 * (1200 * aspect.1) + aspect.2) / (2 * aspect.2)) 1200
    let formed : Rect × Fit :=
      match (if (s.input i).signal = .stable then (s.input i).format else none) with
      | none => (⟨0, 0, 1920, 1200⟩, .fill)
      | some n =>
        let f := s.conf.formats.get n
        if mode = 0 then (⟨0, 0, 1920, 1200⟩, .fill)
        else if mode ≠ 1 ∧ f.width ≤ 1920 ∧ f.height ≤ 1200 then (centred f.width f.height, .native)
        else (fitted f, .fit)
    let r : Rect := formed.1
    let q : Quad := s.geo.quad
    let mapped := fun x y : Int =>
      let sum := fun tl tr br bl : Int =>
        (tl * ((1920 - x) * (1200 - y)) + tr * (x * (1200 - y)) + br * (x * y) + bl * ((1920 - x) * y)
          + 1152000) / 2304000
      (⟨sum q.tl.x q.tr.x q.br.x q.bl.x, sum q.tl.y q.tr.y q.br.y q.bl.y⟩ : Point)
    let p : Quad :=
      { tl := mapped r.x0 r.y0, tr := mapped (r.x0 + r.w) r.y0
        br := mapped (r.x0 + r.w) (r.y0 + r.h), bl := mapped r.x0 (r.y0 + r.h) }
    s.runPicture = { s with geo := { s.geo with
        rect := r, fit := formed.2, pictureQuad := p, input := i
        pictureArea := s.runPicture.geo.pictureArea } }
    ∧ ∀ area2 : Int,
      area2 = (p.tl.x * p.tr.y - p.tr.x * p.tl.y) + (p.tr.x * p.br.y - p.br.x * p.tr.y)
        + (p.br.x * p.bl.y - p.bl.x * p.br.y) + (p.bl.x * p.tl.y - p.tl.x * p.bl.y) → 0 ≤ area2 →
        s.runPicture.geo.pictureArea = (area2 * 1000 / 4608000).toNat


/-! ## Chapter 2: keys and the remote -/

/-- R24 to R27: what a press forms, from the keypad (class PANEL) and from the remote (class REMOTE). A POWER
press asks for power in STANDBY and STOPPING, does nothing in SHUTDOWN, and in STARTING, ON and DIMMED opens
the confirmation window for 5 s, or confirms and asks for power off when its own source opened it; any other
key cancels an open window and forms its request. INPUT steps on from the pending, the target or the selected
input to the next STABLE one, or to the next one where none is. KEY_PRESS is the press of its key as PANEL,
with the key held and its repeat period begun. -/
def Obligations.PressesFormTheirRequests : Prop :=
  (∀ (s : State) (k : Key), exec (.keyPress k) s
      = .next (({ s with keypad := s.keypad.set k true } : State).press k .panel))
  ∧ (∀ (s : State) (source : ReqClass),
      let opened := fun (u : State) =>
        ({ u with window := some { source := source, left := some 5000 } } : State).offer
          (.confirm { source := source, event := .opened, state := u.power.state })
      s.press .power source = match s.power.state with
        | .standby | .stopping => (s.operate source .powerOn none none).2
        | .shutdown => s
        | .starting | .on | .dimmed =>
          match s.window with
          | none => opened s
          | some w =>
            if w.source = source then
              ((({ s with window := none } : State).offer
                (.confirm ⟨w.source, .confirmed, s.power.state⟩)).operate source .powerOff none none).2
            else
              opened (({ s with window := none } : State).offer
                (.confirm ⟨w.source, .cancelledKey, s.power.state⟩)))
  ∧ ∀ (s : State) (source : ReqClass) (k : Key) (u : State) (ref : InputId),
      u = (match s.window with
        | none => s
        | some w => ({ s with window := none } : State).offer
            (.confirm ⟨w.source, .cancelledKey, s.power.state⟩)) →
      ref = (match s.sw.slot, s.sw.inFlight with
        | some p, _ => p.input
        | none, some w => w.target
        | none, none => s.sw.selected) →
        match k with
        | .power => True
        | .mute => s.press k source = (u.operate source (.pictureMute (!s.sw.mute)) none none).2
        | .level =>
          s.press k source = (u.operate source
            (.setLampLevel (if s.conf.lampLevel = .full then .eco else .full)) none none).2
        | .keyUp => s.press k source = (u.operate source (.setKeystone true 1 0) none none).2
        | .keyDown => s.press k source = (u.operate source (.setKeystone true (-1) 0) none none).2
        | .input =>
          ∃ d : Nat, 1 ≤ d ∧ d ≤ 7
            ∧ s.press k source
                = (u.operate source (.selectInput (Fin.ofNat 8 (ref.val + d))) none none).2
            ∧ ((s.input (Fin.ofNat 8 (ref.val + d))).signal = .stable
                ∧ (∀ e, 1 ≤ e → e < d → (s.input (Fin.ofNat 8 (ref.val + e))).signal ≠ .stable)
              ∨ d = 1 ∧ ∀ e, 1 ≤ e → e ≤ 7 → (s.input (Fin.ofNat 8 (ref.val + e))).signal ≠ .stable)

/-- R23, R27, R28, R29: a release gives no request; a repeat of a held KEY_UP or KEY_DOWN forms its request and
leaves the confirmation window alone; the window's expiry closes it with its CONFIRM report. A remote code of
another address, or of no button, does nothing; without the repeat indication it is the press of its button;
with it, it repeats KEY_UP or KEY_DOWN when that was the last button and its last request is at least 300 ms
old, and does nothing else. THE MODEL'S CHOICES: a code that is no button leaves the repeat memory as it was
(assumption 20), the expiry of a window that is not open changes nothing (assumption 6), and a repeat of a key
that is not held changes nothing (assumptions 6 and 21). -/
def Obligations.RepeatsAndRemoteCodesActAsKeys : Prop :=
  (∀ (s : State) (k : Key), exec (.keyRelease k) s = .next { s with keypad := s.keypad.set k false })
  ∧ (∀ s : State, exec .confirmationWindowExpiry s = .next (match s.window with
      | none => s
      | some w => ({ s with window := none } : State).offer
          (.confirm ⟨w.source, .expired, s.power.state⟩)))
  ∧ (∀ (s : State) (k : Key) (step : Int),
      (k = .keyUp ∧ step = 1 ∨ k = .keyDown ∧ step = -1) →
        exec (.keyRepeat k) s = .next (
          if (if k = .keyUp then s.keypad.keyUp = true ∧ s.keypad.upRepeat.isSome = true
              else s.keypad.keyDown = true ∧ s.keypad.downRepeat.isSome = true) then
            (({ s with keypad := s.keypad.set k true } : State).operate .panel (.setKeystone true step 0)
              none none).2
          else s))
  ∧ ∀ (s : State) (address command : Byte) (again : Bool),
      (address.toNat ≠ s.item 3 → exec (.remoteCode address command again) s = .next s)
      ∧ (address.toNat = s.item 3 →
        (∀ (k : Key) (u : State),
          (command, k) ∈ [(0x10, Key.power), (0x11, .input), (0x12, .mute), (0x13, .level), (0x14, .keyUp),
            (0x15, .keyDown)] →
          u = { s with remote := (match k with
              | .keyUp => { s.remote with last := some command, sinceUp := some 0 }
              | .keyDown => { s.remote with last := some command, sinceDown := some 0 }
              | _ => { s.remote with last := some command }) } →
            exec (.remoteCode address command again) s = .next (
              if again = false then u.press k .remote
              else if s.remote.last = some command
                  ∧ (k = .keyUp ∧ (∃ n, s.remote.sinceUp = some n ∧ 300 ≤ n)
                    ∨ k = .keyDown ∧ ∃ n, s.remote.sinceDown = some n ∧ 300 ≤ n) then
                (u.operate .remote (.setKeystone true (if k = .keyUp then 1 else -1) 0) none none).2
              else s))
        ∧ (∀ (i : InputId) (u : State), command = 0x20 + byte i.val →
          u = ({ s with remote := { s.remote with last := some command } } : State) →
            exec (.remoteCode address command again) s = .next (
              if again = true then s
              else ((match u.window with
                | none => u
                | some w => ({ u with window := none } : State).offer
                    (.confirm ⟨w.source, .cancelledKey, u.power.state⟩)).operate .remote (.selectInput i)
                      none none).2))
        ∧ ((command.toNat < 0x10 ∨ 0x15 < command.toNat ∧ command.toNat < 0x20 ∨ 0x27 < command.toNat) →
          exec (.remoteCode address command again) s = .next s))

/-! ## Chapter 4: the lamps -/

/-- R72 to R75, R82, R89, R164: how a strike and a retry wait end. Lit sense in IGNITE takes the lamp to
WARMUP for the warm-up time. A window that ends first is a failed strike: DARK for a lamp that is not called
or no longer available, OUT for one at its attempt limit, and else a retry wait of 10 s doubled for each
attempt up to the cap. A retry wait that ends strikes the lamp again, once the restrike hold has passed, or
sends it to DARK if it has become unavailable. HOT stands in the place of DARK below the hold. A called lamp
that goes OUT, or is no longer available, leaves play (R89): with the intent ON a partner that is called
carries on under DUAL and ALTERNATE, and one that can be is called, which is DEGRADED under DUAL; without one,
and under a fixed plan, the intent becomes OFF and the projector stops with START_FAILED. In every event the
power state follows the lamps (R164), and where no lamp leaves play the other lamp is as it was. THE MODEL'S
CHOICES: an expiry adds what its timer still had to go to the time since the lamp's extinguish (assumption 4),
it is honoured whatever the timer has to go (assumption 3), and an event of a lamp in another state, or of a
timer that does not run, changes nothing (assumption 6). -/
def Obligations.StrikesAndRetryWaitsEnd : Prop :=
  ∀ (s : State) (x : LampId) (m : Lamp), m = s.lamp x →
    let dark := fun (v : State) (since : Nat) =>
      (v.lamp x).state = (if since < 1000 * max (s.item 8) (s.item 7) then .hot else .dark)
        ∧ (v.lamp x).demand = .off ∧ (v.lamp x).called = false ∧ (v.lamp x).pendingOff = false
    let struck := fun (v : State) =>
      (v.lamp x).state = .ignite ∧ (v.lamp x).demand = .ignite ∧ (v.lamp x).timer = some 2000
        ∧ (v.lamp x).attempts = m.attempts + 1 ∧ (v.lamp x).strikeCount = min (m.strikeCount + 1) 65535
        ∧ (v.lamp x).wear = min (m.wear + 600) 4294967295 ∧ v.lastStruck = some x
    let stays := fun (v : State) => s.powerFollows false v ∧ v.lamp (otherLamp x) = s.lamp (otherLamp x)
    (if m.state = .ignite then
      ∃ v, exec (.litSense x) s = .next v ∧ s.lampPathOnly v
        ∧ (v.lamp x).state = .warmup ∧ (v.lamp x).demand = .full
        ∧ (v.lamp x).timer = some (1000 * s.item 6) ∧ (v.lamp x).called = m.called
        ∧ (v.lamp x).pendingOff = m.pendingOff ∧ (v.lamp x).attempts = m.attempts
        ∧ (v.lamp x).wear = m.wear ∧ (v.lamp x).history = m.history
        ∧ stays v
    else exec (.litSense x) s = .next s)
    ∧ (if m.state = .ignite ∧ m.timer.isSome = true then
        ∃ v, exec (.strikeWindowExpiry x) s = .next v ∧ s.lampPathOnly v
          ∧ (v.lamp x).wear = m.wear ∧ (v.lamp x).attempts = m.attempts
          ∧ (v.lamp x).history.head?.map (·.kind)
            = some (if m.called = true ∧ m.attempts = m.limit then .strikeExhausted else .strikeFail)
          ∧ (if m.called = true ∧ m.attempts = m.limit then
              (v.lamp x).state = .out ∧ (v.lamp x).out = true ∧ (v.lamp x).called = false
                ∧ (v.lamp x).demand = .off
            else if m.called = false ∨ m.out = true ∨ m.expired = true then
              dark v (m.since + m.timer.getD 0)
            else
              (v.lamp x).state = .retryWait ∧ (v.lamp x).called = true ∧ (v.lamp x).demand = .off
                ∧ (v.lamp x).timer = some (10000 * 2 ^ min (m.attempts - 1) m.cap))
          ∧ if m.called = true ∧ (m.attempts = m.limit ∨ m.out = true ∨ m.expired = true) then
              s.afterLeaving x v
            else stays v
      else exec (.strikeWindowExpiry x) s = .next s)
    ∧ (if m.state = .retryWait ∧ m.timer.isSome = true then
        if m.out = true ∨ m.expired = true then
          ∃ v, exec (.retryWaitExpiry x) s = .next v ∧ s.lampPathOnly v
            ∧ dark v (m.since + m.timer.getD 0) ∧ s.afterLeaving x v
        else if m.since + m.timer.getD 0 < 1000 * max (s.item 8) (s.item 7) then
          exec (.retryWaitExpiry x) s
            = .next (s.setLamp x { m with since := m.since + m.timer.getD 0, timer := none })
        else m.faultLine = false → ∃ v, exec (.retryWaitExpiry x) s = .next v ∧ s.lampPathOnly v
          ∧ struck v ∧ stays v
      else exec (.retryWaitExpiry x) s = .next s)
    ∧ (if m.state = .retryWait ∧ m.timer = none then
        if m.out = true ∨ m.expired = true then
          ∃ v, exec (.retryHoldReached x) s = .next v ∧ s.lampPathOnly v
            ∧ dark v (max m.since (1000 * max (s.item 8) (s.item 7))) ∧ s.afterLeaving x v
        else m.faultLine = false → ∃ v, exec (.retryHoldReached x) s = .next v ∧ s.lampPathOnly v
          ∧ struck v ∧ stays v
      else exec (.retryHoldReached x) s = .next s)

/-- R68, R76, R80, R89, R164: a ballast fault. At the first attempt it fails the strike at once; at a later
attempt, and in RETRY_WAIT, it is a double fault and the lamp is OUT; in WARMUP, LIT and DIMMED the lamp is
marked out and extinguished into COOLDOWN with its cooldown timer running; the condition is the newest of the
lamp's history. A called lamp that goes OUT, is marked out, or fails its strike while it is not available,
leaves play, and failover follows by the plan; the power state follows the lamps. In DARK, COOLDOWN, HOT and
OUT the line is all that changes, of the whole state. The line's release changes nothing else either. -/
def Obligations.BallastFaultsActByTheLampsState : Prop :=
  ∀ (s : State) (x : LampId) (m : Lamp), m = s.lamp x →
    let acts := fun p : State → Prop =>
      ∃ v, exec (.ballastFault x) s = .next v ∧ s.lampPathOnly v ∧ (v.lamp x).faultLine = true
        ∧ (v.lamp x).wear = m.wear ∧ (v.lamp x).strikeCount = m.strikeCount ∧ p v
    let leaves := fun (v : State) (left : Bool) =>
      if left = true then s.afterLeaving x v
      else s.powerFollows false v ∧ v.lamp (otherLamp x) = s.lamp (otherLamp x)
    exec (.ballastFaultRelease x) s = .next (s.setLamp x { m with faultLine := false })
    ∧ match m.state with
      | .dark | .cooldown | .hot | .out =>
        exec (.ballastFault x) s = .next (s.setLamp x { m with faultLine := true })
      | .ignite => acts fun v =>
        (v.lamp x).demand = .off
        ∧ leaves v (m.called && (decide (2 ≤ m.attempts ∨ m.attempts = m.limit) || m.out || m.expired))
        ∧ (2 ≤ m.attempts →
          (v.lamp x).state = .out ∧ (v.lamp x).out = true ∧ (v.lamp x).called = false
            ∧ (v.lamp x).pendingOff = false
            ∧ (v.lamp x).history.head?.map (fun r => (r.kind, r.cls)) = some (.double, .double))
        ∧ (m.attempts = 1 →
          if m.called = true ∧ m.limit = 1 then
            (v.lamp x).state = .out ∧ (v.lamp x).called = false
              ∧ ((v.lamp x).history.take 2).map (·.kind) = [.strikeExhausted, .ballastFault]
          else
            (v.lamp x).history.head?.map (fun r => (r.kind, r.cls)) = some (.ballastFault, .retry)
              ∧ if m.called = false ∨ m.out = true ∨ m.expired = true then
                  (v.lamp x).called = false
                    ∧ (v.lamp x).state
                      = if m.since < 1000 * max (s.item 8) (s.item 7) then .hot else .dark
                else
                  (v.lamp x).called = true ∧ (v.lamp x).state = .retryWait
                    ∧ (v.lamp x).timer = some 10000)
      | .retryWait => acts fun v =>
        leaves v true ∧ (v.lamp x).state = .out ∧ (v.lamp x).demand = .off ∧ (v.lamp x).out = true
          ∧ (v.lamp x).called = false ∧ (v.lamp x).timer = none
          ∧ (v.lamp x).history.head?.map (fun r => (r.kind, r.cls)) = some (.double, .double)
      | .warmup | .lit | .dimmed => acts fun v =>
        leaves v m.called ∧ (v.lamp x).state = .cooldown ∧ (v.lamp x).demand = .off ∧ (v.lamp x).out = true
          ∧ (v.lamp x).called = false ∧ (v.lamp x).since = 0
          ∧ (v.lamp x).timer = some (1000 * s.item 7)
          ∧ (v.lamp x).history.head?.map (fun r => (r.kind, r.cls)) = some (.ballastFault, .abort)

/-- R77, R81, R82, R89, R114, R115, R164: the end of a warm-up, of a cooldown and of the restrike hold. A lamp
with its off pending is extinguished at the end of its warm-up; another enters LIT at the level in force, or
DIMMED where the projector is DIMMED and the lamp's wake-late count is below the limit; a weak arc is noted
first. A cooled lamp is OUT if its out flag is set, and else HOT until the restrike hold, and then DARK; a
waiting lamp is struck as it reaches DARK, or leaves play there if it is no longer available. The power state
follows the lamps: STARTING goes to ON with the warm-up that makes every called lamp LIT. Under thermal
recovery the end of the last cooldown is the end of recovery: with the latch clear and the alarm input
released recovery clears with RECOVERED, and STOPPING goes on to STANDBY; else the projector is in SHUTDOWN
with recovery set. THE MODEL'S CHOICES: the cooldown's expiry adds what its timer still had to go to the time
since the lamp's extinguish, and HOLD_REACHED stands for the passing of the hold (assumption 4), an expiry is
honoured whatever the timer has to go (assumption 3), and an event of a lamp in another state, or of a timer
that does not run, changes nothing (assumption 6). -/
def Obligations.WarmUpsCooldownsAndHoldsEnd : Prop :=
  ∀ (s : State) (x : LampId) (m : Lamp), m = s.lamp x →
    let stays := fun (v : State) => s.powerFollows false v ∧ v.lamp (otherLamp x) = s.lamp (otherLamp x)
    let reached := fun (v : State) =>
      if m.waiting = true then
        if m.out = false ∧ m.expired = false then
          m.faultLine = false →
            (v.lamp x).state = .ignite ∧ (v.lamp x).demand = .ignite ∧ (v.lamp x).timer = some 2000
              ∧ (v.lamp x).attempts = m.attempts + 1 ∧ (v.lamp x).waiting = false ∧ v.lastStruck = some x
        else (v.lamp x).state = .dark ∧ (v.lamp x).called = false ∧ (v.lamp x).waiting = false
      else (v.lamp x).state = .dark ∧ (v.lamp x).demand = .off ∧ (v.lamp x).called = m.called
    let follows := fun (v : State) =>
      if m.waiting = true ∧ (m.out = true ∨ m.expired = true) then s.afterLeaving x v
      else (m.waiting = true → m.faultLine = false) → stays v
    (∀ weak : Bool,
      if m.state = .warmup ∧ m.timer.isSome = true then
        ∃ v, exec (.warmupExpiry x weak) s = .next v ∧ s.lampPathOnly v ∧ stays v
          ∧ (v.lamp x).history
            = (if weak = true then
                (({ kind := .arcWeak, cls := .note, lampState := .warmup, wear := m.wear
                    time := s.clock.map (·.now) } : Incident) :: m.history).take 4
              else m.history)
          ∧ if m.pendingOff = true then
              (v.lamp x).state = .cooldown ∧ (v.lamp x).demand = .off ∧ (v.lamp x).called = false
                ∧ (v.lamp x).since = 0 ∧ (v.lamp x).timer = some (1000 * s.item 7)
            else if s.power.state = .dimmed ∧ m.wakeLate < s.item 31 then
              (v.lamp x).state = .dimmed ∧ (v.lamp x).demand = .dim ∧ (v.lamp x).called = m.called
            else
              (v.lamp x).state = .lit ∧ (v.lamp x).called = m.called
                ∧ (v.lamp x).demand = (if s.conf.lampLevel = .full then .full else .eco)
      else exec (.warmupExpiry x weak) s = .next s)
    ∧ (if m.state = .cooldown ∧ m.timer.isSome = true then
        ∃ v, exec (.cooldownExpiry x) s = .next v ∧ s.lampPathOnly v
          ∧ (s.recovery = false →
            if m.out = true ∨ m.since + m.timer.getD 0 < 1000 * max (s.item 8) (s.item 7) then stays v
            else follows v)
          ∧ (s.recovery = true → s.power.state = .standby ∨ s.power.state = .stopping → m.waiting = false →
            v.latch = s.latch
            ∧ if (s.lamp (otherLamp x)).state = .cooldown then
                v.recovery = true ∧ v.power.state = s.power.state
              else if s.latch = true ∨ s.thermalInput = true then
                v.recovery = true ∧ v.fan = true ∧ v.power.state = .shutdown ∧ v.power.intent = false
              else
                v.recovery = false ∧ v.fan = false
                ∧ v.power.state = (if (s.lamp (otherLamp x)).state.busy = true then s.power.state
                  else .standby)
                ∧ ∃ w : State, w.recovery = false
                  ∧ v = (w.offer (.thermal
                    { event := .recovered, input := false, recovery := false, latch := false })).tryStandby)
          ∧ if m.out = true then
              (v.lamp x).state = .out ∧ (v.lamp x).demand = .off ∧ (v.lamp x).timer = none
            else if m.since + m.timer.getD 0 < 1000 * max (s.item 8) (s.item 7) then
              (v.lamp x).state = .hot ∧ (v.lamp x).demand = .off ∧ (v.lamp x).waiting = m.waiting
                ∧ (v.lamp x).called = m.called
            else reached v
      else exec (.cooldownExpiry x) s = .next s)
    ∧ (if m.state = .hot then
        ∃ v, exec (.holdReached x) s = .next v ∧ s.lampPathOnly v ∧ reached v ∧ follows v
      else exec (.holdReached x) s = .next s)

/-- R93, R94, R96, R100, R170: a lit second adds the wear of the lamp's state and level, tests the three
thresholds, each crossing of which becomes the newest record of the lamp's history and is reported, in the
order warning, end of life, expired, and every 600 lit seconds requests a checkpoint; the at-level line stops
the wake timer as it asserts, and a wake timer that runs out is counted and noted as WAKE_LATE. Nothing else
changes. THE MODEL'S CHOICES: LIT_SECOND sets the lit-time fraction to 0 (assumption 5), and an event of a
lamp that is not burning, or of a timer that does not run, changes nothing (assumption 6). -/
def Obligations.LitSecondsWearAndWakeTimersCount : Prop :=
  ∀ (s : State) (x : LampId) (m : Lamp), m = s.lamp x →
    (match m.state with
      | .warmup | .lit | .dimmed =>
        let units := if m.state = .dimmed then 6
          else if m.state = .lit ∧ s.conf.lampLevel = .eco then 9 else 12
        let wear := min (m.wear + units) 4294967295
        let crossing := fun (set : Bool) (threshold : Nat) (kind : IncidentKind) (cls : IncidentClass) =>
          if set = false ∧ threshold ≤ wear then
            [({ kind := kind, cls := cls, lampState := m.state, wear := wear
                time := s.clock.map (·.now) } : Incident)]
          else []
        let crossed := crossing m.warning ((s.item 11 - s.item 12) * 43200) .wearWarn .note
          ++ crossing m.endOfLife (s.item 11 * 43200) .wearEnd .note
          ++ crossing m.expired ((s.item 11 + s.item 13) * 43200) .expired .abort
        ∃ v : State, exec (.litSecond x) s = .next v
          ∧ v = { crossed.foldl (fun u r => u.offer (.incident x r)) (s.setLamp x (v.lamp x)) with
              lampWrite := v.lampWrite, waitingCheckpoint := v.waitingCheckpoint }
          ∧ v.lamp x = { m with
              wear := wear, fraction := 0
              litSeconds := if 600 ≤ m.litSeconds + 1 then 0 else m.litSeconds + 1
              warning := decide ((s.item 11 - s.item 12) * 43200 ≤ wear)
              endOfLife := decide (s.item 11 * 43200 ≤ wear)
              expired := decide ((s.item 11 + s.item 13) * 43200 ≤ wear)
              history := if crossed = [] then m.history else (crossed.reverse ++ m.history).take 4 }
          ∧ (600 ≤ m.litSeconds + 1 →
            v.lampWrite.isSome = true ∧ (s.lampWrite.isSome = true → v.waitingCheckpoint = true))
          ∧ (m.litSeconds + 1 < 600 →
            v.lampWrite = s.lampWrite ∧ v.waitingCheckpoint = s.waitingCheckpoint)
      | .dark | .ignite | .retryWait | .cooldown | .hot | .out => exec (.litSecond x) s = .next s)
    ∧ exec (.atLevel x) s = .next (s.setLamp x { m with atLevelLine := true, wakeTimer := none })
    ∧ exec (.atLevelRelease x) s = .next (s.setLamp x { m with atLevelLine := false })
    ∧ (if m.wakeTimer = none then exec (.wakeTimerExpiry x) s = .next s
      else
        ∃ v, exec (.wakeTimerExpiry x) s = .next v ∧ s.lampsOnly v
          ∧ v.lamp (otherLamp x) = s.lamp (otherLamp x)
          ∧ v.lamp x = { m with
              wakeTimer := none, wakeLate := min (m.wakeLate + 1) 255
              history := (({ kind := .wakeLate, cls := .note, lampState := m.state, wear := m.wear
                             time := s.clock.map (·.now) } : Incident) :: m.history).take 4 })

/-! ## Chapter 6: thermal protection -/

/-- R84, R111, R112, R113, R115, R138: a thermal alarm with recovery clear sets recovery, notes the alarm on
each lamp, ends every call, sends every lamp alight into COOLDOWN, sets the intent OFF, and takes the
projector to STOPPING, or to SHUTDOWN at once where no lamp is left to cool; a switch in flight is dropped
there as at every entry to STOPPING. With recovery set it sets the latch alone. The release of the alarm input
has no effect at the moment it occurs. -/
def Obligations.ThermalAlarmsStopTheLamps : Prop :=
  ∀ s : State,
    exec .thermalInputRelease s = .next { s with thermalInput := false }
    ∧ (s.recovery = true →
      exec .thermalAlarm s
        = .next (({ s with thermalInput := true, latch := true } : State).offer
            (.thermal { event := .latched, input := true, recovery := true, latch := true })))
    ∧ (s.recovery = false →
      ∃ v cooling, exec .thermalAlarm s = .next v
        ∧ ({ s with thermalInput := true } : State).lampPathOnly v
        ∧ v.recovery = true ∧ v.fan = true ∧ v.power.intent = false
        ∧ (cooling = true ↔ ∃ x, (v.lamp x).state = .cooldown)
        ∧ v.power.state = (if cooling = false then .shutdown
            else if s.power.state.running = true then .stopping else s.power.state)
        ∧ (s.power.state.running = true → s.dropsSwitch v)
        ∧ ∀ x,
          (v.lamp x).history
            = (({ kind := .thermal, cls := .note, lampState := (s.lamp x).state, wear := (s.lamp x).wear
                  time := s.clock.map (·.now) } : Incident) :: (s.lamp x).history).take 4
          ∧ match (s.lamp x).state with
            | .ignite | .warmup | .lit | .dimmed =>
              (v.lamp x).state = .cooldown ∧ (v.lamp x).demand = .off ∧ (v.lamp x).called = false
                ∧ (v.lamp x).pendingOff = false ∧ (v.lamp x).since = 0
                ∧ (v.lamp x).timer = some (1000 * s.item 7) ∧ (v.lamp x).wear = (s.lamp x).wear
            | .retryWait =>
              (v.lamp x).called = false ∧ (v.lamp x).timer = none
                ∧ (v.lamp x).state
                  = if (s.lamp x).since < 1000 * max (s.item 8) (s.item 7) then .hot else .dark
            | .cooldown | .hot =>
              (v.lamp x).state = (s.lamp x).state ∧ (v.lamp x).waiting = false
                ∧ (v.lamp x).timer = (s.lamp x).timer ∧ (v.lamp x).since = (s.lamp x).since
                ∧ ((s.lamp x).waiting = true → (v.lamp x).called = false)
            | .dark | .out => (v.lamp x).state = (s.lamp x).state)

/-! ## Chapter 7: signals and switches -/

/-- R120 to R124: what a measurement makes of an input's signal state. While the monitor measures, an input in
ACQUIRING becomes STABLE at the third measurement in a row with the same first matching format entry, and its
run starts again, or ends, where the match changes; a STABLE input goes to ABSENT without sync and to ACQUIRING
where its match is another; ABSENT leaves with sync, UNSUPPORTED with a match. ACQUIRE_TIMEOUT decides for
UNSUPPORTED or ABSENT by the latest sync. No other input changes ever. THE MODEL'S CHOICES (assumption 6): in
STANDBY and SHUTDOWN, where the monitor does not measure, and for a DORMANT input, a MEASUREMENT changes
nothing, and neither does the ACQUIRE_TIMEOUT of a timer that does not run. -/
def Obligations.MeasurementsMoveTheSignalState : Prop :=
  ∀ (s : State) (i : InputId) (r : InputRecord), r = s.input i →
    let gone := fun (v : State) (signal : SignalState) (m : Measure) =>
      v.input i = { r with signal := signal, latest := m, format := none, run := none, acquire := none }
    (∀ (sync : Bool) (width height rate : BitVec 16) (m : Measure) (f : Option (Fin 16)),
      m = (if sync = true then ⟨true, width.toNat, height.toNat, rate.toNat⟩ else ⟨false, 0, 0, 0⟩) →
      f = (if sync = true then (List.finRange 16).find? (fun n =>
          let e := s.conf.formats.get n
          e.enabled && decide (e.width = m.width ∧ e.height = m.height ∧ e.rateMin ≤ m.rate
            ∧ m.rate ≤ e.rateMax))
        else none) →
        let kept := fun (q : InputRecord) =>
          exec (.measurement i sync width height rate) s = .next (s.setInput i { q with latest := m })
        let moved := fun (p : State → Prop) =>
          ∃ v, exec (.measurement i sync width height rate) s = .next v ∧ p v ∧ v.conf = s.conf
            ∧ v.clock = s.clock ∧ ∀ j, j ≠ i → v.input j = s.input j
        let acquiring := fun (v : State) =>
          v.input i = { r with signal := .acquiring, latest := m, format := none
                               run := f.map fun n => (n, 1), acquire := some 4000 }
        if s.power.state = .standby ∨ s.power.state = .shutdown ∨ r.signal = .dormant then
          exec (.measurement i sync width height rate) s = .next s
        else match r.signal with
          | .dormant => True
          | .acquiring =>
            match f with
            | none => kept { r with run := none }
            | some n =>
              if (match r.run with
                | some (g, k) => decide (g = n ∧ 2 ≤ k)
                | none => false) = true then
                moved fun v => v.input i
                  = { r with signal := .stable, latest := m, format := some n, run := none
                             acquire := none }
              else kept { r with run := some (n, match r.run with
                | some (g, k) => if g = n then k + 1 else 1
                | none => 1) }
          | .stable =>
            if sync = false then moved fun v => gone v .absent m
            else if f = r.format then kept r
            else moved acquiring
          | .absent => if sync = true then moved acquiring else kept r
          | .unsupported =>
            if sync = false then moved fun v => gone v .absent m
            else if f.isSome = true then moved acquiring
            else kept r)
    ∧ (if r.signal = .acquiring ∧ r.acquire.isSome = true then
        ∃ v, exec (.acquireTimeout i) s = .next v
          ∧ gone v (if r.latest.sync = true then .unsupported else .absent) r.latest
          ∧ v.conf = s.conf ∧ ∀ j, j ≠ i → v.input j = s.input j
      else exec (.acquireTimeout i) s = .next s)

/-- R132 to R135, R137, R140, R141: how a switch goes on. After BLANK the select lines move to the target and
the settle timer runs; at its end the switch completes where the target is not ACQUIRING, with the target
selected, a hold for its class where that class has a hold time, the picture for the new input at the scaler,
and the pending select started next, or dropped where the new hold stands against it; with the target
ACQUIRING it waits for its signal, and completes in the same way at the target's next change of signal state:
to STABLE at the third matching measurement in a row, or to UNSUPPORTED or ABSENT at the acquire timeout, the
target being another input than the selected one, as every step keeps it. The deferral time drops a pending
select, the source hold ends by its time, and the loss watch is LOST after its grace time; while it is LOST,
auto-switch asks for the STABLE input of the lowest rank that is not 0, and the lowest number of equal ranks.
THE MODEL'S CHOICES: BLANK_END, SETTLE_EXPIRY and DEFERRAL_EXPIRY without their phase or their pending select
change nothing (assumption 6), and an expiry is honoured whatever its timer has to go (assumption 3). -/
def Obligations.SwitchesRunThroughTheirPhases : Prop :=
  let completed := fun (s : State) (w : Switch) (v : State) =>
    s.sourceOnly v ∧ v.sw.selected = w.target
      ∧ v.geo.input = w.target ∧ v.geo.deferred = false ∧ v.scaler = v.geo.update
      ∧ v.sw.hold = (if s.holdTimeMs w.cls = 0 then none
          else some ⟨w.target, w.cls, w.priority, s.holdTimeMs w.cls⟩)
      ∧ v.sw.slot = none
      ∧ v.sw.inFlight = match s.sw.slot with
        | none => none
        | some p =>
          if s.holdTimeMs w.cls ≠ 0 ∧ p.priority < w.priority then none
          else some ⟨p.input, p.cls, p.priority, p.origin, .blank, some 100⟩
  (∀ s : State, exec .blankEnd s = .next (match s.sw.inFlight with
    | none => s
    | some w =>
      if w.phase = .blank then
        { s with sw := { s.sw with
            inFlight := some { w with phase := .settle, timer := some (100 * s.item 14) }
            selectLines := w.target, blankLine := true } }
      else s))
  ∧ (∀ (s : State) (w : Switch), s.sw.inFlight = some w → w.phase = .settle →
      if (s.input w.target).signal = .acquiring then
        ∃ v, exec .settleExpiry s = .next v ∧ v = { s with sw := v.sw }
          ∧ v.sw.inFlight = some { w with phase := .awaitSignal, timer := none }
          ∧ v.sw.selected = s.sw.selected ∧ v.sw.slot = s.sw.slot ∧ v.sw.hold = s.sw.hold
          ∧ v.sw.selectLines = w.target ∧ v.sw.blankLine = true
      else ∃ v, exec .settleExpiry s = .next v ∧ completed s w v)
  ∧ (∀ (s : State) (w : Switch), s.sw.inFlight = some w → w.phase = .awaitSignal →
      w.target ≠ s.sw.selected → (s.input w.target).signal = .acquiring →
        ((s.input w.target).acquire.isSome = true →
          ∃ v, exec (.acquireTimeout w.target) s = .next v ∧ completed s w v
            ∧ (v.input w.target).signal
              = if (s.input w.target).latest.sync = true then .unsupported else .absent)
        ∧ ∀ (width height rate : BitVec 16) (f : Fin 16) (k : Nat),
          s.power.state ≠ .standby → s.power.state ≠ .shutdown →
          (List.finRange 16).find? (fun n =>
              let e := s.conf.formats.get n
              e.enabled && decide (e.width = width.toNat ∧ e.height = height.toNat
                ∧ e.rateMin ≤ rate.toNat ∧ rate.toNat ≤ e.rateMax)) = some f →
          (s.input w.target).run = some (f, k) → 2 ≤ k →
            ∃ v, exec (.measurement w.target true width height rate) s = .next v ∧ completed s w v
              ∧ (v.input w.target).signal = .stable ∧ (v.input w.target).format = some f)
  ∧ (∀ s : State, (∀ w, s.sw.inFlight = some w → w.phase ≠ .settle) → exec .settleExpiry s = .next s)
  ∧ (∀ s : State, exec .deferralExpiry s = .next (match s.sw.slot with
      | none => s
      | some p => (s.putSwitch { s.sw with slot := none }).offer
          (.switchDone
            { input := p.input, outcome := .deferralExpired, cls := p.cls, priority := p.priority
              origin := p.origin, selected := s.sw.selected, signal := (s.input p.input).signal
              format := s.formatIndex p.input })))
  ∧ ∀ (s : State) (c : Instr) (after : SwitchUnit),
      (c = .sourceHoldExpiry ∧ s.sw.hold.isSome = true ∧ after = { s.sw with hold := none }
        ∨ c = .lossGraceExpiry ∧ s.sw.watch = .grace
          ∧ after = { s.sw with watch := .lost, grace := none }) →
        let ranks := fun (j : InputId) => (s.input j).signal = .stable ∧ s.autoRank j ≠ 0
        (after.watch ≠ .lost → exec c s = .next (s.putSwitch after))
        ∧ (after.watch = .lost → (∀ j, ¬ ranks j) → exec c s = .next (s.putSwitch after))
        ∧ ∀ i, after.watch = .lost → ranks i →
          (∀ j, ranks j → s.autoRank i < s.autoRank j ∨ (s.autoRank i = s.autoRank j ∧ i ≤ j)) →
            exec c s = .next ((s.putSwitch after).operate .auto (.selectInput i) none none).2

/-! ## Chapter 9: idle, auto-off and the scan groups -/

/-- R168, R171: at the end of the idle wait the projector dims every lamp in LIT and enters DIMMED, where the
setting allows it and no lamp in LIT has reached its wake-late limit, and is else marked idle-expired; the
auto-off timer starts unless its time is 0. At its end the part asks for power off with class AUTO: a denied
request starts the timer again, a permitted one stops the projector. THE MODEL'S CHOICE (assumption 6): the
expiry of a timer that does not run changes nothing. -/
def Obligations.IdleDimsAndAutoOffStops : Prop :=
  ∀ s : State,
    (if s.power.state = .on ∧ s.power.idle.isSome = true then
      ∃ v dims, exec .idleExpiry s = .next v
        ∧ v = { s with
            control := v.control, lectern := v.lectern, lampA := v.lampA, lampB := v.lampB, fan := v.fan
            power := v.power }
        ∧ (dims = true ↔ s.item 28 ≠ 0
            ∧ ∀ x, (s.lamp x).state = .lit → (s.lamp x).wakeLate < s.item 31)
        ∧ v.power = { s.power with
            state := if dims = true then .dimmed else .on
            idleExpired := if dims = true then s.power.idleExpired else true
            idle := none
            autoOff := if s.item 27 = 0 then none else some (60000 * s.item 27) }
        ∧ ∀ x, if dims = true ∧ (s.lamp x).state = .lit then
            v.lamp x = { s.lamp x with state := .dimmed, demand := .dim, wakeTimer := none }
          else v.lamp x = s.lamp x
    else exec .idleExpiry s = .next s)
    ∧ (s.power.autoOff = none → exec .autoOffExpiry s = .next s)
    ∧ ∀ (e : Verdict) (u : State), s.power.autoOff.isSome = true →
        (e, u) = ({ s with power := { s.power with autoOff := none } } : State).evaluate .auto .powerOff none →
          (e.permit = false →
            exec .autoOffExpiry s = .next { u with power := { u.power with
              autoOff := if s.item 27 = 0 then none else some (60000 * s.item 27) } })
          ∧ (e.permit = true → s.power.state.running = true →
            ∃ v, exec .autoOffExpiry s = .next v
              ∧ (v.power.state = .stopping ∨ v.power.state = .standby)
              ∧ v.power.intent = false ∧ v.power.intentClass = some .auto
              ∧ v.power.intentPriority = e.priority ∧ v.power.autoOff = none ∧ v.conf = s.conf
              ∧ ∀ x, (u.lamp x).called = true → (u.lamp x).state = .lit ∨ (u.lamp x).state = .dimmed →
                  (v.lamp x).called = false ∧ (v.lamp x).state = .cooldown)

/-- R173, R174: at a scan interval in STANDBY the members of the group are sampled in ascending order. A sample
that differs from the input's base by more than its range raises the member's run count, any other empties it;
the second in a row is a trigger, which empties the count, ends the sampling, and where the group's wake is
enabled asks for power on, and then for that input, with class AUTO. The interval starts again. THE MODEL'S
CHOICE (assumption 6): in any other power state, or with no interval running, SCAN_INTERVAL changes nothing. -/
def Obligations.ScanIntervalsSampleAndWake : Prop :=
  ∀ (s : State) (g : GroupId) (samples : Vector (BitVec 16) 8),
    if s.power.state = .standby ∧ (s.scan.get g).interval.isSome = true then
      let far := fun (i : InputId) => s.scanRange i < (samples.get i).toNat - s.scanBase i
        ∨ s.scanRange i < s.scanBase i - (samples.get i).toNat
      let member := fun (i : InputId) => (s.scanMembers g).testBit i.val = true
      let fires := fun (i : InputId) => member i ∧ far i ∧ 1 ≤ (s.scan.get g).runs.get i
      ∃ w : State,
        w = { s with inputs := w.inputs, scan := w.scan }
        ∧ (w.scan.get g).interval = some (s.scanIntervalMs g)
        ∧ (∀ h, h ≠ g → w.scan.get h = s.scan.get h)
        ∧ (∀ i, let seen := member i ∧ ∀ j, j < i → ¬ fires j
            (seen → w.input i = { s.input i with activity := (samples.get i).toNat }
              ∧ (fires i → (w.scan.get g).runs.get i = 0)
              ∧ (far i → ¬ fires i → (w.scan.get g).runs.get i = 1)
              ∧ (¬ far i → (w.scan.get g).runs.get i = 0))
            ∧ (¬ seen → w.input i = s.input i
              ∧ (w.scan.get g).runs.get i = (s.scan.get g).runs.get i))
        ∧ ((∀ i, ¬ fires i) → exec (.scanInterval g samples) s = .next w)
        ∧ ∀ i, fires i → (∀ j, j < i → ¬ fires j) →
            exec (.scanInterval g samples) s = .next (
              if s.scanWake g = true then
                let on := w.operate .auto .powerOn none none
                if on.1.result = .denied then on.2
                else (on.2.operate .auto (.selectInput i) none none).2
              else w)
    else exec (.scanInterval g samples) s = .next s

/-! ## Chapter 10: the clock and the week table -/

/-- R178, R179, R185 to R189: SET_CLOCK sets the clock to a valid date-time, purges the exceptions before its
date, and changes nothing else but, by reconstruction, the lockout level; an invalid one is refused BAD_VALUE.
With the reconstruction on, the level becomes that of the SET_LOCKOUT entry of the week table that fell last at
or before the date-time, the highest index where several fell at that minute, an entry that today's exception
record strikes out not counted on today's minutes; a change is told in a LOCKOUT report of cause
SCHEDULE_RESTORE, and without a candidate, or with the level as it stands, nothing else changes.
MINUTE_START takes a set clock to the next minute, purges at a midnight, and fires the week entries that are
due in ascending index: one whose action stands in today's suppressed set is told SUPPRESSED, a NOTICE tells
its code, and any other is asked for with class SCHEDULE and the entry's priority, and told with its result.
The clock is unset at the end of 2099. THE MODEL'S CHOICES: MINUTE_START is taken from whatever second stands,
at 2099-12-31 23:59 it has no effect, and CLOCK_END acts only there (assumption 5); neither has an effect on an
unset clock (assumption 6); and the entries of one minute fire with nothing between them (assumption 36). -/
def Obligations.TheClockFiresTheWeekTable : Prop :=
  (∀ (s : State) (l : Link) (tag : Byte) (d : DateTime) (p : List Byte) (t : State),
    t.mayManage l →
    p = be16 d.date.year ++ [byte d.date.month, byte d.date.day, byte d.hour, byte d.minute, byte d.second] →
    s.linkTakes l ⟨0x32, tag, p⟩ t →
      (d.valid = true →
        ∃ u : State, exec (.setClock l tag p) s = .next (u.reply l ⟨0xB2, tag, .ok, p⟩)
          ∧ u = { t with
              control := u.control, lectern := u.lectern, level := u.level, clock := some ⟨d, 0⟩
              skip := true
              conf := { t.conf with exceptions :=
                t.conf.exceptions.filter fun e => !e.date.before d.date } }
          ∧ (t.item 39 = 0 → u.level = t.level)
          ∧ (t.item 39 ≠ 0 →
            let plain : State := { t with
              clock := some ⟨d, 0⟩, skip := true
              conf := { t.conf with exceptions :=
                t.conf.exceptions.filter fun e => !e.date.before d.date } }
            ((∀ n back, ¬ u.conf.timetabled d n back) → u = plain)
            ∧ ∀ v, u.conf.restores d v →
              u = if v = t.level then plain
                else ({ plain with level := v } : State).offer
                  (.lockout ⟨.scheduleRestore, v, t.level, 0xFF⟩)))
      ∧ (d.valid = false → d.date.year < 65536 → d.date.month < 256 → d.date.day < 256 → d.hour < 256 →
        d.minute < 256 → d.second < 256 →
          exec (.setClock l tag p) s = .next (t.reply l ⟨0xB2, tag, .badValue, []⟩)))
  ∧ (∀ s : State, s.clock = none → exec .minuteStart s = .next s ∧ exec .clockEnd s = .next s)
  ∧ ∀ (s : State) (c : Clock) (next : DateTime) (begun : State) (due : List (Fin 48)) (struck : BitVec 8),
      s.clock = some c →
      next = c.now.nextMinute →
      begun = { s with
        clock := some ⟨next, 0⟩, skip := false
        conf := { s.conf with exceptions :=
          if next.hour = 0 ∧ next.minute = 0 then
            s.conf.exceptions.filter fun e => !e.date.before next.date
          else s.conf.exceptions } } →
      due = (List.finRange 48).filter (fun n =>
        (s.conf.week.get n).enabled && (s.conf.week.get n).days.getLsbD next.date.weekday
          && decide ((s.conf.week.get n).minute = next.hour * 60 + next.minute)) →
      struck = ((begun.conf.exceptions.find? fun e => decide (e.date = next.date)).map (·.actions)).getD 0 →
        (exec .clockEnd s = .next (if c.now.date = ⟨2099, 12, 31⟩ ∧ c.now.hour = 23 ∧ c.now.minute = 59 then
            { s with clock := none } else s))
        ∧ (exec .minuteStart s
          = .next (if c.now.date = ⟨2099, 12, 31⟩ ∧ c.now.hour = 23 ∧ c.now.minute = 59 then s
            else due.foldl (fun u n =>
              let e := s.conf.week.get n
              let told := fun (w : State) (d : Disposition) (result : Option Result) (deciding : Byte) =>
                w.offer (.scheduleFired
                  { entry := n.val, disposition := d, action := e.action, arg1 := e.arg1, arg2 := e.arg2
                    priority := e.priority, result := result, deciding := deciding
                    minute := next.date.weekday * 1440 + (next.hour * 60 + next.minute) })
              if struck.getLsbD e.action.code then told u .suppressed none 0xFF
              else if e.action = .notice then
                told (u.offer (.notice ⟨e.arg1, n.val,
                  next.date.weekday * 1440 + (next.hour * 60 + next.minute)⟩)) .fired (some .ok) 0xFF
              else match e.operation with
                | none => told u .fired (some .badValue) 0xFF
                | some o =>
                  let done := u.operate .schedule o none (some e.priority)
                  told done.2 .fired (some done.1.result)
                    (if done.1.result = .denied then done.1.payload.headD 0xFF else 0xFF)) begun))

/-! ## The whole machine -/

/-- R14, R102, R103, R115, R117, R118, R191 to R193: what only its owner can undo or write. But for the four
resets: wear and the strike count of a lamp fall only by RESET_LAMP_WEAR; a lamp leaves OUT, the projector
leaves SHUTDOWN and the thermal latch clears only by SERVICE_CLEAR, or RESET_LAMP_WEAR for a lamp in OUT; the
reports-lost flag of a link clears only by READ_STATUS; and the settings record and the lamp record in
non-volatile memory change only at the end of a write. The lamps' counts are within their tops, as every step
keeps them: the saturating counts of R72 and R93 never fall from there. -/
def Obligations.OnlyTheirOwnersUndoOrStore : Prop :=
  ∀ (c : Instr) (s t : State), s.lampsBounded →
    c ∉ [Instr.supplyApplied, .supplyDip, .resetLine, .restartReset] → exec c s = .next t →
      (∀ x, (t.lamp x).wear < (s.lamp x).wear ∨ (t.lamp x).strikeCount < (s.lamp x).strikeCount →
        ∃ l tag p, c = .resetLampWear l tag p)
      ∧ (∀ x, (s.lamp x).state = .out → (t.lamp x).state ≠ .out →
        ∃ l tag p, c = .resetLampWear l tag p ∨ c = .serviceClear l tag p)
      ∧ ((s.power.state = .shutdown ∧ t.power.state ≠ .shutdown ∨ s.latch = true ∧ t.latch = false) →
        ∃ l tag p, c = .serviceClear l tag p)
      ∧ (∀ l, (s.link l).lost = true → (t.link l).lost = false → ∃ tag p, c = .readStatus l tag p)
      ∧ (t.nvSettings ≠ s.nvSettings → c = .settingsWriteEnd)
      ∧ (t.nvLamps ≠ s.nvLamps → c = .lampWriteEnd)

/-! ## Invariants that every step keeps -/

/-- Every invariant below holds of the part right after its reset. -/
def Obligations.InvariantsHoldAtReset : Prop :=
  State.reset.linksSound ∧ State.reset.linesDriven ∧ State.reset.lampsBounded ∧ State.reset.lampsInPlay
    ∧ State.reset.flagsFollowWear ∧ State.reset.pictureSound ∧ State.reset.powerSound
    ∧ State.reset.watchSound ∧ State.reset.tablesInRange ∧ State.reset.protectionSound
    ∧ State.reset.countersWithin

/-- R2 to R4, R8, R11, R12, R192: from every state, every step keeps the links sound: queues within their
places, no idle line while a reply or a report waits, the frame assembler within its frame, and a link waiting
for a COMMIT exactly while a settings write of its own is in flight. -/
def Obligations.EveryStepKeepsTheLinksSound : Prop :=
  ∀ s t : State, s.linksSound → step s = .next t → t.linksSound

/-- R67, R69, R129, R170: from every state, every step keeps the lines driven as the states behind them say:
the demand lines, the fan, the select lines and the blank line. -/
def Obligations.EveryStepKeepsTheLinesDriven : Prop :=
  ∀ s t : State, s.linesDriven → step s = .next t → t.linesDriven

/-- R70 to R83, R93, R94, R96, R100, R101, R107, R170: from every state, every step keeps each lamp's counts
and history within their bounds, its flags and its timer as its state allows, and its three threshold flags as
its wear and the setting items give them. -/
def Obligations.EveryStepKeepsTheLampsSound : Prop :=
  ∀ s t : State, step s = .next t →
    (s.lampsBounded → t.lampsBounded) ∧ (s.lampsInPlay → t.lampsInPlay)
      ∧ (s.flagsFollowWear → t.flagsFollowWear)

/-- R147 to R154: from every state, every step keeps the quad, the picture and the scaler as the geometry
values, the source and the deferral give them. -/
def Obligations.EveryStepKeepsThePictureSound : Prop :=
  ∀ s t : State, s.pictureSound → step s = .next t → t.pictureSound

/-- R52, R84, R111 to R115, R120, R122, R130, R131, R138, R140, R161, R167, R168, R172: from every state, every
step keeps what each power state runs: the monitor, the idle and auto-off timers, the scan groups, the switch
unit, the intent, thermal recovery and the loss watch. No lamp is alight in SHUTDOWN, nor, nor called, while
thermal recovery is active, where the lamps' flags go with their states; and no rule's counter exceeds its
limit, where the rules' limits are of their range. -/
def Obligations.EveryStepKeepsThePowerStatesSound : Prop :=
  ∀ s t : State, step s = .next t →
    (s.powerSound → s.watchSound → t.powerSound ∧ t.watchSound)
      ∧ (s.lampsInPlay → s.powerSound → s.watchSound → s.protectionSound → t.protectionSound)
      ∧ (s.tablesInRange → s.countersWithin → t.countersWithin)

/-- R33, R42, R45, R62, R125, R173, R181, R183, R194, section 8.1: from every state, every step keeps every
table within the ranges that its writes let in, live, in a write in flight and stored: the rates and the aspect
overrides of the formats and the tokens of the enabled cards among them. -/
def Obligations.EveryStepKeepsTheTablesInRange : Prop :=
  ∀ s t : State, s.tablesInRange → step s = .next t → t.tablesInRange
end

