-- ==== Sys2Proof/Laws/State.lean ====
section
/-! SUPPORT. For every plain update of the state, each field that it leaves as it was. -/

namespace Sys2Proof.Machine

variable (s : State)

/-! ### offer -/
@[simp] theorem State.offer_pending (r : Report) : (s.offer r).pending = s.pending := rfl
@[simp] theorem State.offer_restartDue (r : Report) : (s.offer r).restartDue = s.restartDue := rfl
@[simp] theorem State.offer_conf (r : Report) : (s.offer r).conf = s.conf := rfl
@[simp] theorem State.offer_window (r : Report) : (s.offer r).window = s.window := rfl
@[simp] theorem State.offer_keypad (r : Report) : (s.offer r).keypad = s.keypad := rfl
@[simp] theorem State.offer_remote (r : Report) : (s.offer r).remote = s.remote := rfl
@[simp] theorem State.offer_hold (r : Report) : (s.offer r).hold = s.hold := rfl
@[simp] theorem State.offer_level (r : Report) : (s.offer r).level = s.level := rfl
@[simp] theorem State.offer_counters (r : Report) : (s.offer r).counters = s.counters := rfl
@[simp] theorem State.offer_lampA (r : Report) : (s.offer r).lampA = s.lampA := rfl
@[simp] theorem State.offer_lampB (r : Report) : (s.offer r).lampB = s.lampB := rfl
@[simp] theorem State.offer_lastStruck (r : Report) : (s.offer r).lastStruck = s.lastStruck := rfl
@[simp] theorem State.offer_fan (r : Report) : (s.offer r).fan = s.fan := rfl
@[simp] theorem State.offer_recovery (r : Report) : (s.offer r).recovery = s.recovery := rfl
@[simp] theorem State.offer_latch (r : Report) : (s.offer r).latch = s.latch := rfl
@[simp] theorem State.offer_thermalInput (r : Report) : (s.offer r).thermalInput = s.thermalInput := rfl
@[simp] theorem State.offer_inputs (r : Report) : (s.offer r).inputs = s.inputs := rfl
@[simp] theorem State.offer_sw (r : Report) : (s.offer r).sw = s.sw := rfl
@[simp] theorem State.offer_geo (r : Report) : (s.offer r).geo = s.geo := rfl
@[simp] theorem State.offer_scaler (r : Report) : (s.offer r).scaler = s.scaler := rfl
@[simp] theorem State.offer_power (r : Report) : (s.offer r).power = s.power := rfl
@[simp] theorem State.offer_scan (r : Report) : (s.offer r).scan = s.scan := rfl
@[simp] theorem State.offer_clock (r : Report) : (s.offer r).clock = s.clock := rfl
@[simp] theorem State.offer_keptResets (r : Report) : (s.offer r).keptResets = s.keptResets := rfl
@[simp] theorem State.offer_skip (r : Report) : (s.offer r).skip = s.skip := rfl
@[simp] theorem State.offer_settingsWrite (r : Report) : (s.offer r).settingsWrite = s.settingsWrite := rfl
@[simp] theorem State.offer_lampWrite (r : Report) : (s.offer r).lampWrite = s.lampWrite := rfl
@[simp] theorem State.offer_waitingCheckpoint (r : Report) : (s.offer r).waitingCheckpoint = s.waitingCheckpoint := rfl
@[simp] theorem State.offer_nvSettings (r : Report) : (s.offer r).nvSettings = s.nvSettings := rfl
@[simp] theorem State.offer_nvLamps (r : Report) : (s.offer r).nvLamps = s.nvLamps := rfl

/-! ### setLink -/
@[simp] theorem State.setLink_pending (l : Link) (k : LinkState) : (s.setLink l k).pending = s.pending := by cases l <;> rfl
@[simp] theorem State.setLink_restartDue (l : Link) (k : LinkState) : (s.setLink l k).restartDue = s.restartDue := by cases l <;> rfl
@[simp] theorem State.setLink_conf (l : Link) (k : LinkState) : (s.setLink l k).conf = s.conf := by cases l <;> rfl
@[simp] theorem State.setLink_window (l : Link) (k : LinkState) : (s.setLink l k).window = s.window := by cases l <;> rfl
@[simp] theorem State.setLink_keypad (l : Link) (k : LinkState) : (s.setLink l k).keypad = s.keypad := by cases l <;> rfl
@[simp] theorem State.setLink_remote (l : Link) (k : LinkState) : (s.setLink l k).remote = s.remote := by cases l <;> rfl
@[simp] theorem State.setLink_hold (l : Link) (k : LinkState) : (s.setLink l k).hold = s.hold := by cases l <;> rfl
@[simp] theorem State.setLink_level (l : Link) (k : LinkState) : (s.setLink l k).level = s.level := by cases l <;> rfl
@[simp] theorem State.setLink_counters (l : Link) (k : LinkState) : (s.setLink l k).counters = s.counters := by cases l <;> rfl
@[simp] theorem State.setLink_lampA (l : Link) (k : LinkState) : (s.setLink l k).lampA = s.lampA := by cases l <;> rfl
@[simp] theorem State.setLink_lampB (l : Link) (k : LinkState) : (s.setLink l k).lampB = s.lampB := by cases l <;> rfl
@[simp] theorem State.setLink_lastStruck (l : Link) (k : LinkState) : (s.setLink l k).lastStruck = s.lastStruck := by cases l <;> rfl
@[simp] theorem State.setLink_fan (l : Link) (k : LinkState) : (s.setLink l k).fan = s.fan := by cases l <;> rfl
@[simp] theorem State.setLink_recovery (l : Link) (k : LinkState) : (s.setLink l k).recovery = s.recovery := by cases l <;> rfl
@[simp] theorem State.setLink_latch (l : Link) (k : LinkState) : (s.setLink l k).latch = s.latch := by cases l <;> rfl
@[simp] theorem State.setLink_thermalInput (l : Link) (k : LinkState) : (s.setLink l k).thermalInput = s.thermalInput := by cases l <;> rfl
@[simp] theorem State.setLink_inputs (l : Link) (k : LinkState) : (s.setLink l k).inputs = s.inputs := by cases l <;> rfl
@[simp] theorem State.setLink_sw (l : Link) (k : LinkState) : (s.setLink l k).sw = s.sw := by cases l <;> rfl
@[simp] theorem State.setLink_geo (l : Link) (k : LinkState) : (s.setLink l k).geo = s.geo := by cases l <;> rfl
@[simp] theorem State.setLink_scaler (l : Link) (k : LinkState) : (s.setLink l k).scaler = s.scaler := by cases l <;> rfl
@[simp] theorem State.setLink_power (l : Link) (k : LinkState) : (s.setLink l k).power = s.power := by cases l <;> rfl
@[simp] theorem State.setLink_scan (l : Link) (k : LinkState) : (s.setLink l k).scan = s.scan := by cases l <;> rfl
@[simp] theorem State.setLink_clock (l : Link) (k : LinkState) : (s.setLink l k).clock = s.clock := by cases l <;> rfl
@[simp] theorem State.setLink_keptResets (l : Link) (k : LinkState) : (s.setLink l k).keptResets = s.keptResets := by cases l <;> rfl
@[simp] theorem State.setLink_skip (l : Link) (k : LinkState) : (s.setLink l k).skip = s.skip := by cases l <;> rfl
@[simp] theorem State.setLink_settingsWrite (l : Link) (k : LinkState) : (s.setLink l k).settingsWrite = s.settingsWrite := by cases l <;> rfl
@[simp] theorem State.setLink_lampWrite (l : Link) (k : LinkState) : (s.setLink l k).lampWrite = s.lampWrite := by cases l <;> rfl
@[simp] theorem State.setLink_waitingCheckpoint (l : Link) (k : LinkState) : (s.setLink l k).waitingCheckpoint = s.waitingCheckpoint := by cases l <;> rfl
@[simp] theorem State.setLink_nvSettings (l : Link) (k : LinkState) : (s.setLink l k).nvSettings = s.nvSettings := by cases l <;> rfl
@[simp] theorem State.setLink_nvLamps (l : Link) (k : LinkState) : (s.setLink l k).nvLamps = s.nvLamps := by cases l <;> rfl

/-! ### reply -/
@[simp] theorem State.reply_pending (l : Link) (r : Reply) : (s.reply l r).pending = s.pending := by cases l <;> rfl
@[simp] theorem State.reply_restartDue (l : Link) (r : Reply) : (s.reply l r).restartDue = s.restartDue := by cases l <;> rfl
@[simp] theorem State.reply_conf (l : Link) (r : Reply) : (s.reply l r).conf = s.conf := by cases l <;> rfl
@[simp] theorem State.reply_window (l : Link) (r : Reply) : (s.reply l r).window = s.window := by cases l <;> rfl
@[simp] theorem State.reply_keypad (l : Link) (r : Reply) : (s.reply l r).keypad = s.keypad := by cases l <;> rfl
@[simp] theorem State.reply_remote (l : Link) (r : Reply) : (s.reply l r).remote = s.remote := by cases l <;> rfl
@[simp] theorem State.reply_hold (l : Link) (r : Reply) : (s.reply l r).hold = s.hold := by cases l <;> rfl
@[simp] theorem State.reply_level (l : Link) (r : Reply) : (s.reply l r).level = s.level := by cases l <;> rfl
@[simp] theorem State.reply_counters (l : Link) (r : Reply) : (s.reply l r).counters = s.counters := by cases l <;> rfl
@[simp] theorem State.reply_lampA (l : Link) (r : Reply) : (s.reply l r).lampA = s.lampA := by cases l <;> rfl
@[simp] theorem State.reply_lampB (l : Link) (r : Reply) : (s.reply l r).lampB = s.lampB := by cases l <;> rfl
@[simp] theorem State.reply_lastStruck (l : Link) (r : Reply) : (s.reply l r).lastStruck = s.lastStruck := by cases l <;> rfl
@[simp] theorem State.reply_fan (l : Link) (r : Reply) : (s.reply l r).fan = s.fan := by cases l <;> rfl
@[simp] theorem State.reply_recovery (l : Link) (r : Reply) : (s.reply l r).recovery = s.recovery := by cases l <;> rfl
@[simp] theorem State.reply_latch (l : Link) (r : Reply) : (s.reply l r).latch = s.latch := by cases l <;> rfl
@[simp] theorem State.reply_thermalInput (l : Link) (r : Reply) : (s.reply l r).thermalInput = s.thermalInput := by cases l <;> rfl
@[simp] theorem State.reply_inputs (l : Link) (r : Reply) : (s.reply l r).inputs = s.inputs := by cases l <;> rfl
@[simp] theorem State.reply_sw (l : Link) (r : Reply) : (s.reply l r).sw = s.sw := by cases l <;> rfl
@[simp] theorem State.reply_geo (l : Link) (r : Reply) : (s.reply l r).geo = s.geo := by cases l <;> rfl
@[simp] theorem State.reply_scaler (l : Link) (r : Reply) : (s.reply l r).scaler = s.scaler := by cases l <;> rfl
@[simp] theorem State.reply_power (l : Link) (r : Reply) : (s.reply l r).power = s.power := by cases l <;> rfl
@[simp] theorem State.reply_scan (l : Link) (r : Reply) : (s.reply l r).scan = s.scan := by cases l <;> rfl
@[simp] theorem State.reply_clock (l : Link) (r : Reply) : (s.reply l r).clock = s.clock := by cases l <;> rfl
@[simp] theorem State.reply_keptResets (l : Link) (r : Reply) : (s.reply l r).keptResets = s.keptResets := by cases l <;> rfl
@[simp] theorem State.reply_skip (l : Link) (r : Reply) : (s.reply l r).skip = s.skip := by cases l <;> rfl
@[simp] theorem State.reply_settingsWrite (l : Link) (r : Reply) : (s.reply l r).settingsWrite = s.settingsWrite := by cases l <;> rfl
@[simp] theorem State.reply_lampWrite (l : Link) (r : Reply) : (s.reply l r).lampWrite = s.lampWrite := by cases l <;> rfl
@[simp] theorem State.reply_waitingCheckpoint (l : Link) (r : Reply) : (s.reply l r).waitingCheckpoint = s.waitingCheckpoint := by cases l <;> rfl
@[simp] theorem State.reply_nvSettings (l : Link) (r : Reply) : (s.reply l r).nvSettings = s.nvSettings := by cases l <;> rfl
@[simp] theorem State.reply_nvLamps (l : Link) (r : Reply) : (s.reply l r).nvLamps = s.nvLamps := by cases l <;> rfl

/-! ### setLamp -/
@[simp] theorem State.setLamp_pending (x : LampId) (m : Lamp) : (s.setLamp x m).pending = s.pending := by cases x <;> rfl
@[simp] theorem State.setLamp_control (x : LampId) (m : Lamp) : (s.setLamp x m).control = s.control := by cases x <;> rfl
@[simp] theorem State.setLamp_lectern (x : LampId) (m : Lamp) : (s.setLamp x m).lectern = s.lectern := by cases x <;> rfl
@[simp] theorem State.setLamp_restartDue (x : LampId) (m : Lamp) : (s.setLamp x m).restartDue = s.restartDue := by cases x <;> rfl
@[simp] theorem State.setLamp_conf (x : LampId) (m : Lamp) : (s.setLamp x m).conf = s.conf := by cases x <;> rfl
@[simp] theorem State.setLamp_window (x : LampId) (m : Lamp) : (s.setLamp x m).window = s.window := by cases x <;> rfl
@[simp] theorem State.setLamp_keypad (x : LampId) (m : Lamp) : (s.setLamp x m).keypad = s.keypad := by cases x <;> rfl
@[simp] theorem State.setLamp_remote (x : LampId) (m : Lamp) : (s.setLamp x m).remote = s.remote := by cases x <;> rfl
@[simp] theorem State.setLamp_hold (x : LampId) (m : Lamp) : (s.setLamp x m).hold = s.hold := by cases x <;> rfl
@[simp] theorem State.setLamp_level (x : LampId) (m : Lamp) : (s.setLamp x m).level = s.level := by cases x <;> rfl
@[simp] theorem State.setLamp_counters (x : LampId) (m : Lamp) : (s.setLamp x m).counters = s.counters := by cases x <;> rfl
@[simp] theorem State.setLamp_lastStruck (x : LampId) (m : Lamp) : (s.setLamp x m).lastStruck = s.lastStruck := by cases x <;> rfl
@[simp] theorem State.setLamp_fan (x : LampId) (m : Lamp) : (s.setLamp x m).fan = s.fan := by cases x <;> rfl
@[simp] theorem State.setLamp_recovery (x : LampId) (m : Lamp) : (s.setLamp x m).recovery = s.recovery := by cases x <;> rfl
@[simp] theorem State.setLamp_latch (x : LampId) (m : Lamp) : (s.setLamp x m).latch = s.latch := by cases x <;> rfl
@[simp] theorem State.setLamp_thermalInput (x : LampId) (m : Lamp) : (s.setLamp x m).thermalInput = s.thermalInput := by cases x <;> rfl
@[simp] theorem State.setLamp_inputs (x : LampId) (m : Lamp) : (s.setLamp x m).inputs = s.inputs := by cases x <;> rfl
@[simp] theorem State.setLamp_sw (x : LampId) (m : Lamp) : (s.setLamp x m).sw = s.sw := by cases x <;> rfl
@[simp] theorem State.setLamp_geo (x : LampId) (m : Lamp) : (s.setLamp x m).geo = s.geo := by cases x <;> rfl
@[simp] theorem State.setLamp_scaler (x : LampId) (m : Lamp) : (s.setLamp x m).scaler = s.scaler := by cases x <;> rfl
@[simp] theorem State.setLamp_power (x : LampId) (m : Lamp) : (s.setLamp x m).power = s.power := by cases x <;> rfl
@[simp] theorem State.setLamp_scan (x : LampId) (m : Lamp) : (s.setLamp x m).scan = s.scan := by cases x <;> rfl
@[simp] theorem State.setLamp_clock (x : LampId) (m : Lamp) : (s.setLamp x m).clock = s.clock := by cases x <;> rfl
@[simp] theorem State.setLamp_keptResets (x : LampId) (m : Lamp) : (s.setLamp x m).keptResets = s.keptResets := by cases x <;> rfl
@[simp] theorem State.setLamp_skip (x : LampId) (m : Lamp) : (s.setLamp x m).skip = s.skip := by cases x <;> rfl
@[simp] theorem State.setLamp_settingsWrite (x : LampId) (m : Lamp) : (s.setLamp x m).settingsWrite = s.settingsWrite := by cases x <;> rfl
@[simp] theorem State.setLamp_lampWrite (x : LampId) (m : Lamp) : (s.setLamp x m).lampWrite = s.lampWrite := by cases x <;> rfl
@[simp] theorem State.setLamp_waitingCheckpoint (x : LampId) (m : Lamp) : (s.setLamp x m).waitingCheckpoint = s.waitingCheckpoint := by cases x <;> rfl
@[simp] theorem State.setLamp_nvSettings (x : LampId) (m : Lamp) : (s.setLamp x m).nvSettings = s.nvSettings := by cases x <;> rfl
@[simp] theorem State.setLamp_nvLamps (x : LampId) (m : Lamp) : (s.setLamp x m).nvLamps = s.nvLamps := by cases x <;> rfl

/-! ### driveFan -/
@[simp] theorem State.driveFan_pending : (s.driveFan).pending = s.pending := rfl
@[simp] theorem State.driveFan_control : (s.driveFan).control = s.control := rfl
@[simp] theorem State.driveFan_lectern : (s.driveFan).lectern = s.lectern := rfl
@[simp] theorem State.driveFan_restartDue : (s.driveFan).restartDue = s.restartDue := rfl
@[simp] theorem State.driveFan_conf : (s.driveFan).conf = s.conf := rfl
@[simp] theorem State.driveFan_window : (s.driveFan).window = s.window := rfl
@[simp] theorem State.driveFan_keypad : (s.driveFan).keypad = s.keypad := rfl
@[simp] theorem State.driveFan_remote : (s.driveFan).remote = s.remote := rfl
@[simp] theorem State.driveFan_hold : (s.driveFan).hold = s.hold := rfl
@[simp] theorem State.driveFan_level : (s.driveFan).level = s.level := rfl
@[simp] theorem State.driveFan_counters : (s.driveFan).counters = s.counters := rfl
@[simp] theorem State.driveFan_lampA : (s.driveFan).lampA = s.lampA := rfl
@[simp] theorem State.driveFan_lampB : (s.driveFan).lampB = s.lampB := rfl
@[simp] theorem State.driveFan_lastStruck : (s.driveFan).lastStruck = s.lastStruck := rfl
@[simp] theorem State.driveFan_recovery : (s.driveFan).recovery = s.recovery := rfl
@[simp] theorem State.driveFan_latch : (s.driveFan).latch = s.latch := rfl
@[simp] theorem State.driveFan_thermalInput : (s.driveFan).thermalInput = s.thermalInput := rfl
@[simp] theorem State.driveFan_inputs : (s.driveFan).inputs = s.inputs := rfl
@[simp] theorem State.driveFan_sw : (s.driveFan).sw = s.sw := rfl
@[simp] theorem State.driveFan_geo : (s.driveFan).geo = s.geo := rfl
@[simp] theorem State.driveFan_scaler : (s.driveFan).scaler = s.scaler := rfl
@[simp] theorem State.driveFan_power : (s.driveFan).power = s.power := rfl
@[simp] theorem State.driveFan_scan : (s.driveFan).scan = s.scan := rfl
@[simp] theorem State.driveFan_clock : (s.driveFan).clock = s.clock := rfl
@[simp] theorem State.driveFan_keptResets : (s.driveFan).keptResets = s.keptResets := rfl
@[simp] theorem State.driveFan_skip : (s.driveFan).skip = s.skip := rfl
@[simp] theorem State.driveFan_settingsWrite : (s.driveFan).settingsWrite = s.settingsWrite := rfl
@[simp] theorem State.driveFan_lampWrite : (s.driveFan).lampWrite = s.lampWrite := rfl
@[simp] theorem State.driveFan_waitingCheckpoint : (s.driveFan).waitingCheckpoint = s.waitingCheckpoint := rfl
@[simp] theorem State.driveFan_nvSettings : (s.driveFan).nvSettings = s.nvSettings := rfl
@[simp] theorem State.driveFan_nvLamps : (s.driveFan).nvLamps = s.nvLamps := rfl

/-! ### putLamp -/
@[simp] theorem State.putLamp_pending (x : LampId) (m : Lamp) : (s.putLamp x m).pending = s.pending := by cases x <;> rfl
@[simp] theorem State.putLamp_control (x : LampId) (m : Lamp) : (s.putLamp x m).control = s.control := by cases x <;> rfl
@[simp] theorem State.putLamp_lectern (x : LampId) (m : Lamp) : (s.putLamp x m).lectern = s.lectern := by cases x <;> rfl
@[simp] theorem State.putLamp_restartDue (x : LampId) (m : Lamp) : (s.putLamp x m).restartDue = s.restartDue := by cases x <;> rfl
@[simp] theorem State.putLamp_conf (x : LampId) (m : Lamp) : (s.putLamp x m).conf = s.conf := by cases x <;> rfl
@[simp] theorem State.putLamp_window (x : LampId) (m : Lamp) : (s.putLamp x m).window = s.window := by cases x <;> rfl
@[simp] theorem State.putLamp_keypad (x : LampId) (m : Lamp) : (s.putLamp x m).keypad = s.keypad := by cases x <;> rfl
@[simp] theorem State.putLamp_remote (x : LampId) (m : Lamp) : (s.putLamp x m).remote = s.remote := by cases x <;> rfl
@[simp] theorem State.putLamp_hold (x : LampId) (m : Lamp) : (s.putLamp x m).hold = s.hold := by cases x <;> rfl
@[simp] theorem State.putLamp_level (x : LampId) (m : Lamp) : (s.putLamp x m).level = s.level := by cases x <;> rfl
@[simp] theorem State.putLamp_counters (x : LampId) (m : Lamp) : (s.putLamp x m).counters = s.counters := by cases x <;> rfl
@[simp] theorem State.putLamp_lastStruck (x : LampId) (m : Lamp) : (s.putLamp x m).lastStruck = s.lastStruck := by cases x <;> rfl
@[simp] theorem State.putLamp_recovery (x : LampId) (m : Lamp) : (s.putLamp x m).recovery = s.recovery := by cases x <;> rfl
@[simp] theorem State.putLamp_latch (x : LampId) (m : Lamp) : (s.putLamp x m).latch = s.latch := by cases x <;> rfl
@[simp] theorem State.putLamp_thermalInput (x : LampId) (m : Lamp) : (s.putLamp x m).thermalInput = s.thermalInput := by cases x <;> rfl
@[simp] theorem State.putLamp_inputs (x : LampId) (m : Lamp) : (s.putLamp x m).inputs = s.inputs := by cases x <;> rfl
@[simp] theorem State.putLamp_sw (x : LampId) (m : Lamp) : (s.putLamp x m).sw = s.sw := by cases x <;> rfl
@[simp] theorem State.putLamp_geo (x : LampId) (m : Lamp) : (s.putLamp x m).geo = s.geo := by cases x <;> rfl
@[simp] theorem State.putLamp_scaler (x : LampId) (m : Lamp) : (s.putLamp x m).scaler = s.scaler := by cases x <;> rfl
@[simp] theorem State.putLamp_power (x : LampId) (m : Lamp) : (s.putLamp x m).power = s.power := by cases x <;> rfl
@[simp] theorem State.putLamp_scan (x : LampId) (m : Lamp) : (s.putLamp x m).scan = s.scan := by cases x <;> rfl
@[simp] theorem State.putLamp_clock (x : LampId) (m : Lamp) : (s.putLamp x m).clock = s.clock := by cases x <;> rfl
@[simp] theorem State.putLamp_keptResets (x : LampId) (m : Lamp) : (s.putLamp x m).keptResets = s.keptResets := by cases x <;> rfl
@[simp] theorem State.putLamp_skip (x : LampId) (m : Lamp) : (s.putLamp x m).skip = s.skip := by cases x <;> rfl
@[simp] theorem State.putLamp_settingsWrite (x : LampId) (m : Lamp) : (s.putLamp x m).settingsWrite = s.settingsWrite := by cases x <;> rfl
@[simp] theorem State.putLamp_lampWrite (x : LampId) (m : Lamp) : (s.putLamp x m).lampWrite = s.lampWrite := by cases x <;> rfl
@[simp] theorem State.putLamp_waitingCheckpoint (x : LampId) (m : Lamp) : (s.putLamp x m).waitingCheckpoint = s.waitingCheckpoint := by cases x <;> rfl
@[simp] theorem State.putLamp_nvSettings (x : LampId) (m : Lamp) : (s.putLamp x m).nvSettings = s.nvSettings := by cases x <;> rfl
@[simp] theorem State.putLamp_nvLamps (x : LampId) (m : Lamp) : (s.putLamp x m).nvLamps = s.nvLamps := by cases x <;> rfl

/-! ### setRecovery -/
@[simp] theorem State.setRecovery_pending (b : Bool) : (s.setRecovery b).pending = s.pending := rfl
@[simp] theorem State.setRecovery_control (b : Bool) : (s.setRecovery b).control = s.control := rfl
@[simp] theorem State.setRecovery_lectern (b : Bool) : (s.setRecovery b).lectern = s.lectern := rfl
@[simp] theorem State.setRecovery_restartDue (b : Bool) : (s.setRecovery b).restartDue = s.restartDue := rfl
@[simp] theorem State.setRecovery_conf (b : Bool) : (s.setRecovery b).conf = s.conf := rfl
@[simp] theorem State.setRecovery_window (b : Bool) : (s.setRecovery b).window = s.window := rfl
@[simp] theorem State.setRecovery_keypad (b : Bool) : (s.setRecovery b).keypad = s.keypad := rfl
@[simp] theorem State.setRecovery_remote (b : Bool) : (s.setRecovery b).remote = s.remote := rfl
@[simp] theorem State.setRecovery_hold (b : Bool) : (s.setRecovery b).hold = s.hold := rfl
@[simp] theorem State.setRecovery_level (b : Bool) : (s.setRecovery b).level = s.level := rfl
@[simp] theorem State.setRecovery_counters (b : Bool) : (s.setRecovery b).counters = s.counters := rfl
@[simp] theorem State.setRecovery_lampA (b : Bool) : (s.setRecovery b).lampA = s.lampA := rfl
@[simp] theorem State.setRecovery_lampB (b : Bool) : (s.setRecovery b).lampB = s.lampB := rfl
@[simp] theorem State.setRecovery_lastStruck (b : Bool) : (s.setRecovery b).lastStruck = s.lastStruck := rfl
@[simp] theorem State.setRecovery_latch (b : Bool) : (s.setRecovery b).latch = s.latch := rfl
@[simp] theorem State.setRecovery_thermalInput (b : Bool) : (s.setRecovery b).thermalInput = s.thermalInput := rfl
@[simp] theorem State.setRecovery_inputs (b : Bool) : (s.setRecovery b).inputs = s.inputs := rfl
@[simp] theorem State.setRecovery_sw (b : Bool) : (s.setRecovery b).sw = s.sw := rfl
@[simp] theorem State.setRecovery_geo (b : Bool) : (s.setRecovery b).geo = s.geo := rfl
@[simp] theorem State.setRecovery_scaler (b : Bool) : (s.setRecovery b).scaler = s.scaler := rfl
@[simp] theorem State.setRecovery_power (b : Bool) : (s.setRecovery b).power = s.power := rfl
@[simp] theorem State.setRecovery_scan (b : Bool) : (s.setRecovery b).scan = s.scan := rfl
@[simp] theorem State.setRecovery_clock (b : Bool) : (s.setRecovery b).clock = s.clock := rfl
@[simp] theorem State.setRecovery_keptResets (b : Bool) : (s.setRecovery b).keptResets = s.keptResets := rfl
@[simp] theorem State.setRecovery_skip (b : Bool) : (s.setRecovery b).skip = s.skip := rfl
@[simp] theorem State.setRecovery_settingsWrite (b : Bool) : (s.setRecovery b).settingsWrite = s.settingsWrite := rfl
@[simp] theorem State.setRecovery_lampWrite (b : Bool) : (s.setRecovery b).lampWrite = s.lampWrite := rfl
@[simp] theorem State.setRecovery_waitingCheckpoint (b : Bool) : (s.setRecovery b).waitingCheckpoint = s.waitingCheckpoint := rfl
@[simp] theorem State.setRecovery_nvSettings (b : Bool) : (s.setRecovery b).nvSettings = s.nvSettings := rfl
@[simp] theorem State.setRecovery_nvLamps (b : Bool) : (s.setRecovery b).nvLamps = s.nvLamps := rfl

/-! ### putSwitch -/
@[simp] theorem State.putSwitch_pending (u : SwitchUnit) : (s.putSwitch u).pending = s.pending := rfl
@[simp] theorem State.putSwitch_control (u : SwitchUnit) : (s.putSwitch u).control = s.control := rfl
@[simp] theorem State.putSwitch_lectern (u : SwitchUnit) : (s.putSwitch u).lectern = s.lectern := rfl
@[simp] theorem State.putSwitch_restartDue (u : SwitchUnit) : (s.putSwitch u).restartDue = s.restartDue := rfl
@[simp] theorem State.putSwitch_conf (u : SwitchUnit) : (s.putSwitch u).conf = s.conf := rfl
@[simp] theorem State.putSwitch_window (u : SwitchUnit) : (s.putSwitch u).window = s.window := rfl
@[simp] theorem State.putSwitch_keypad (u : SwitchUnit) : (s.putSwitch u).keypad = s.keypad := rfl
@[simp] theorem State.putSwitch_remote (u : SwitchUnit) : (s.putSwitch u).remote = s.remote := rfl
@[simp] theorem State.putSwitch_hold (u : SwitchUnit) : (s.putSwitch u).hold = s.hold := rfl
@[simp] theorem State.putSwitch_level (u : SwitchUnit) : (s.putSwitch u).level = s.level := rfl
@[simp] theorem State.putSwitch_counters (u : SwitchUnit) : (s.putSwitch u).counters = s.counters := rfl
@[simp] theorem State.putSwitch_lampA (u : SwitchUnit) : (s.putSwitch u).lampA = s.lampA := rfl
@[simp] theorem State.putSwitch_lampB (u : SwitchUnit) : (s.putSwitch u).lampB = s.lampB := rfl
@[simp] theorem State.putSwitch_lastStruck (u : SwitchUnit) : (s.putSwitch u).lastStruck = s.lastStruck := rfl
@[simp] theorem State.putSwitch_fan (u : SwitchUnit) : (s.putSwitch u).fan = s.fan := rfl
@[simp] theorem State.putSwitch_recovery (u : SwitchUnit) : (s.putSwitch u).recovery = s.recovery := rfl
@[simp] theorem State.putSwitch_latch (u : SwitchUnit) : (s.putSwitch u).latch = s.latch := rfl
@[simp] theorem State.putSwitch_thermalInput (u : SwitchUnit) : (s.putSwitch u).thermalInput = s.thermalInput := rfl
@[simp] theorem State.putSwitch_inputs (u : SwitchUnit) : (s.putSwitch u).inputs = s.inputs := rfl
@[simp] theorem State.putSwitch_geo (u : SwitchUnit) : (s.putSwitch u).geo = s.geo := rfl
@[simp] theorem State.putSwitch_scaler (u : SwitchUnit) : (s.putSwitch u).scaler = s.scaler := rfl
@[simp] theorem State.putSwitch_power (u : SwitchUnit) : (s.putSwitch u).power = s.power := rfl
@[simp] theorem State.putSwitch_scan (u : SwitchUnit) : (s.putSwitch u).scan = s.scan := rfl
@[simp] theorem State.putSwitch_clock (u : SwitchUnit) : (s.putSwitch u).clock = s.clock := rfl
@[simp] theorem State.putSwitch_keptResets (u : SwitchUnit) : (s.putSwitch u).keptResets = s.keptResets := rfl
@[simp] theorem State.putSwitch_skip (u : SwitchUnit) : (s.putSwitch u).skip = s.skip := rfl
@[simp] theorem State.putSwitch_settingsWrite (u : SwitchUnit) : (s.putSwitch u).settingsWrite = s.settingsWrite := rfl
@[simp] theorem State.putSwitch_lampWrite (u : SwitchUnit) : (s.putSwitch u).lampWrite = s.lampWrite := rfl
@[simp] theorem State.putSwitch_waitingCheckpoint (u : SwitchUnit) : (s.putSwitch u).waitingCheckpoint = s.waitingCheckpoint := rfl
@[simp] theorem State.putSwitch_nvSettings (u : SwitchUnit) : (s.putSwitch u).nvSettings = s.nvSettings := rfl
@[simp] theorem State.putSwitch_nvLamps (u : SwitchUnit) : (s.putSwitch u).nvLamps = s.nvLamps := rfl

/-! ### setInput -/
@[simp] theorem State.setInput_pending (i : InputId) (r : InputRecord) : (s.setInput i r).pending = s.pending := rfl
@[simp] theorem State.setInput_control (i : InputId) (r : InputRecord) : (s.setInput i r).control = s.control := rfl
@[simp] theorem State.setInput_lectern (i : InputId) (r : InputRecord) : (s.setInput i r).lectern = s.lectern := rfl
@[simp] theorem State.setInput_restartDue (i : InputId) (r : InputRecord) : (s.setInput i r).restartDue = s.restartDue := rfl
@[simp] theorem State.setInput_conf (i : InputId) (r : InputRecord) : (s.setInput i r).conf = s.conf := rfl
@[simp] theorem State.setInput_window (i : InputId) (r : InputRecord) : (s.setInput i r).window = s.window := rfl
@[simp] theorem State.setInput_keypad (i : InputId) (r : InputRecord) : (s.setInput i r).keypad = s.keypad := rfl
@[simp] theorem State.setInput_remote (i : InputId) (r : InputRecord) : (s.setInput i r).remote = s.remote := rfl
@[simp] theorem State.setInput_hold (i : InputId) (r : InputRecord) : (s.setInput i r).hold = s.hold := rfl
@[simp] theorem State.setInput_level (i : InputId) (r : InputRecord) : (s.setInput i r).level = s.level := rfl
@[simp] theorem State.setInput_counters (i : InputId) (r : InputRecord) : (s.setInput i r).counters = s.counters := rfl
@[simp] theorem State.setInput_lampA (i : InputId) (r : InputRecord) : (s.setInput i r).lampA = s.lampA := rfl
@[simp] theorem State.setInput_lampB (i : InputId) (r : InputRecord) : (s.setInput i r).lampB = s.lampB := rfl
@[simp] theorem State.setInput_lastStruck (i : InputId) (r : InputRecord) : (s.setInput i r).lastStruck = s.lastStruck := rfl
@[simp] theorem State.setInput_fan (i : InputId) (r : InputRecord) : (s.setInput i r).fan = s.fan := rfl
@[simp] theorem State.setInput_recovery (i : InputId) (r : InputRecord) : (s.setInput i r).recovery = s.recovery := rfl
@[simp] theorem State.setInput_latch (i : InputId) (r : InputRecord) : (s.setInput i r).latch = s.latch := rfl
@[simp] theorem State.setInput_thermalInput (i : InputId) (r : InputRecord) : (s.setInput i r).thermalInput = s.thermalInput := rfl
@[simp] theorem State.setInput_sw (i : InputId) (r : InputRecord) : (s.setInput i r).sw = s.sw := rfl
@[simp] theorem State.setInput_geo (i : InputId) (r : InputRecord) : (s.setInput i r).geo = s.geo := rfl
@[simp] theorem State.setInput_scaler (i : InputId) (r : InputRecord) : (s.setInput i r).scaler = s.scaler := rfl
@[simp] theorem State.setInput_power (i : InputId) (r : InputRecord) : (s.setInput i r).power = s.power := rfl
@[simp] theorem State.setInput_scan (i : InputId) (r : InputRecord) : (s.setInput i r).scan = s.scan := rfl
@[simp] theorem State.setInput_clock (i : InputId) (r : InputRecord) : (s.setInput i r).clock = s.clock := rfl
@[simp] theorem State.setInput_keptResets (i : InputId) (r : InputRecord) : (s.setInput i r).keptResets = s.keptResets := rfl
@[simp] theorem State.setInput_skip (i : InputId) (r : InputRecord) : (s.setInput i r).skip = s.skip := rfl
@[simp] theorem State.setInput_settingsWrite (i : InputId) (r : InputRecord) : (s.setInput i r).settingsWrite = s.settingsWrite := rfl
@[simp] theorem State.setInput_lampWrite (i : InputId) (r : InputRecord) : (s.setInput i r).lampWrite = s.lampWrite := rfl
@[simp] theorem State.setInput_waitingCheckpoint (i : InputId) (r : InputRecord) : (s.setInput i r).waitingCheckpoint = s.waitingCheckpoint := rfl
@[simp] theorem State.setInput_nvSettings (i : InputId) (r : InputRecord) : (s.setInput i r).nvSettings = s.nvSettings := rfl
@[simp] theorem State.setInput_nvLamps (i : InputId) (r : InputRecord) : (s.setInput i r).nvLamps = s.nvLamps := rfl

/-! ### setPower -/
@[simp] theorem State.setPower_pending (p : PowerUnit) : (s.setPower p).pending = s.pending := rfl
@[simp] theorem State.setPower_control (p : PowerUnit) : (s.setPower p).control = s.control := rfl
@[simp] theorem State.setPower_lectern (p : PowerUnit) : (s.setPower p).lectern = s.lectern := rfl
@[simp] theorem State.setPower_restartDue (p : PowerUnit) : (s.setPower p).restartDue = s.restartDue := rfl
@[simp] theorem State.setPower_conf (p : PowerUnit) : (s.setPower p).conf = s.conf := rfl
@[simp] theorem State.setPower_window (p : PowerUnit) : (s.setPower p).window = s.window := rfl
@[simp] theorem State.setPower_keypad (p : PowerUnit) : (s.setPower p).keypad = s.keypad := rfl
@[simp] theorem State.setPower_remote (p : PowerUnit) : (s.setPower p).remote = s.remote := rfl
@[simp] theorem State.setPower_hold (p : PowerUnit) : (s.setPower p).hold = s.hold := rfl
@[simp] theorem State.setPower_level (p : PowerUnit) : (s.setPower p).level = s.level := rfl
@[simp] theorem State.setPower_counters (p : PowerUnit) : (s.setPower p).counters = s.counters := rfl
@[simp] theorem State.setPower_lampA (p : PowerUnit) : (s.setPower p).lampA = s.lampA := rfl
@[simp] theorem State.setPower_lampB (p : PowerUnit) : (s.setPower p).lampB = s.lampB := rfl
@[simp] theorem State.setPower_lastStruck (p : PowerUnit) : (s.setPower p).lastStruck = s.lastStruck := rfl
@[simp] theorem State.setPower_fan (p : PowerUnit) : (s.setPower p).fan = s.fan := rfl
@[simp] theorem State.setPower_recovery (p : PowerUnit) : (s.setPower p).recovery = s.recovery := rfl
@[simp] theorem State.setPower_latch (p : PowerUnit) : (s.setPower p).latch = s.latch := rfl
@[simp] theorem State.setPower_thermalInput (p : PowerUnit) : (s.setPower p).thermalInput = s.thermalInput := rfl
@[simp] theorem State.setPower_inputs (p : PowerUnit) : (s.setPower p).inputs = s.inputs := rfl
@[simp] theorem State.setPower_sw (p : PowerUnit) : (s.setPower p).sw = s.sw := rfl
@[simp] theorem State.setPower_geo (p : PowerUnit) : (s.setPower p).geo = s.geo := rfl
@[simp] theorem State.setPower_scaler (p : PowerUnit) : (s.setPower p).scaler = s.scaler := rfl
@[simp] theorem State.setPower_scan (p : PowerUnit) : (s.setPower p).scan = s.scan := rfl
@[simp] theorem State.setPower_clock (p : PowerUnit) : (s.setPower p).clock = s.clock := rfl
@[simp] theorem State.setPower_keptResets (p : PowerUnit) : (s.setPower p).keptResets = s.keptResets := rfl
@[simp] theorem State.setPower_skip (p : PowerUnit) : (s.setPower p).skip = s.skip := rfl
@[simp] theorem State.setPower_settingsWrite (p : PowerUnit) : (s.setPower p).settingsWrite = s.settingsWrite := rfl
@[simp] theorem State.setPower_lampWrite (p : PowerUnit) : (s.setPower p).lampWrite = s.lampWrite := rfl
@[simp] theorem State.setPower_waitingCheckpoint (p : PowerUnit) : (s.setPower p).waitingCheckpoint = s.waitingCheckpoint := rfl
@[simp] theorem State.setPower_nvSettings (p : PowerUnit) : (s.setPower p).nvSettings = s.nvSettings := rfl
@[simp] theorem State.setPower_nvLamps (p : PowerUnit) : (s.setPower p).nvLamps = s.nvLamps := rfl

/-! ### setItem -/
@[simp] theorem State.setItem_pending (n : Fin 104) (v : Nat) : (s.setItem n v).pending = s.pending := rfl
@[simp] theorem State.setItem_control (n : Fin 104) (v : Nat) : (s.setItem n v).control = s.control := rfl
@[simp] theorem State.setItem_lectern (n : Fin 104) (v : Nat) : (s.setItem n v).lectern = s.lectern := rfl
@[simp] theorem State.setItem_restartDue (n : Fin 104) (v : Nat) : (s.setItem n v).restartDue = s.restartDue := rfl
@[simp] theorem State.setItem_window (n : Fin 104) (v : Nat) : (s.setItem n v).window = s.window := rfl
@[simp] theorem State.setItem_keypad (n : Fin 104) (v : Nat) : (s.setItem n v).keypad = s.keypad := rfl
@[simp] theorem State.setItem_remote (n : Fin 104) (v : Nat) : (s.setItem n v).remote = s.remote := rfl
@[simp] theorem State.setItem_hold (n : Fin 104) (v : Nat) : (s.setItem n v).hold = s.hold := rfl
@[simp] theorem State.setItem_level (n : Fin 104) (v : Nat) : (s.setItem n v).level = s.level := rfl
@[simp] theorem State.setItem_counters (n : Fin 104) (v : Nat) : (s.setItem n v).counters = s.counters := rfl
@[simp] theorem State.setItem_lampA (n : Fin 104) (v : Nat) : (s.setItem n v).lampA = s.lampA := rfl
@[simp] theorem State.setItem_lampB (n : Fin 104) (v : Nat) : (s.setItem n v).lampB = s.lampB := rfl
@[simp] theorem State.setItem_lastStruck (n : Fin 104) (v : Nat) : (s.setItem n v).lastStruck = s.lastStruck := rfl
@[simp] theorem State.setItem_fan (n : Fin 104) (v : Nat) : (s.setItem n v).fan = s.fan := rfl
@[simp] theorem State.setItem_recovery (n : Fin 104) (v : Nat) : (s.setItem n v).recovery = s.recovery := rfl
@[simp] theorem State.setItem_latch (n : Fin 104) (v : Nat) : (s.setItem n v).latch = s.latch := rfl
@[simp] theorem State.setItem_thermalInput (n : Fin 104) (v : Nat) : (s.setItem n v).thermalInput = s.thermalInput := rfl
@[simp] theorem State.setItem_inputs (n : Fin 104) (v : Nat) : (s.setItem n v).inputs = s.inputs := rfl
@[simp] theorem State.setItem_sw (n : Fin 104) (v : Nat) : (s.setItem n v).sw = s.sw := rfl
@[simp] theorem State.setItem_geo (n : Fin 104) (v : Nat) : (s.setItem n v).geo = s.geo := rfl
@[simp] theorem State.setItem_scaler (n : Fin 104) (v : Nat) : (s.setItem n v).scaler = s.scaler := rfl
@[simp] theorem State.setItem_power (n : Fin 104) (v : Nat) : (s.setItem n v).power = s.power := rfl
@[simp] theorem State.setItem_scan (n : Fin 104) (v : Nat) : (s.setItem n v).scan = s.scan := rfl
@[simp] theorem State.setItem_clock (n : Fin 104) (v : Nat) : (s.setItem n v).clock = s.clock := rfl
@[simp] theorem State.setItem_keptResets (n : Fin 104) (v : Nat) : (s.setItem n v).keptResets = s.keptResets := rfl
@[simp] theorem State.setItem_skip (n : Fin 104) (v : Nat) : (s.setItem n v).skip = s.skip := rfl
@[simp] theorem State.setItem_settingsWrite (n : Fin 104) (v : Nat) : (s.setItem n v).settingsWrite = s.settingsWrite := rfl
@[simp] theorem State.setItem_lampWrite (n : Fin 104) (v : Nat) : (s.setItem n v).lampWrite = s.lampWrite := rfl
@[simp] theorem State.setItem_waitingCheckpoint (n : Fin 104) (v : Nat) : (s.setItem n v).waitingCheckpoint = s.waitingCheckpoint := rfl
@[simp] theorem State.setItem_nvSettings (n : Fin 104) (v : Nat) : (s.setItem n v).nvSettings = s.nvSettings := rfl
@[simp] theorem State.setItem_nvLamps (n : Fin 104) (v : Nat) : (s.setItem n v).nvLamps = s.nvLamps := rfl

/-! ### setCounter -/
@[simp] theorem State.setCounter_pending (i : RuleId) (c : Counter) : (s.setCounter i c).pending = s.pending := rfl
@[simp] theorem State.setCounter_control (i : RuleId) (c : Counter) : (s.setCounter i c).control = s.control := rfl
@[simp] theorem State.setCounter_lectern (i : RuleId) (c : Counter) : (s.setCounter i c).lectern = s.lectern := rfl
@[simp] theorem State.setCounter_restartDue (i : RuleId) (c : Counter) : (s.setCounter i c).restartDue = s.restartDue := rfl
@[simp] theorem State.setCounter_conf (i : RuleId) (c : Counter) : (s.setCounter i c).conf = s.conf := rfl
@[simp] theorem State.setCounter_window (i : RuleId) (c : Counter) : (s.setCounter i c).window = s.window := rfl
@[simp] theorem State.setCounter_keypad (i : RuleId) (c : Counter) : (s.setCounter i c).keypad = s.keypad := rfl
@[simp] theorem State.setCounter_remote (i : RuleId) (c : Counter) : (s.setCounter i c).remote = s.remote := rfl
@[simp] theorem State.setCounter_hold (i : RuleId) (c : Counter) : (s.setCounter i c).hold = s.hold := rfl
@[simp] theorem State.setCounter_level (i : RuleId) (c : Counter) : (s.setCounter i c).level = s.level := rfl
@[simp] theorem State.setCounter_lampA (i : RuleId) (c : Counter) : (s.setCounter i c).lampA = s.lampA := rfl
@[simp] theorem State.setCounter_lampB (i : RuleId) (c : Counter) : (s.setCounter i c).lampB = s.lampB := rfl
@[simp] theorem State.setCounter_lastStruck (i : RuleId) (c : Counter) : (s.setCounter i c).lastStruck = s.lastStruck := rfl
@[simp] theorem State.setCounter_fan (i : RuleId) (c : Counter) : (s.setCounter i c).fan = s.fan := rfl
@[simp] theorem State.setCounter_recovery (i : RuleId) (c : Counter) : (s.setCounter i c).recovery = s.recovery := rfl
@[simp] theorem State.setCounter_latch (i : RuleId) (c : Counter) : (s.setCounter i c).latch = s.latch := rfl
@[simp] theorem State.setCounter_thermalInput (i : RuleId) (c : Counter) : (s.setCounter i c).thermalInput = s.thermalInput := rfl
@[simp] theorem State.setCounter_inputs (i : RuleId) (c : Counter) : (s.setCounter i c).inputs = s.inputs := rfl
@[simp] theorem State.setCounter_sw (i : RuleId) (c : Counter) : (s.setCounter i c).sw = s.sw := rfl
@[simp] theorem State.setCounter_geo (i : RuleId) (c : Counter) : (s.setCounter i c).geo = s.geo := rfl
@[simp] theorem State.setCounter_scaler (i : RuleId) (c : Counter) : (s.setCounter i c).scaler = s.scaler := rfl
@[simp] theorem State.setCounter_power (i : RuleId) (c : Counter) : (s.setCounter i c).power = s.power := rfl
@[simp] theorem State.setCounter_scan (i : RuleId) (c : Counter) : (s.setCounter i c).scan = s.scan := rfl
@[simp] theorem State.setCounter_clock (i : RuleId) (c : Counter) : (s.setCounter i c).clock = s.clock := rfl
@[simp] theorem State.setCounter_keptResets (i : RuleId) (c : Counter) : (s.setCounter i c).keptResets = s.keptResets := rfl
@[simp] theorem State.setCounter_skip (i : RuleId) (c : Counter) : (s.setCounter i c).skip = s.skip := rfl
@[simp] theorem State.setCounter_settingsWrite (i : RuleId) (c : Counter) : (s.setCounter i c).settingsWrite = s.settingsWrite := rfl
@[simp] theorem State.setCounter_lampWrite (i : RuleId) (c : Counter) : (s.setCounter i c).lampWrite = s.lampWrite := rfl
@[simp] theorem State.setCounter_waitingCheckpoint (i : RuleId) (c : Counter) : (s.setCounter i c).waitingCheckpoint = s.waitingCheckpoint := rfl
@[simp] theorem State.setCounter_nvSettings (i : RuleId) (c : Counter) : (s.setCounter i c).nvSettings = s.nvSettings := rfl
@[simp] theorem State.setCounter_nvLamps (i : RuleId) (c : Counter) : (s.setCounter i c).nvLamps = s.nvLamps := rfl

/-! ### setRule -/
@[simp] theorem State.setRule_pending (i : RuleId) (r : Rule) : (s.setRule i r).pending = s.pending := rfl
@[simp] theorem State.setRule_control (i : RuleId) (r : Rule) : (s.setRule i r).control = s.control := rfl
@[simp] theorem State.setRule_lectern (i : RuleId) (r : Rule) : (s.setRule i r).lectern = s.lectern := rfl
@[simp] theorem State.setRule_restartDue (i : RuleId) (r : Rule) : (s.setRule i r).restartDue = s.restartDue := rfl
@[simp] theorem State.setRule_window (i : RuleId) (r : Rule) : (s.setRule i r).window = s.window := rfl
@[simp] theorem State.setRule_keypad (i : RuleId) (r : Rule) : (s.setRule i r).keypad = s.keypad := rfl
@[simp] theorem State.setRule_remote (i : RuleId) (r : Rule) : (s.setRule i r).remote = s.remote := rfl
@[simp] theorem State.setRule_hold (i : RuleId) (r : Rule) : (s.setRule i r).hold = s.hold := rfl
@[simp] theorem State.setRule_level (i : RuleId) (r : Rule) : (s.setRule i r).level = s.level := rfl
@[simp] theorem State.setRule_counters (i : RuleId) (r : Rule) : (s.setRule i r).counters = s.counters := rfl
@[simp] theorem State.setRule_lampA (i : RuleId) (r : Rule) : (s.setRule i r).lampA = s.lampA := rfl
@[simp] theorem State.setRule_lampB (i : RuleId) (r : Rule) : (s.setRule i r).lampB = s.lampB := rfl
@[simp] theorem State.setRule_lastStruck (i : RuleId) (r : Rule) : (s.setRule i r).lastStruck = s.lastStruck := rfl
@[simp] theorem State.setRule_fan (i : RuleId) (r : Rule) : (s.setRule i r).fan = s.fan := rfl
@[simp] theorem State.setRule_recovery (i : RuleId) (r : Rule) : (s.setRule i r).recovery = s.recovery := rfl
@[simp] theorem State.setRule_latch (i : RuleId) (r : Rule) : (s.setRule i r).latch = s.latch := rfl
@[simp] theorem State.setRule_thermalInput (i : RuleId) (r : Rule) : (s.setRule i r).thermalInput = s.thermalInput := rfl
@[simp] theorem State.setRule_inputs (i : RuleId) (r : Rule) : (s.setRule i r).inputs = s.inputs := rfl
@[simp] theorem State.setRule_sw (i : RuleId) (r : Rule) : (s.setRule i r).sw = s.sw := rfl
@[simp] theorem State.setRule_geo (i : RuleId) (r : Rule) : (s.setRule i r).geo = s.geo := rfl
@[simp] theorem State.setRule_scaler (i : RuleId) (r : Rule) : (s.setRule i r).scaler = s.scaler := rfl
@[simp] theorem State.setRule_power (i : RuleId) (r : Rule) : (s.setRule i r).power = s.power := rfl
@[simp] theorem State.setRule_scan (i : RuleId) (r : Rule) : (s.setRule i r).scan = s.scan := rfl
@[simp] theorem State.setRule_clock (i : RuleId) (r : Rule) : (s.setRule i r).clock = s.clock := rfl
@[simp] theorem State.setRule_keptResets (i : RuleId) (r : Rule) : (s.setRule i r).keptResets = s.keptResets := rfl
@[simp] theorem State.setRule_skip (i : RuleId) (r : Rule) : (s.setRule i r).skip = s.skip := rfl
@[simp] theorem State.setRule_settingsWrite (i : RuleId) (r : Rule) : (s.setRule i r).settingsWrite = s.settingsWrite := rfl
@[simp] theorem State.setRule_lampWrite (i : RuleId) (r : Rule) : (s.setRule i r).lampWrite = s.lampWrite := rfl
@[simp] theorem State.setRule_waitingCheckpoint (i : RuleId) (r : Rule) : (s.setRule i r).waitingCheckpoint = s.waitingCheckpoint := rfl
@[simp] theorem State.setRule_nvSettings (i : RuleId) (r : Rule) : (s.setRule i r).nvSettings = s.nvSettings := rfl
@[simp] theorem State.setRule_nvLamps (i : RuleId) (r : Rule) : (s.setRule i r).nvLamps = s.nvLamps := rfl

/-! ### setLock -/
@[simp] theorem State.setLock_pending (k : TableLock) : (s.setLock k).pending = s.pending := rfl
@[simp] theorem State.setLock_control (k : TableLock) : (s.setLock k).control = s.control := rfl
@[simp] theorem State.setLock_lectern (k : TableLock) : (s.setLock k).lectern = s.lectern := rfl
@[simp] theorem State.setLock_restartDue (k : TableLock) : (s.setLock k).restartDue = s.restartDue := rfl
@[simp] theorem State.setLock_window (k : TableLock) : (s.setLock k).window = s.window := rfl
@[simp] theorem State.setLock_keypad (k : TableLock) : (s.setLock k).keypad = s.keypad := rfl
@[simp] theorem State.setLock_remote (k : TableLock) : (s.setLock k).remote = s.remote := rfl
@[simp] theorem State.setLock_hold (k : TableLock) : (s.setLock k).hold = s.hold := rfl
@[simp] theorem State.setLock_level (k : TableLock) : (s.setLock k).level = s.level := rfl
@[simp] theorem State.setLock_counters (k : TableLock) : (s.setLock k).counters = s.counters := rfl
@[simp] theorem State.setLock_lampA (k : TableLock) : (s.setLock k).lampA = s.lampA := rfl
@[simp] theorem State.setLock_lampB (k : TableLock) : (s.setLock k).lampB = s.lampB := rfl
@[simp] theorem State.setLock_lastStruck (k : TableLock) : (s.setLock k).lastStruck = s.lastStruck := rfl
@[simp] theorem State.setLock_fan (k : TableLock) : (s.setLock k).fan = s.fan := rfl
@[simp] theorem State.setLock_recovery (k : TableLock) : (s.setLock k).recovery = s.recovery := rfl
@[simp] theorem State.setLock_latch (k : TableLock) : (s.setLock k).latch = s.latch := rfl
@[simp] theorem State.setLock_thermalInput (k : TableLock) : (s.setLock k).thermalInput = s.thermalInput := rfl
@[simp] theorem State.setLock_inputs (k : TableLock) : (s.setLock k).inputs = s.inputs := rfl
@[simp] theorem State.setLock_sw (k : TableLock) : (s.setLock k).sw = s.sw := rfl
@[simp] theorem State.setLock_geo (k : TableLock) : (s.setLock k).geo = s.geo := rfl
@[simp] theorem State.setLock_scaler (k : TableLock) : (s.setLock k).scaler = s.scaler := rfl
@[simp] theorem State.setLock_power (k : TableLock) : (s.setLock k).power = s.power := rfl
@[simp] theorem State.setLock_scan (k : TableLock) : (s.setLock k).scan = s.scan := rfl
@[simp] theorem State.setLock_clock (k : TableLock) : (s.setLock k).clock = s.clock := rfl
@[simp] theorem State.setLock_keptResets (k : TableLock) : (s.setLock k).keptResets = s.keptResets := rfl
@[simp] theorem State.setLock_skip (k : TableLock) : (s.setLock k).skip = s.skip := rfl
@[simp] theorem State.setLock_settingsWrite (k : TableLock) : (s.setLock k).settingsWrite = s.settingsWrite := rfl
@[simp] theorem State.setLock_lampWrite (k : TableLock) : (s.setLock k).lampWrite = s.lampWrite := rfl
@[simp] theorem State.setLock_waitingCheckpoint (k : TableLock) : (s.setLock k).waitingCheckpoint = s.waitingCheckpoint := rfl
@[simp] theorem State.setLock_nvSettings (k : TableLock) : (s.setLock k).nvSettings = s.nvSettings := rfl
@[simp] theorem State.setLock_nvLamps (k : TableLock) : (s.setLock k).nvLamps = s.nvLamps := rfl

/-! ### setExceptions -/
@[simp] theorem State.setExceptions_pending (es : List ExceptionRecord) : (s.setExceptions es).pending = s.pending := rfl
@[simp] theorem State.setExceptions_control (es : List ExceptionRecord) : (s.setExceptions es).control = s.control := rfl
@[simp] theorem State.setExceptions_lectern (es : List ExceptionRecord) : (s.setExceptions es).lectern = s.lectern := rfl
@[simp] theorem State.setExceptions_restartDue (es : List ExceptionRecord) : (s.setExceptions es).restartDue = s.restartDue := rfl
@[simp] theorem State.setExceptions_window (es : List ExceptionRecord) : (s.setExceptions es).window = s.window := rfl
@[simp] theorem State.setExceptions_keypad (es : List ExceptionRecord) : (s.setExceptions es).keypad = s.keypad := rfl
@[simp] theorem State.setExceptions_remote (es : List ExceptionRecord) : (s.setExceptions es).remote = s.remote := rfl
@[simp] theorem State.setExceptions_hold (es : List ExceptionRecord) : (s.setExceptions es).hold = s.hold := rfl
@[simp] theorem State.setExceptions_level (es : List ExceptionRecord) : (s.setExceptions es).level = s.level := rfl
@[simp] theorem State.setExceptions_counters (es : List ExceptionRecord) : (s.setExceptions es).counters = s.counters := rfl
@[simp] theorem State.setExceptions_lampA (es : List ExceptionRecord) : (s.setExceptions es).lampA = s.lampA := rfl
@[simp] theorem State.setExceptions_lampB (es : List ExceptionRecord) : (s.setExceptions es).lampB = s.lampB := rfl
@[simp] theorem State.setExceptions_lastStruck (es : List ExceptionRecord) : (s.setExceptions es).lastStruck = s.lastStruck := rfl
@[simp] theorem State.setExceptions_fan (es : List ExceptionRecord) : (s.setExceptions es).fan = s.fan := rfl
@[simp] theorem State.setExceptions_recovery (es : List ExceptionRecord) : (s.setExceptions es).recovery = s.recovery := rfl
@[simp] theorem State.setExceptions_latch (es : List ExceptionRecord) : (s.setExceptions es).latch = s.latch := rfl
@[simp] theorem State.setExceptions_thermalInput (es : List ExceptionRecord) : (s.setExceptions es).thermalInput = s.thermalInput := rfl
@[simp] theorem State.setExceptions_inputs (es : List ExceptionRecord) : (s.setExceptions es).inputs = s.inputs := rfl
@[simp] theorem State.setExceptions_sw (es : List ExceptionRecord) : (s.setExceptions es).sw = s.sw := rfl
@[simp] theorem State.setExceptions_geo (es : List ExceptionRecord) : (s.setExceptions es).geo = s.geo := rfl
@[simp] theorem State.setExceptions_scaler (es : List ExceptionRecord) : (s.setExceptions es).scaler = s.scaler := rfl
@[simp] theorem State.setExceptions_power (es : List ExceptionRecord) : (s.setExceptions es).power = s.power := rfl
@[simp] theorem State.setExceptions_scan (es : List ExceptionRecord) : (s.setExceptions es).scan = s.scan := rfl
@[simp] theorem State.setExceptions_clock (es : List ExceptionRecord) : (s.setExceptions es).clock = s.clock := rfl
@[simp] theorem State.setExceptions_keptResets (es : List ExceptionRecord) : (s.setExceptions es).keptResets = s.keptResets := rfl
@[simp] theorem State.setExceptions_skip (es : List ExceptionRecord) : (s.setExceptions es).skip = s.skip := rfl
@[simp] theorem State.setExceptions_settingsWrite (es : List ExceptionRecord) : (s.setExceptions es).settingsWrite = s.settingsWrite := rfl
@[simp] theorem State.setExceptions_lampWrite (es : List ExceptionRecord) : (s.setExceptions es).lampWrite = s.lampWrite := rfl
@[simp] theorem State.setExceptions_waitingCheckpoint (es : List ExceptionRecord) : (s.setExceptions es).waitingCheckpoint = s.waitingCheckpoint := rfl
@[simp] theorem State.setExceptions_nvSettings (es : List ExceptionRecord) : (s.setExceptions es).nvSettings = s.nvSettings := rfl
@[simp] theorem State.setExceptions_nvLamps (es : List ExceptionRecord) : (s.setExceptions es).nvLamps = s.nvLamps := rfl

/-! ### setRun -/
@[simp] theorem State.setRun_pending (g : GroupId) (i : InputId) (n : Nat) : (s.setRun g i n).pending = s.pending := rfl
@[simp] theorem State.setRun_control (g : GroupId) (i : InputId) (n : Nat) : (s.setRun g i n).control = s.control := rfl
@[simp] theorem State.setRun_lectern (g : GroupId) (i : InputId) (n : Nat) : (s.setRun g i n).lectern = s.lectern := rfl
@[simp] theorem State.setRun_restartDue (g : GroupId) (i : InputId) (n : Nat) : (s.setRun g i n).restartDue = s.restartDue := rfl
@[simp] theorem State.setRun_conf (g : GroupId) (i : InputId) (n : Nat) : (s.setRun g i n).conf = s.conf := rfl
@[simp] theorem State.setRun_window (g : GroupId) (i : InputId) (n : Nat) : (s.setRun g i n).window = s.window := rfl
@[simp] theorem State.setRun_keypad (g : GroupId) (i : InputId) (n : Nat) : (s.setRun g i n).keypad = s.keypad := rfl
@[simp] theorem State.setRun_remote (g : GroupId) (i : InputId) (n : Nat) : (s.setRun g i n).remote = s.remote := rfl
@[simp] theorem State.setRun_hold (g : GroupId) (i : InputId) (n : Nat) : (s.setRun g i n).hold = s.hold := rfl
@[simp] theorem State.setRun_level (g : GroupId) (i : InputId) (n : Nat) : (s.setRun g i n).level = s.level := rfl
@[simp] theorem State.setRun_counters (g : GroupId) (i : InputId) (n : Nat) : (s.setRun g i n).counters = s.counters := rfl
@[simp] theorem State.setRun_lampA (g : GroupId) (i : InputId) (n : Nat) : (s.setRun g i n).lampA = s.lampA := rfl
@[simp] theorem State.setRun_lampB (g : GroupId) (i : InputId) (n : Nat) : (s.setRun g i n).lampB = s.lampB := rfl
@[simp] theorem State.setRun_lastStruck (g : GroupId) (i : InputId) (n : Nat) : (s.setRun g i n).lastStruck = s.lastStruck := rfl
@[simp] theorem State.setRun_fan (g : GroupId) (i : InputId) (n : Nat) : (s.setRun g i n).fan = s.fan := rfl
@[simp] theorem State.setRun_recovery (g : GroupId) (i : InputId) (n : Nat) : (s.setRun g i n).recovery = s.recovery := rfl
@[simp] theorem State.setRun_latch (g : GroupId) (i : InputId) (n : Nat) : (s.setRun g i n).latch = s.latch := rfl
@[simp] theorem State.setRun_thermalInput (g : GroupId) (i : InputId) (n : Nat) : (s.setRun g i n).thermalInput = s.thermalInput := rfl
@[simp] theorem State.setRun_inputs (g : GroupId) (i : InputId) (n : Nat) : (s.setRun g i n).inputs = s.inputs := rfl
@[simp] theorem State.setRun_sw (g : GroupId) (i : InputId) (n : Nat) : (s.setRun g i n).sw = s.sw := rfl
@[simp] theorem State.setRun_geo (g : GroupId) (i : InputId) (n : Nat) : (s.setRun g i n).geo = s.geo := rfl
@[simp] theorem State.setRun_scaler (g : GroupId) (i : InputId) (n : Nat) : (s.setRun g i n).scaler = s.scaler := rfl
@[simp] theorem State.setRun_power (g : GroupId) (i : InputId) (n : Nat) : (s.setRun g i n).power = s.power := rfl
@[simp] theorem State.setRun_clock (g : GroupId) (i : InputId) (n : Nat) : (s.setRun g i n).clock = s.clock := rfl
@[simp] theorem State.setRun_keptResets (g : GroupId) (i : InputId) (n : Nat) : (s.setRun g i n).keptResets = s.keptResets := rfl
@[simp] theorem State.setRun_skip (g : GroupId) (i : InputId) (n : Nat) : (s.setRun g i n).skip = s.skip := rfl
@[simp] theorem State.setRun_settingsWrite (g : GroupId) (i : InputId) (n : Nat) : (s.setRun g i n).settingsWrite = s.settingsWrite := rfl
@[simp] theorem State.setRun_lampWrite (g : GroupId) (i : InputId) (n : Nat) : (s.setRun g i n).lampWrite = s.lampWrite := rfl
@[simp] theorem State.setRun_waitingCheckpoint (g : GroupId) (i : InputId) (n : Nat) : (s.setRun g i n).waitingCheckpoint = s.waitingCheckpoint := rfl
@[simp] theorem State.setRun_nvSettings (g : GroupId) (i : InputId) (n : Nat) : (s.setRun g i n).nvSettings = s.nvSettings := rfl
@[simp] theorem State.setRun_nvLamps (g : GroupId) (i : InputId) (n : Nat) : (s.setRun g i n).nvLamps = s.nvLamps := rfl

/-! ### startGroup -/
@[simp] theorem State.startGroup_pending (g : GroupId) : (s.startGroup g).pending = s.pending := rfl
@[simp] theorem State.startGroup_control (g : GroupId) : (s.startGroup g).control = s.control := rfl
@[simp] theorem State.startGroup_lectern (g : GroupId) : (s.startGroup g).lectern = s.lectern := rfl
@[simp] theorem State.startGroup_restartDue (g : GroupId) : (s.startGroup g).restartDue = s.restartDue := rfl
@[simp] theorem State.startGroup_conf (g : GroupId) : (s.startGroup g).conf = s.conf := rfl
@[simp] theorem State.startGroup_window (g : GroupId) : (s.startGroup g).window = s.window := rfl
@[simp] theorem State.startGroup_keypad (g : GroupId) : (s.startGroup g).keypad = s.keypad := rfl
@[simp] theorem State.startGroup_remote (g : GroupId) : (s.startGroup g).remote = s.remote := rfl
@[simp] theorem State.startGroup_hold (g : GroupId) : (s.startGroup g).hold = s.hold := rfl
@[simp] theorem State.startGroup_level (g : GroupId) : (s.startGroup g).level = s.level := rfl
@[simp] theorem State.startGroup_counters (g : GroupId) : (s.startGroup g).counters = s.counters := rfl
@[simp] theorem State.startGroup_lampA (g : GroupId) : (s.startGroup g).lampA = s.lampA := rfl
@[simp] theorem State.startGroup_lampB (g : GroupId) : (s.startGroup g).lampB = s.lampB := rfl
@[simp] theorem State.startGroup_lastStruck (g : GroupId) : (s.startGroup g).lastStruck = s.lastStruck := rfl
@[simp] theorem State.startGroup_fan (g : GroupId) : (s.startGroup g).fan = s.fan := rfl
@[simp] theorem State.startGroup_recovery (g : GroupId) : (s.startGroup g).recovery = s.recovery := rfl
@[simp] theorem State.startGroup_latch (g : GroupId) : (s.startGroup g).latch = s.latch := rfl
@[simp] theorem State.startGroup_thermalInput (g : GroupId) : (s.startGroup g).thermalInput = s.thermalInput := rfl
@[simp] theorem State.startGroup_inputs (g : GroupId) : (s.startGroup g).inputs = s.inputs := rfl
@[simp] theorem State.startGroup_sw (g : GroupId) : (s.startGroup g).sw = s.sw := rfl
@[simp] theorem State.startGroup_geo (g : GroupId) : (s.startGroup g).geo = s.geo := rfl
@[simp] theorem State.startGroup_scaler (g : GroupId) : (s.startGroup g).scaler = s.scaler := rfl
@[simp] theorem State.startGroup_power (g : GroupId) : (s.startGroup g).power = s.power := rfl
@[simp] theorem State.startGroup_clock (g : GroupId) : (s.startGroup g).clock = s.clock := rfl
@[simp] theorem State.startGroup_keptResets (g : GroupId) : (s.startGroup g).keptResets = s.keptResets := rfl
@[simp] theorem State.startGroup_skip (g : GroupId) : (s.startGroup g).skip = s.skip := rfl
@[simp] theorem State.startGroup_settingsWrite (g : GroupId) : (s.startGroup g).settingsWrite = s.settingsWrite := rfl
@[simp] theorem State.startGroup_lampWrite (g : GroupId) : (s.startGroup g).lampWrite = s.lampWrite := rfl
@[simp] theorem State.startGroup_waitingCheckpoint (g : GroupId) : (s.startGroup g).waitingCheckpoint = s.waitingCheckpoint := rfl
@[simp] theorem State.startGroup_nvSettings (g : GroupId) : (s.startGroup g).nvSettings = s.nvSettings := rfl
@[simp] theorem State.startGroup_nvLamps (g : GroupId) : (s.startGroup g).nvLamps = s.nvLamps := rfl

/-! ### restartInterval -/
@[simp] theorem State.restartInterval_pending (g : GroupId) : (s.restartInterval g).pending = s.pending := rfl
@[simp] theorem State.restartInterval_control (g : GroupId) : (s.restartInterval g).control = s.control := rfl
@[simp] theorem State.restartInterval_lectern (g : GroupId) : (s.restartInterval g).lectern = s.lectern := rfl
@[simp] theorem State.restartInterval_restartDue (g : GroupId) : (s.restartInterval g).restartDue = s.restartDue := rfl
@[simp] theorem State.restartInterval_conf (g : GroupId) : (s.restartInterval g).conf = s.conf := rfl
@[simp] theorem State.restartInterval_window (g : GroupId) : (s.restartInterval g).window = s.window := rfl
@[simp] theorem State.restartInterval_keypad (g : GroupId) : (s.restartInterval g).keypad = s.keypad := rfl
@[simp] theorem State.restartInterval_remote (g : GroupId) : (s.restartInterval g).remote = s.remote := rfl
@[simp] theorem State.restartInterval_hold (g : GroupId) : (s.restartInterval g).hold = s.hold := rfl
@[simp] theorem State.restartInterval_level (g : GroupId) : (s.restartInterval g).level = s.level := rfl
@[simp] theorem State.restartInterval_counters (g : GroupId) : (s.restartInterval g).counters = s.counters := rfl
@[simp] theorem State.restartInterval_lampA (g : GroupId) : (s.restartInterval g).lampA = s.lampA := rfl
@[simp] theorem State.restartInterval_lampB (g : GroupId) : (s.restartInterval g).lampB = s.lampB := rfl
@[simp] theorem State.restartInterval_lastStruck (g : GroupId) : (s.restartInterval g).lastStruck = s.lastStruck := rfl
@[simp] theorem State.restartInterval_fan (g : GroupId) : (s.restartInterval g).fan = s.fan := rfl
@[simp] theorem State.restartInterval_recovery (g : GroupId) : (s.restartInterval g).recovery = s.recovery := rfl
@[simp] theorem State.restartInterval_latch (g : GroupId) : (s.restartInterval g).latch = s.latch := rfl
@[simp] theorem State.restartInterval_thermalInput (g : GroupId) : (s.restartInterval g).thermalInput = s.thermalInput := rfl
@[simp] theorem State.restartInterval_inputs (g : GroupId) : (s.restartInterval g).inputs = s.inputs := rfl
@[simp] theorem State.restartInterval_sw (g : GroupId) : (s.restartInterval g).sw = s.sw := rfl
@[simp] theorem State.restartInterval_geo (g : GroupId) : (s.restartInterval g).geo = s.geo := rfl
@[simp] theorem State.restartInterval_scaler (g : GroupId) : (s.restartInterval g).scaler = s.scaler := rfl
@[simp] theorem State.restartInterval_power (g : GroupId) : (s.restartInterval g).power = s.power := rfl
@[simp] theorem State.restartInterval_clock (g : GroupId) : (s.restartInterval g).clock = s.clock := rfl
@[simp] theorem State.restartInterval_keptResets (g : GroupId) : (s.restartInterval g).keptResets = s.keptResets := rfl
@[simp] theorem State.restartInterval_skip (g : GroupId) : (s.restartInterval g).skip = s.skip := rfl
@[simp] theorem State.restartInterval_settingsWrite (g : GroupId) : (s.restartInterval g).settingsWrite = s.settingsWrite := rfl
@[simp] theorem State.restartInterval_lampWrite (g : GroupId) : (s.restartInterval g).lampWrite = s.lampWrite := rfl
@[simp] theorem State.restartInterval_waitingCheckpoint (g : GroupId) : (s.restartInterval g).waitingCheckpoint = s.waitingCheckpoint := rfl
@[simp] theorem State.restartInterval_nvSettings (g : GroupId) : (s.restartInterval g).nvSettings = s.nvSettings := rfl
@[simp] theorem State.restartInterval_nvLamps (g : GroupId) : (s.restartInterval g).nvLamps = s.nvLamps := rfl

/-! ### stopScan -/
@[simp] theorem State.stopScan_pending : (s.stopScan).pending = s.pending := rfl
@[simp] theorem State.stopScan_control : (s.stopScan).control = s.control := rfl
@[simp] theorem State.stopScan_lectern : (s.stopScan).lectern = s.lectern := rfl
@[simp] theorem State.stopScan_restartDue : (s.stopScan).restartDue = s.restartDue := rfl
@[simp] theorem State.stopScan_conf : (s.stopScan).conf = s.conf := rfl
@[simp] theorem State.stopScan_window : (s.stopScan).window = s.window := rfl
@[simp] theorem State.stopScan_keypad : (s.stopScan).keypad = s.keypad := rfl
@[simp] theorem State.stopScan_remote : (s.stopScan).remote = s.remote := rfl
@[simp] theorem State.stopScan_hold : (s.stopScan).hold = s.hold := rfl
@[simp] theorem State.stopScan_level : (s.stopScan).level = s.level := rfl
@[simp] theorem State.stopScan_counters : (s.stopScan).counters = s.counters := rfl
@[simp] theorem State.stopScan_lampA : (s.stopScan).lampA = s.lampA := rfl
@[simp] theorem State.stopScan_lampB : (s.stopScan).lampB = s.lampB := rfl
@[simp] theorem State.stopScan_lastStruck : (s.stopScan).lastStruck = s.lastStruck := rfl
@[simp] theorem State.stopScan_fan : (s.stopScan).fan = s.fan := rfl
@[simp] theorem State.stopScan_recovery : (s.stopScan).recovery = s.recovery := rfl
@[simp] theorem State.stopScan_latch : (s.stopScan).latch = s.latch := rfl
@[simp] theorem State.stopScan_thermalInput : (s.stopScan).thermalInput = s.thermalInput := rfl
@[simp] theorem State.stopScan_inputs : (s.stopScan).inputs = s.inputs := rfl
@[simp] theorem State.stopScan_sw : (s.stopScan).sw = s.sw := rfl
@[simp] theorem State.stopScan_geo : (s.stopScan).geo = s.geo := rfl
@[simp] theorem State.stopScan_scaler : (s.stopScan).scaler = s.scaler := rfl
@[simp] theorem State.stopScan_power : (s.stopScan).power = s.power := rfl
@[simp] theorem State.stopScan_clock : (s.stopScan).clock = s.clock := rfl
@[simp] theorem State.stopScan_keptResets : (s.stopScan).keptResets = s.keptResets := rfl
@[simp] theorem State.stopScan_skip : (s.stopScan).skip = s.skip := rfl
@[simp] theorem State.stopScan_settingsWrite : (s.stopScan).settingsWrite = s.settingsWrite := rfl
@[simp] theorem State.stopScan_lampWrite : (s.stopScan).lampWrite = s.lampWrite := rfl
@[simp] theorem State.stopScan_waitingCheckpoint : (s.stopScan).waitingCheckpoint = s.waitingCheckpoint := rfl
@[simp] theorem State.stopScan_nvSettings : (s.stopScan).nvSettings = s.nvSettings := rfl
@[simp] theorem State.stopScan_nvLamps : (s.stopScan).nvLamps = s.nvLamps := rfl

/-! ### stopWake -/
@[simp] theorem State.stopWake_pending : (s.stopWake).pending = s.pending := rfl
@[simp] theorem State.stopWake_control : (s.stopWake).control = s.control := rfl
@[simp] theorem State.stopWake_lectern : (s.stopWake).lectern = s.lectern := rfl
@[simp] theorem State.stopWake_restartDue : (s.stopWake).restartDue = s.restartDue := rfl
@[simp] theorem State.stopWake_conf : (s.stopWake).conf = s.conf := rfl
@[simp] theorem State.stopWake_window : (s.stopWake).window = s.window := rfl
@[simp] theorem State.stopWake_keypad : (s.stopWake).keypad = s.keypad := rfl
@[simp] theorem State.stopWake_remote : (s.stopWake).remote = s.remote := rfl
@[simp] theorem State.stopWake_hold : (s.stopWake).hold = s.hold := rfl
@[simp] theorem State.stopWake_level : (s.stopWake).level = s.level := rfl
@[simp] theorem State.stopWake_counters : (s.stopWake).counters = s.counters := rfl
@[simp] theorem State.stopWake_lastStruck : (s.stopWake).lastStruck = s.lastStruck := rfl
@[simp] theorem State.stopWake_fan : (s.stopWake).fan = s.fan := rfl
@[simp] theorem State.stopWake_recovery : (s.stopWake).recovery = s.recovery := rfl
@[simp] theorem State.stopWake_latch : (s.stopWake).latch = s.latch := rfl
@[simp] theorem State.stopWake_thermalInput : (s.stopWake).thermalInput = s.thermalInput := rfl
@[simp] theorem State.stopWake_inputs : (s.stopWake).inputs = s.inputs := rfl
@[simp] theorem State.stopWake_sw : (s.stopWake).sw = s.sw := rfl
@[simp] theorem State.stopWake_geo : (s.stopWake).geo = s.geo := rfl
@[simp] theorem State.stopWake_scaler : (s.stopWake).scaler = s.scaler := rfl
@[simp] theorem State.stopWake_power : (s.stopWake).power = s.power := rfl
@[simp] theorem State.stopWake_scan : (s.stopWake).scan = s.scan := rfl
@[simp] theorem State.stopWake_clock : (s.stopWake).clock = s.clock := rfl
@[simp] theorem State.stopWake_keptResets : (s.stopWake).keptResets = s.keptResets := rfl
@[simp] theorem State.stopWake_skip : (s.stopWake).skip = s.skip := rfl
@[simp] theorem State.stopWake_settingsWrite : (s.stopWake).settingsWrite = s.settingsWrite := rfl
@[simp] theorem State.stopWake_lampWrite : (s.stopWake).lampWrite = s.lampWrite := rfl
@[simp] theorem State.stopWake_waitingCheckpoint : (s.stopWake).waitingCheckpoint = s.waitingCheckpoint := rfl
@[simp] theorem State.stopWake_nvSettings : (s.stopWake).nvSettings = s.nvSettings := rfl
@[simp] theorem State.stopWake_nvLamps : (s.stopWake).nvLamps = s.nvLamps := rfl

/-! ### beginLampWrite -/
@[simp] theorem State.beginLampWrite_pending : (s.beginLampWrite).pending = s.pending := rfl
@[simp] theorem State.beginLampWrite_control : (s.beginLampWrite).control = s.control := rfl
@[simp] theorem State.beginLampWrite_lectern : (s.beginLampWrite).lectern = s.lectern := rfl
@[simp] theorem State.beginLampWrite_restartDue : (s.beginLampWrite).restartDue = s.restartDue := rfl
@[simp] theorem State.beginLampWrite_conf : (s.beginLampWrite).conf = s.conf := rfl
@[simp] theorem State.beginLampWrite_window : (s.beginLampWrite).window = s.window := rfl
@[simp] theorem State.beginLampWrite_keypad : (s.beginLampWrite).keypad = s.keypad := rfl
@[simp] theorem State.beginLampWrite_remote : (s.beginLampWrite).remote = s.remote := rfl
@[simp] theorem State.beginLampWrite_hold : (s.beginLampWrite).hold = s.hold := rfl
@[simp] theorem State.beginLampWrite_level : (s.beginLampWrite).level = s.level := rfl
@[simp] theorem State.beginLampWrite_counters : (s.beginLampWrite).counters = s.counters := rfl
@[simp] theorem State.beginLampWrite_lampA : (s.beginLampWrite).lampA = s.lampA := rfl
@[simp] theorem State.beginLampWrite_lampB : (s.beginLampWrite).lampB = s.lampB := rfl
@[simp] theorem State.beginLampWrite_lastStruck : (s.beginLampWrite).lastStruck = s.lastStruck := rfl
@[simp] theorem State.beginLampWrite_fan : (s.beginLampWrite).fan = s.fan := rfl
@[simp] theorem State.beginLampWrite_recovery : (s.beginLampWrite).recovery = s.recovery := rfl
@[simp] theorem State.beginLampWrite_latch : (s.beginLampWrite).latch = s.latch := rfl
@[simp] theorem State.beginLampWrite_thermalInput : (s.beginLampWrite).thermalInput = s.thermalInput := rfl
@[simp] theorem State.beginLampWrite_inputs : (s.beginLampWrite).inputs = s.inputs := rfl
@[simp] theorem State.beginLampWrite_sw : (s.beginLampWrite).sw = s.sw := rfl
@[simp] theorem State.beginLampWrite_geo : (s.beginLampWrite).geo = s.geo := rfl
@[simp] theorem State.beginLampWrite_scaler : (s.beginLampWrite).scaler = s.scaler := rfl
@[simp] theorem State.beginLampWrite_power : (s.beginLampWrite).power = s.power := rfl
@[simp] theorem State.beginLampWrite_scan : (s.beginLampWrite).scan = s.scan := rfl
@[simp] theorem State.beginLampWrite_clock : (s.beginLampWrite).clock = s.clock := rfl
@[simp] theorem State.beginLampWrite_keptResets : (s.beginLampWrite).keptResets = s.keptResets := rfl
@[simp] theorem State.beginLampWrite_skip : (s.beginLampWrite).skip = s.skip := rfl
@[simp] theorem State.beginLampWrite_settingsWrite : (s.beginLampWrite).settingsWrite = s.settingsWrite := rfl
@[simp] theorem State.beginLampWrite_waitingCheckpoint : (s.beginLampWrite).waitingCheckpoint = s.waitingCheckpoint := rfl
@[simp] theorem State.beginLampWrite_nvSettings : (s.beginLampWrite).nvSettings = s.nvSettings := rfl
@[simp] theorem State.beginLampWrite_nvLamps : (s.beginLampWrite).nvLamps = s.nvLamps := rfl

/-! ### runPicture -/
@[simp] theorem State.runPicture_pending : (s.runPicture).pending = s.pending := rfl
@[simp] theorem State.runPicture_control : (s.runPicture).control = s.control := rfl
@[simp] theorem State.runPicture_lectern : (s.runPicture).lectern = s.lectern := rfl
@[simp] theorem State.runPicture_restartDue : (s.runPicture).restartDue = s.restartDue := rfl
@[simp] theorem State.runPicture_conf : (s.runPicture).conf = s.conf := rfl
@[simp] theorem State.runPicture_window : (s.runPicture).window = s.window := rfl
@[simp] theorem State.runPicture_keypad : (s.runPicture).keypad = s.keypad := rfl
@[simp] theorem State.runPicture_remote : (s.runPicture).remote = s.remote := rfl
@[simp] theorem State.runPicture_hold : (s.runPicture).hold = s.hold := rfl
@[simp] theorem State.runPicture_level : (s.runPicture).level = s.level := rfl
@[simp] theorem State.runPicture_counters : (s.runPicture).counters = s.counters := rfl
@[simp] theorem State.runPicture_lampA : (s.runPicture).lampA = s.lampA := rfl
@[simp] theorem State.runPicture_lampB : (s.runPicture).lampB = s.lampB := rfl
@[simp] theorem State.runPicture_lastStruck : (s.runPicture).lastStruck = s.lastStruck := rfl
@[simp] theorem State.runPicture_fan : (s.runPicture).fan = s.fan := rfl
@[simp] theorem State.runPicture_recovery : (s.runPicture).recovery = s.recovery := rfl
@[simp] theorem State.runPicture_latch : (s.runPicture).latch = s.latch := rfl
@[simp] theorem State.runPicture_thermalInput : (s.runPicture).thermalInput = s.thermalInput := rfl
@[simp] theorem State.runPicture_inputs : (s.runPicture).inputs = s.inputs := rfl
@[simp] theorem State.runPicture_sw : (s.runPicture).sw = s.sw := rfl
@[simp] theorem State.runPicture_scaler : (s.runPicture).scaler = s.scaler := rfl
@[simp] theorem State.runPicture_power : (s.runPicture).power = s.power := rfl
@[simp] theorem State.runPicture_scan : (s.runPicture).scan = s.scan := rfl
@[simp] theorem State.runPicture_clock : (s.runPicture).clock = s.clock := rfl
@[simp] theorem State.runPicture_keptResets : (s.runPicture).keptResets = s.keptResets := rfl
@[simp] theorem State.runPicture_skip : (s.runPicture).skip = s.skip := rfl
@[simp] theorem State.runPicture_settingsWrite : (s.runPicture).settingsWrite = s.settingsWrite := rfl
@[simp] theorem State.runPicture_lampWrite : (s.runPicture).lampWrite = s.lampWrite := rfl
@[simp] theorem State.runPicture_waitingCheckpoint : (s.runPicture).waitingCheckpoint = s.waitingCheckpoint := rfl
@[simp] theorem State.runPicture_nvSettings : (s.runPicture).nvSettings = s.nvSettings := rfl
@[simp] theorem State.runPicture_nvLamps : (s.runPicture).nvLamps = s.nvLamps := rfl

/-! ### adoptGeometry -/
@[simp] theorem State.adoptGeometry_pending (g : GeoValues) : (s.adoptGeometry g).pending = s.pending := rfl
@[simp] theorem State.adoptGeometry_control (g : GeoValues) : (s.adoptGeometry g).control = s.control := rfl
@[simp] theorem State.adoptGeometry_lectern (g : GeoValues) : (s.adoptGeometry g).lectern = s.lectern := rfl
@[simp] theorem State.adoptGeometry_restartDue (g : GeoValues) : (s.adoptGeometry g).restartDue = s.restartDue := rfl
@[simp] theorem State.adoptGeometry_window (g : GeoValues) : (s.adoptGeometry g).window = s.window := rfl
@[simp] theorem State.adoptGeometry_keypad (g : GeoValues) : (s.adoptGeometry g).keypad = s.keypad := rfl
@[simp] theorem State.adoptGeometry_remote (g : GeoValues) : (s.adoptGeometry g).remote = s.remote := rfl
@[simp] theorem State.adoptGeometry_hold (g : GeoValues) : (s.adoptGeometry g).hold = s.hold := rfl
@[simp] theorem State.adoptGeometry_level (g : GeoValues) : (s.adoptGeometry g).level = s.level := rfl
@[simp] theorem State.adoptGeometry_counters (g : GeoValues) : (s.adoptGeometry g).counters = s.counters := rfl
@[simp] theorem State.adoptGeometry_lampA (g : GeoValues) : (s.adoptGeometry g).lampA = s.lampA := rfl
@[simp] theorem State.adoptGeometry_lampB (g : GeoValues) : (s.adoptGeometry g).lampB = s.lampB := rfl
@[simp] theorem State.adoptGeometry_lastStruck (g : GeoValues) : (s.adoptGeometry g).lastStruck = s.lastStruck := rfl
@[simp] theorem State.adoptGeometry_fan (g : GeoValues) : (s.adoptGeometry g).fan = s.fan := rfl
@[simp] theorem State.adoptGeometry_recovery (g : GeoValues) : (s.adoptGeometry g).recovery = s.recovery := rfl
@[simp] theorem State.adoptGeometry_latch (g : GeoValues) : (s.adoptGeometry g).latch = s.latch := rfl
@[simp] theorem State.adoptGeometry_thermalInput (g : GeoValues) : (s.adoptGeometry g).thermalInput = s.thermalInput := rfl
@[simp] theorem State.adoptGeometry_inputs (g : GeoValues) : (s.adoptGeometry g).inputs = s.inputs := rfl
@[simp] theorem State.adoptGeometry_sw (g : GeoValues) : (s.adoptGeometry g).sw = s.sw := rfl
@[simp] theorem State.adoptGeometry_scaler (g : GeoValues) : (s.adoptGeometry g).scaler = s.scaler := rfl
@[simp] theorem State.adoptGeometry_power (g : GeoValues) : (s.adoptGeometry g).power = s.power := rfl
@[simp] theorem State.adoptGeometry_scan (g : GeoValues) : (s.adoptGeometry g).scan = s.scan := rfl
@[simp] theorem State.adoptGeometry_clock (g : GeoValues) : (s.adoptGeometry g).clock = s.clock := rfl
@[simp] theorem State.adoptGeometry_keptResets (g : GeoValues) : (s.adoptGeometry g).keptResets = s.keptResets := rfl
@[simp] theorem State.adoptGeometry_skip (g : GeoValues) : (s.adoptGeometry g).skip = s.skip := rfl
@[simp] theorem State.adoptGeometry_settingsWrite (g : GeoValues) : (s.adoptGeometry g).settingsWrite = s.settingsWrite := rfl
@[simp] theorem State.adoptGeometry_lampWrite (g : GeoValues) : (s.adoptGeometry g).lampWrite = s.lampWrite := rfl
@[simp] theorem State.adoptGeometry_waitingCheckpoint (g : GeoValues) : (s.adoptGeometry g).waitingCheckpoint = s.waitingCheckpoint := rfl
@[simp] theorem State.adoptGeometry_nvSettings (g : GeoValues) : (s.adoptGeometry g).nvSettings = s.nvSettings := rfl
@[simp] theorem State.adoptGeometry_nvLamps (g : GeoValues) : (s.adoptGeometry g).nvLamps = s.nvLamps := rfl

/-! ### sendUpdate -/
@[simp] theorem State.sendUpdate_pending (c : GeoCause) (b : Bool) : (s.sendUpdate c b).pending = s.pending := rfl
@[simp] theorem State.sendUpdate_restartDue (c : GeoCause) (b : Bool) : (s.sendUpdate c b).restartDue = s.restartDue := rfl
@[simp] theorem State.sendUpdate_conf (c : GeoCause) (b : Bool) : (s.sendUpdate c b).conf = s.conf := rfl
@[simp] theorem State.sendUpdate_window (c : GeoCause) (b : Bool) : (s.sendUpdate c b).window = s.window := rfl
@[simp] theorem State.sendUpdate_keypad (c : GeoCause) (b : Bool) : (s.sendUpdate c b).keypad = s.keypad := rfl
@[simp] theorem State.sendUpdate_remote (c : GeoCause) (b : Bool) : (s.sendUpdate c b).remote = s.remote := rfl
@[simp] theorem State.sendUpdate_hold (c : GeoCause) (b : Bool) : (s.sendUpdate c b).hold = s.hold := rfl
@[simp] theorem State.sendUpdate_level (c : GeoCause) (b : Bool) : (s.sendUpdate c b).level = s.level := rfl
@[simp] theorem State.sendUpdate_counters (c : GeoCause) (b : Bool) : (s.sendUpdate c b).counters = s.counters := rfl
@[simp] theorem State.sendUpdate_lampA (c : GeoCause) (b : Bool) : (s.sendUpdate c b).lampA = s.lampA := rfl
@[simp] theorem State.sendUpdate_lampB (c : GeoCause) (b : Bool) : (s.sendUpdate c b).lampB = s.lampB := rfl
@[simp] theorem State.sendUpdate_lastStruck (c : GeoCause) (b : Bool) : (s.sendUpdate c b).lastStruck = s.lastStruck := rfl
@[simp] theorem State.sendUpdate_fan (c : GeoCause) (b : Bool) : (s.sendUpdate c b).fan = s.fan := rfl
@[simp] theorem State.sendUpdate_recovery (c : GeoCause) (b : Bool) : (s.sendUpdate c b).recovery = s.recovery := rfl
@[simp] theorem State.sendUpdate_latch (c : GeoCause) (b : Bool) : (s.sendUpdate c b).latch = s.latch := rfl
@[simp] theorem State.sendUpdate_thermalInput (c : GeoCause) (b : Bool) : (s.sendUpdate c b).thermalInput = s.thermalInput := rfl
@[simp] theorem State.sendUpdate_inputs (c : GeoCause) (b : Bool) : (s.sendUpdate c b).inputs = s.inputs := rfl
@[simp] theorem State.sendUpdate_sw (c : GeoCause) (b : Bool) : (s.sendUpdate c b).sw = s.sw := rfl
@[simp] theorem State.sendUpdate_power (c : GeoCause) (b : Bool) : (s.sendUpdate c b).power = s.power := rfl
@[simp] theorem State.sendUpdate_scan (c : GeoCause) (b : Bool) : (s.sendUpdate c b).scan = s.scan := rfl
@[simp] theorem State.sendUpdate_clock (c : GeoCause) (b : Bool) : (s.sendUpdate c b).clock = s.clock := rfl
@[simp] theorem State.sendUpdate_keptResets (c : GeoCause) (b : Bool) : (s.sendUpdate c b).keptResets = s.keptResets := rfl
@[simp] theorem State.sendUpdate_skip (c : GeoCause) (b : Bool) : (s.sendUpdate c b).skip = s.skip := rfl
@[simp] theorem State.sendUpdate_settingsWrite (c : GeoCause) (b : Bool) : (s.sendUpdate c b).settingsWrite = s.settingsWrite := rfl
@[simp] theorem State.sendUpdate_lampWrite (c : GeoCause) (b : Bool) : (s.sendUpdate c b).lampWrite = s.lampWrite := rfl
@[simp] theorem State.sendUpdate_waitingCheckpoint (c : GeoCause) (b : Bool) : (s.sendUpdate c b).waitingCheckpoint = s.waitingCheckpoint := rfl
@[simp] theorem State.sendUpdate_nvSettings (c : GeoCause) (b : Bool) : (s.sendUpdate c b).nvSettings = s.nvSettings := rfl
@[simp] theorem State.sendUpdate_nvLamps (c : GeoCause) (b : Bool) : (s.sendUpdate c b).nvLamps = s.nvLamps := rfl

/-! ### What the updates put in place -/

@[simp] theorem State.link_setLink_same (l : Link) (k : LinkState) : (s.setLink l k).link l = k := by
  cases l <;> rfl
theorem State.link_setLink_other {l m : Link} (h : m ≠ l) (k : LinkState) :
    (s.setLink l k).link m = s.link m := by
  cases l <;> cases m <;> first | exact absurd rfl h | rfl
@[simp] theorem State.setLink_link (l : Link) : s.setLink l (s.link l) = s := by cases l <;> rfl
@[simp] theorem State.setLink_setLink (l : Link) (k j : LinkState) :
    (s.setLink l k).setLink l j = s.setLink l j := by
  cases l <;> rfl
@[simp] theorem State.lamp_setLink (l : Link) (k : LinkState) (x : LampId) :
    (s.setLink l k).lamp x = s.lamp x := by
  cases l <;> cases x <;> rfl
@[simp] theorem State.input_setLink (l : Link) (k : LinkState) (i : InputId) :
    (s.setLink l k).input i = s.input i := by
  cases l <;> rfl
@[simp] theorem State.lamp_offer (r : Report) (x : LampId) : (s.offer r).lamp x = s.lamp x := by
  cases x <;> rfl
@[simp] theorem State.input_offer (r : Report) (i : InputId) : (s.offer r).input i = s.input i := rfl
@[simp] theorem State.item_offer (r : Report) (n : Fin 104) : (s.offer r).item n = s.item n := rfl
@[simp] theorem State.lamp_setLamp_same (x : LampId) (m : Lamp) : (s.setLamp x m).lamp x = m := by
  cases x <;> rfl
theorem State.lamp_setLamp_other {x y : LampId} (h : y ≠ x) (m : Lamp) : (s.setLamp x m).lamp y = s.lamp y := by
  cases x <;> cases y <;> first | exact absurd rfl h | rfl
@[simp] theorem State.lamp_putLamp_same (x : LampId) (m : Lamp) :
    (s.putLamp x m).lamp x =
      { m with demand := demandOf m.state s.conf.lampLevel
               wakeTimer := if m.state = .lit then m.wakeTimer else none } := by
  cases x <;> rfl
theorem State.lamp_putLamp_other {x y : LampId} (h : y ≠ x) (m : Lamp) : (s.putLamp x m).lamp y = s.lamp y := by
  cases x <;> cases y <;> first | exact absurd rfl h | rfl
@[simp] theorem State.putSwitch_sw (u : SwitchUnit) : (s.putSwitch u).sw = u.drive := rfl
@[simp] theorem State.setPower_power (p : PowerUnit) : (s.setPower p).power = p := rfl
@[simp] theorem State.setRecovery_recovery (b : Bool) : (s.setRecovery b).recovery = b := rfl
/-- A vector's entry right after it is set. -/
theorem vector_get_set_same {α : Type} {n : Nat} (v : Vector α n) (i : Fin n) (x : α) :
    (v.set i.val x i.isLt).get i = x := by
  show (v.set i.val x i.isLt)[i.val] = x
  simp
/-- Another entry of a vector. -/
theorem vector_get_set_other {α : Type} {n : Nat} (v : Vector α n) {i j : Fin n} (h : j ≠ i) (x : α) :
    (v.set i.val x i.isLt).get j = v.get j := by
  have : i.val ≠ j.val := fun e => h (Fin.ext e.symm)
  show (v.set i.val x i.isLt)[j.val] = v[j.val]
  simp [this]
@[simp] theorem State.input_setInput_same (i : InputId) (r : InputRecord) : (s.setInput i r).input i = r :=
  vector_get_set_same _ _ _
theorem State.input_setInput_other {i j : InputId} (h : j ≠ i) (r : InputRecord) :
    (s.setInput i r).input j = s.input j :=
  vector_get_set_other _ h _
@[simp] theorem State.item_setItem_same (n : Fin 104) (v : Nat) : (s.setItem n v).item n = v :=
  vector_get_set_same _ _ _
theorem State.item_setItem_other {n m : Fin 104} (h : m ≠ n) (v : Nat) : (s.setItem n v).item m = s.item m :=
  vector_get_set_other _ h _
@[simp] theorem State.counter_setCounter_same (i : RuleId) (c : Counter) :
    (s.setCounter i c).counters.get i = c :=
  vector_get_set_same _ _ _
theorem State.counter_setCounter_other {i j : RuleId} (h : j ≠ i) (c : Counter) :
    (s.setCounter i c).counters.get j = s.counters.get j :=
  vector_get_set_other _ h _

/-! ### The clock through a reset -/
@[simp] theorem Clock.passed_zero (c : Clock) : c.passed 0 = some c := rfl
@[simp] theorem Clock.passed_succ (c : Clock) (n : Nat) : c.passed (n + 1) = (c.passed n).bind Clock.nextMs := rfl
/-- A clock that counts within its minute only ticks. -/
theorem Clock.nextMs_within {c : Clock} (h : c.ms < 999 ∨ c.now.second < 59) : c.nextMs = some c.tick := if_pos h
@[simp] theorem State.clockFound_powerOn : s.clockFound .powerOn = none := rfl
@[simp] theorem State.clockFound_supplyDip : s.clockFound .supplyDip = none := rfl
@[simp] theorem State.cleared_clock (k : ResetCause) : (s.cleared k).clock = s.clockFound k := rfl

end Sys2Proof.Machine
end

