-- ==== Sys2Proof/Laws/Frames.lean ====
section
/-! SUPPORT. What each shared operation leaves alone: the frames of Safety.lean, that they chain, and one lemma
for every operation of the lamps, the power unit, the switch unit and the policy unit that says which frame it
keeps. -/

namespace Sys2Proof.Machine

variable {s t u : State}

/-! ## Frames chain, and the narrow lie in the wide -/

theorem State.linksOnly.refl (s : State) : s.linksOnly s := rfl
theorem State.lampsOnly.refl (s : State) : s.lampsOnly s := rfl
theorem State.sourceOnly.refl (s : State) : s.sourceOnly s := rfl
theorem State.lampPathOnly.refl (s : State) : s.lampPathOnly s := rfl
theorem State.policyOnly.refl (s : State) : s.policyOnly s := rfl

theorem State.linksOnly.trans (h : s.linksOnly t) (k : t.linksOnly u) : s.linksOnly u := by
  cases s; cases t; cases u
  simp only [State.linksOnly, State.mk.injEq] at *
  simp_all
theorem State.lampsOnly.trans (h : s.lampsOnly t) (k : t.lampsOnly u) : s.lampsOnly u := by
  cases s; cases t; cases u
  simp only [State.lampsOnly, State.mk.injEq] at *
  simp_all
theorem State.sourceOnly.trans (h : s.sourceOnly t) (k : t.sourceOnly u) : s.sourceOnly u := by
  cases s; cases t; cases u
  simp only [State.sourceOnly, State.mk.injEq] at *
  simp_all
theorem State.lampPathOnly.trans (h : s.lampPathOnly t) (k : t.lampPathOnly u) : s.lampPathOnly u := by
  cases s; cases t; cases u
  simp only [State.lampPathOnly, State.mk.injEq] at *
  simp_all
theorem State.policyOnly.trans (h : s.policyOnly t) (k : t.policyOnly u) : s.policyOnly u := by
  cases s; cases t; cases u
  simp only [State.policyOnly, State.mk.injEq] at *
  simp_all

theorem State.linksOnly.toLamps (h : s.linksOnly t) : s.lampsOnly t := by
  cases s; cases t
  simp only [State.linksOnly, State.lampsOnly, State.mk.injEq] at *
  simp_all
theorem State.linksOnly.toSource (h : s.linksOnly t) : s.sourceOnly t := by
  cases s; cases t
  simp only [State.linksOnly, State.sourceOnly, State.mk.injEq] at *
  simp_all
theorem State.linksOnly.toPolicy (h : s.linksOnly t) : s.policyOnly t := by
  cases s; cases t
  simp only [State.linksOnly, State.policyOnly, State.mk.injEq] at *
  simp_all
theorem State.lampsOnly.toPath (h : s.lampsOnly t) : s.lampPathOnly t := by
  cases s; cases t
  simp only [State.lampsOnly, State.lampPathOnly, State.mk.injEq] at *
  simp_all
theorem State.sourceOnly.toPath (h : s.sourceOnly t) : s.lampPathOnly t := by
  cases s; cases t
  simp only [State.sourceOnly, State.lampPathOnly, State.mk.injEq] at *
  simp_all
theorem State.linksOnly.toPath (h : s.linksOnly t) : s.lampPathOnly t := h.toLamps.toPath

/-! ## The links and the store -/

theorem State.offer_frame (s : State) (r : Report) : s.linksOnly (s.offer r) := rfl
theorem State.reply_frame (s : State) (l : Link) (r : Reply) : s.linksOnly (s.reply l r) := by cases l <;> rfl
theorem State.setLamp_frame (s : State) (x : LampId) (m : Lamp) : s.lampsOnly (s.setLamp x m) := by
  cases x <;> rfl
theorem State.putLamp_frame (s : State) (x : LampId) (m : Lamp) : s.lampsOnly (s.putLamp x m) := by
  cases x <;> rfl
theorem State.checkpoint_frame (s : State) : s.lampsOnly s.checkpoint := by
  unfold State.checkpoint
  split <;> rfl
theorem State.checkpointFor_frame (s : State) (x : LampId) : s.lampsOnly (s.checkpointFor x) :=
  (s.setLamp_frame _ _).trans (State.checkpoint_frame _)
theorem State.reportLamp_frame (s : State) (x : LampId) (p : LampState) (c : LampCause) :
    s.linksOnly (s.reportLamp x p c) := rfl
theorem State.condition_frame (s : State) (x : LampId) (k : IncidentKind) : s.lampsOnly (s.condition x k) :=
  (s.setLamp_frame _ _).trans (State.offer_frame _ _).toLamps
theorem State.conditionIf_frame (s : State) (c : Bool) (x : LampId) (k : IncidentKind) :
    s.lampsOnly (s.conditionIf c x k) := by
  unfold State.conditionIf
  split
  · exact s.condition_frame x k
  · rfl
theorem State.testThresholds_frame (s : State) (x : LampId) : s.lampsOnly (s.testThresholds x) :=
  (((s.setLamp_frame _ _).trans (State.conditionIf_frame _ _ _ _)).trans
    (State.conditionIf_frame _ _ _ _)).trans (State.conditionIf_frame _ _ _ _)
theorem State.addWear_frame (s : State) (x : LampId) (n : Nat) : s.lampsOnly (s.addWear x n) :=
  (s.setLamp_frame _ _).trans (State.testThresholds_frame _ _)

/-! ## The lamp channels -/

theorem State.moveLamp_frame (s : State) (x : LampId) (f : Lamp → Lamp) (b : Bool) (c : LampCause) :
    s.lampsOnly (s.moveLamp x f b c) := by
  unfold State.moveLamp
  refine State.lampsOnly.trans ?_ (State.reportLamp_frame _ _ _ _).toLamps
  split
  · exact (s.putLamp_frame _ _).trans (State.checkpointFor_frame _ _)
  · exact s.putLamp_frame _ _
theorem State.extinguish_frame (s : State) (x : LampId) (b : Bool) (c : LampCause) :
    s.lampsOnly (s.extinguish x b c) := s.moveLamp_frame _ _ _ _
theorem State.strikeFailed_frame (s : State) (x : LampId) (b : Bool) : s.lampsOnly (s.strikeFailed x b).1 := by
  have told := fun k => s.condition_frame x k
  unfold State.strikeFailed
  dsimp only
  repeat' split
  all_goals
    dsimp only
    first
      | exact (told _).trans (State.moveLamp_frame _ _ _ _ _)
      | exact ((told _).trans (State.condition_frame _ _ _)).trans (State.moveLamp_frame _ _ _ _ _)
theorem State.faultInIgnite_frame (s : State) (x : LampId) : s.lampsOnly (s.faultInIgnite x).1 := by
  unfold State.faultInIgnite
  split
  · exact s.strikeFailed_frame x true
  · exact (s.condition_frame _ _).trans (State.moveLamp_frame _ _ _ _ _)
theorem State.takeFault_frame (s : State) (x : LampId) : s.lampsOnly (s.takeFault x).1 := by
  unfold State.takeFault
  split <;>
    first
      | exact s.faultInIgnite_frame x
      | exact (s.condition_frame _ _).trans (State.moveLamp_frame _ _ _ _ _)
      | exact (s.condition_frame _ _).trans (State.extinguish_frame _ _ _ _)
      | rfl
theorem State.ignite_frame (s : State) (x : LampId) : s.lampsOnly (s.ignite x).1 := by
  have entered : s.lampsOnly
      ((((({ s.putLamp x (s.lamp x).ignited with lastStruck := some x } : State).addWear x Config.strikeCharge
        ).checkpointFor x).reportLamp x (s.lamp x).state .strike)) := by
    refine ((State.lampsOnly.trans (t := { s.putLamp x (s.lamp x).ignited with lastStruck := some x }) ?_
      (State.addWear_frame _ _ _)).trans (State.checkpointFor_frame _ _)).trans
      (State.reportLamp_frame _ _ _ _).toLamps
    cases x <;> rfl
  unfold State.ignite
  simp only
  split
  · exact entered.trans (State.faultInIgnite_frame _ _)
  · exact entered
theorem State.unavailable_frame (s : State) (x : LampId) : s.lampsOnly (s.unavailable x).1 := by
  unfold State.unavailable
  split <;> (dsimp only; exact s.moveLamp_frame _ _ _ _)
theorem State.strike_frame (s : State) (x : LampId) : s.lampsOnly (s.strike x).1 := by
  unfold State.strike
  split
  · exact s.ignite_frame x
  · exact s.unavailable_frame x
theorem State.reachDark_frame (s : State) (x : LampId) : s.lampsOnly (s.reachDark x).1 := by
  unfold State.reachDark
  dsimp only
  split
  · exact (s.moveLamp_frame _ _ _ _).trans (State.strike_frame _ _)
  · dsimp only
    exact s.moveLamp_frame _ _ _ _
theorem State.cooled_frame (s : State) (x : LampId) : s.lampsOnly (s.cooled x).1 := by
  unfold State.cooled
  dsimp only
  repeat' split
  all_goals
    try dsimp only
    first
      | exact s.moveLamp_frame _ _ _ _
      | exact (s.moveLamp_frame _ _ _ _).trans (State.reachDark_frame _ _)
theorem State.callLamp_frame (s : State) (x : LampId) : s.lampsOnly (s.callLamp x).1 := by
  unfold State.callLamp
  dsimp only
  repeat' split
  all_goals
    try dsimp only
    first
      | exact State.lampsOnly.refl s
      | exact s.moveLamp_frame _ _ _ _
      | exact (s.setLamp_frame _ _).trans (State.strike_frame _ _)
theorem State.releaseLamp_frame (s : State) (x : LampId) : s.lampsOnly (s.releaseLamp x) := by
  unfold State.releaseLamp
  split
  · rfl
  split <;> first | exact s.moveLamp_frame _ _ _ _ | exact s.extinguish_frame _ _ _ | rfl
theorem State.thermalLamp_frame (s : State) (x : LampId) : s.lampsOnly (s.thermalLamp x) := by
  unfold State.thermalLamp
  split <;>
    first
      | exact s.extinguish_frame _ _ _
      | exact s.moveLamp_frame _ _ _ _
      | rfl
      | (split <;> first | exact s.moveLamp_frame _ _ _ _ | rfl)
theorem State.serviceLamp_frame (s : State) (x : LampId) : s.lampsOnly (s.serviceLamp x) :=
  s.moveLamp_frame _ _ _ _
theorem State.dimLamp_frame (s : State) (x : LampId) : s.lampsOnly (s.dimLamp x) := by
  unfold State.dimLamp
  split
  · exact s.moveLamp_frame _ _ _ _
  · rfl
theorem State.undimLamp_frame (s : State) (x : LampId) : s.lampsOnly (s.undimLamp x) := by
  unfold State.undimLamp
  split
  · exact s.moveLamp_frame _ _ _ _
  · rfl
theorem State.relevelLamp_frame (s : State) (x : LampId) : s.lampsOnly (s.relevelLamp x) := by
  unfold State.relevelLamp
  split
  · exact s.moveLamp_frame _ _ _ _
  · rfl
theorem State.failover_frame (n : Nat) (s : State) (x : LampId) : s.lampsOnly (s.failover x n).1 := by
  induction n generalizing s x with
  | zero => exact State.lampsOnly.refl s
  | succ n ih =>
    have called : s.lampsOnly
        (if (s.lamp (otherLamp x)).called then (s, false) else s.callLamp (otherLamp x)).1 := by
      split
      · exact State.lampsOnly.refl s
      · exact s.callLamp_frame _
    unfold State.failover
    generalize (if (s.lamp (otherLamp x)).called then (s, false) else s.callLamp (otherLamp x)) = r at *
    by_cases out : r.2 = true <;> simp only [out, if_true, Bool.false_eq_true, if_false] <;> repeat' split
    all_goals
      try dsimp only
      first
        | exact State.lampsOnly.refl s
        | exact called.trans (ih _ _)
        | exact called
theorem LampMove.settle_frame (r : LampMove) (x : LampId) : r.1.lampsOnly (LampMove.settle r x).1 := by
  unfold LampMove.settle
  split
  · exact State.failover_frame 2 r.1 x
  · rfl
theorem State.callLamps_frame (xs : List LampId) (s : State) : s.lampsOnly (s.callLamps xs) := by
  induction xs generalizing s with
  | nil => exact State.lampsOnly.refl s
  | cons x xs ih =>
    exact ((s.callLamp_frame x).trans (LampMove.settle_frame _ _)).trans (ih _)
theorem State.reshape_frame (s : State) : s.lampsOnly s.reshape := by
  unfold State.reshape State.callUncalled
  split
  · exact State.callLamps_frame _ _
  · split
    · exact s.releaseLamp_frame _
    · rfl
  · exact (s.releaseLamp_frame _).trans (State.callLamps_frame _ _)
  · exact (s.releaseLamp_frame _).trans (State.callLamps_frame _ _)

/-! ## Idle, the ways out of DIMMED, the switch unit and the monitor -/

theorem State.reportPower_frame (s : State) (p : PowerState) (c : PowerCause) (o : PowerOutcome) :
    s.linksOnly (s.reportPower p c o) := rfl
theorem State.setPower_frame (s : State) (p : PowerUnit) : s.sourceOnly (s.setPower p) := rfl
theorem State.retestIdle_frame (s : State) : s.sourceOnly s.retestIdle := rfl
/-- UNDIM stores nothing and strikes nothing, so it lies within what a change of source can reach. -/
theorem State.undimLamp_source (s : State) (x : LampId) : s.sourceOnly (s.undimLamp x) := by
  unfold State.undimLamp
  split
  · cases x <;> rfl
  · rfl
theorem State.leaveDimmed_frame (s : State) : s.sourceOnly s.leaveDimmed :=
  ((((((s.setPower_frame _).trans (State.undimLamp_source _ _)).trans (State.undimLamp_source _ _)).trans
    (State.setPower_frame _ _)).trans (State.reportPower_frame _ _ _ _).toSource).trans
    (State.retestIdle_frame _))
theorem State.leaveMark_frame (s : State) : s.sourceOnly s.leaveMark :=
  ((s.setPower_frame _).trans (State.reportPower_frame _ _ _ _).toSource).trans (State.retestIdle_frame _)
theorem State.activity_frame (s : State) : s.sourceOnly s.activity := by
  unfold State.activity
  split
  · exact s.leaveDimmed_frame
  · split
    · exact s.leaveMark_frame
    · split <;> rfl
  all_goals rfl
theorem State.signalReturned_frame (s : State) : s.sourceOnly s.signalReturned := by
  unfold State.signalReturned
  split
  · split
    · exact s.leaveDimmed_frame
    · rfl
  · split
    · exact s.leaveMark_frame
    · exact s.retestIdle_frame
  all_goals exact s.retestIdle_frame
theorem State.sourceSeen_frame (s : State) (b : Bool) : s.sourceOnly (s.sourceSeen b) := by
  unfold State.sourceSeen
  split
  · exact s.signalReturned_frame
  · exact s.retestIdle_frame
theorem State.muteSeen_frame (s : State) : s.sourceOnly s.muteSeen := by
  unfold State.muteSeen
  split
  · exact s.retestIdle_frame
  split
  · exact s.leaveDimmed_frame
  · split
    · exact s.leaveMark_frame
    · exact s.retestIdle_frame
  all_goals exact s.retestIdle_frame
theorem State.putSwitch_frame (s : State) (v : SwitchUnit) : s.sourceOnly (s.putSwitch v) := rfl
theorem State.retestWatch_frame (s : State) : s.sourceOnly s.retestWatch := by
  unfold State.retestWatch
  split
  · split <;> rfl
  · rfl
theorem State.reportSwitch_frame (s : State) (i : InputId) (o : SwitchOutcome) (c : ReqClass) (p : Nat)
    (r : Option (Link × Byte)) : s.linksOnly (s.reportSwitch i o c p r) := rfl
theorem State.beginSwitch_frame (s : State) (i : InputId) (c : ReqClass) (p : Nat)
    (r : Option (Link × Byte)) : s.sourceOnly (s.beginSwitch i c p r) :=
  (s.putSwitch_frame _).trans (State.retestWatch_frame _)
theorem State.startPending_frame (s : State) : s.sourceOnly s.startPending := by
  unfold State.startPending
  split
  · rfl
  · simp only
    split
    · exact (s.putSwitch_frame _).trans (State.reportSwitch_frame _ _ _ _ _ _).toSource
    · exact (s.putSwitch_frame _).trans (State.beginSwitch_frame _ _ _ _ _)
theorem State.runPicture_frame (s : State) : s.sourceOnly s.runPicture := rfl
theorem State.sendUpdate_frame (s : State) (c : GeoCause) (b : Bool) : s.sourceOnly (s.sendUpdate c b) := rfl
theorem State.dueUpdate_frame (s : State) (c : GeoCause) : s.sourceOnly (s.dueUpdate c) := by
  unfold State.dueUpdate
  split <;> rfl
theorem State.sourceEvent_frame (s : State) : s.sourceOnly s.sourceEvent :=
  s.runPicture_frame.trans (State.dueUpdate_frame _ _)
/-- A direct selection selects its input, and reaches the switch unit, the geometry, the scaler and the links
alone. -/
theorem State.selectDirectly_frame (s : State) (i : InputId) :
    s.sourceOnly (s.selectDirectly i) ∧ (s.selectDirectly i).sw.selected = i
      ∧ (s.selectDirectly i).geo.input = i := by
  refine ⟨(s.putSwitch_frame _).trans (State.sourceEvent_frame _), ?_, ?_⟩ <;>
  · unfold State.selectDirectly State.sourceEvent State.dueUpdate
    split <;> rfl
theorem State.completeSwitch_frame (s : State) (w : Switch) (o : SwitchOutcome) :
    s.sourceOnly (s.completeSwitch w o) :=
  ((((((s.putSwitch_frame _).trans (State.runPicture_frame _)).trans
    (State.reportSwitch_frame _ _ _ _ _ _).toSource).trans (State.sendUpdate_frame _ _ _)).trans
    (State.retestWatch_frame _)).trans (State.sourceSeen_frame _ _)).trans (State.startPending_frame _)
theorem State.dropSwitch_frame (s : State) : s.sourceOnly s.dropSwitch := by
  unfold State.dropSwitch
  split
  · rfl
  · exact (((s.putSwitch_frame _).trans (State.runPicture_frame _)).trans
      (State.reportSwitch_frame _ _ _ _ _ _).toSource).trans (State.sendUpdate_frame _ _ _)
theorem State.dropPending_frame (s : State) (o : SwitchOutcome) : s.sourceOnly (s.dropPending o) := by
  unfold State.dropPending
  split
  · rfl
  · exact (s.putSwitch_frame _).trans (State.reportSwitch_frame _ _ _ _ _ _).toSource
theorem State.stopSwitching_frame (s : State) : s.sourceOnly s.stopSwitching :=
  (s.dropSwitch_frame.trans (State.dropPending_frame _ _)).trans (State.putSwitch_frame _ _)
theorem State.awaitedSignal_frame (s : State) (i : InputId) : s.sourceOnly (s.awaitedSignal i) := by
  unfold State.awaitedSignal
  split
  · rfl
  split
  · split <;> first | exact s.completeSwitch_frame _ _ | rfl
  · rfl
theorem State.setInput_frame (s : State) (i : InputId) (r : InputRecord) : s.sourceOnly (s.setInput i r) := rfl
theorem State.signalChange_frame (s : State) (i : InputId) (r : InputRecord) (c : InputCause) :
    s.sourceOnly (s.signalChange i r c) := by
  have switched : s.sourceOnly
      ((((s.setInput i r).reportInput i (s.input i).signal c).awaitedSignal i).retestWatch) :=
    (((s.setInput_frame i r).trans (State.offer_frame _ _).toSource).trans
      (State.awaitedSignal_frame _ _)).trans (State.retestWatch_frame _)
  unfold State.signalChange
  simp only
  split
  · exact (switched.trans (State.sourceEvent_frame _)).trans (State.sourceSeen_frame _ _)
  · exact switched
theorem State.foldInputs_frame (f : State → InputId → State) (h : ∀ (s : State) (i : InputId), s.sourceOnly (f s i))
    (is : List InputId) (s : State) : s.sourceOnly (is.foldl f s) := by
  induction is generalizing s with
  | nil => exact State.sourceOnly.refl s
  | cons i is ih => exact (h s i).trans (ih _)
theorem State.sleepInputs_frame (s : State) : s.sourceOnly s.sleepInputs :=
  State.foldInputs_frame _ (fun s i => by
    unfold State.sleepInput
    split
    · rfl
    · exact s.signalChange_frame _ _ _) _ _
theorem State.wakeInputs_frame (s : State) : s.sourceOnly s.wakeInputs :=
  State.foldInputs_frame _ (fun s _ => s.signalChange_frame _ _ _) _ _

/-! ## The power unit and thermal recovery -/

theorem State.stopScan_frame (s : State) : s.lampPathOnly s.stopScan := rfl
theorem State.startScan_frame (s : State) : s.lampPathOnly s.startScan := rfl
theorem State.stopWake_frame (s : State) : s.lampPathOnly s.stopWake := rfl
theorem State.closeWindow_frame (s : State) (e : ConfirmEvent) : s.lampPathOnly (s.closeWindow e) := by
  unfold State.closeWindow
  split <;> rfl
theorem State.endHold_frame (s : State) (c : CredCause) : s.lampPathOnly (s.endHold c) := by
  unfold State.endHold
  split <;> rfl
theorem State.enterStarting_frame (s : State) (c : PowerCause) (o : PowerOutcome) :
    s.lampPathOnly (s.enterStarting c o) := by
  unfold State.enterStarting
  simp only
  refine State.lampPathOnly.trans ?_ (State.reportPower_frame _ _ _ _).toPath
  split
  · exact ((s.setPower_frame _).toPath.trans (State.stopScan_frame _)).trans (State.wakeInputs_frame _).toPath
  · exact (((s.setPower_frame _).trans (State.setPower_frame _ _)).trans (State.retestWatch_frame _)).toPath
  · exact (((s.setPower_frame _).trans (State.setPower_frame _ _)).trans (State.retestWatch_frame _)).toPath
  all_goals exact (s.setPower_frame _).toPath
theorem State.enterOn_frame (s : State) (c : PowerCause) (o : PowerOutcome) : s.lampPathOnly (s.enterOn c o) :=
  (((s.setPower_frame _).trans (State.retestIdle_frame _)).trans (State.retestWatch_frame _)).toPath.trans
    (State.reportPower_frame _ _ _ _).toPath
theorem State.enterStopping_frame (s : State) (c : PowerCause) (o : PowerOutcome) :
    s.lampPathOnly (s.enterStopping c o) :=
  ((((s.setPower_frame _).toPath.trans (State.stopWake_frame _)).trans (State.stopSwitching_frame _).toPath).trans
    (State.closeWindow_frame _ _)).trans (State.reportPower_frame _ _ _ _).toPath
theorem State.enterStandby_frame (s : State) (c : PowerCause) : s.lampPathOnly (s.enterStandby c) := by
  have reported : s.lampPathOnly
      ((((s.setPower { s.power with state := .standby, degraded := false }).sleepInputs.closeWindow
        .cancelledState).startScan).reportPower s.power.state c .none) :=
    ((((s.setPower_frame _).trans (State.sleepInputs_frame _)).toPath.trans (State.closeWindow_frame _ _)).trans
      (State.startScan_frame _)).trans (State.reportPower_frame _ _ _ _).toPath
  unfold State.enterStandby
  simp only
  split
  · exact reported.trans (State.endHold_frame _ _)
  · exact reported
theorem State.enterShutdown_frame (s : State) (c : PowerCause) : s.lampPathOnly (s.enterShutdown c) :=
  (((((s.setPower_frame _).toPath.trans (State.stopWake_frame _)).trans (State.stopScan_frame _)).trans
    (State.sleepInputs_frame _).toPath).trans (State.closeWindow_frame _ _)).trans
    (State.reportPower_frame _ _ _ _).toPath
theorem State.tryStandby_frame (s : State) : s.lampPathOnly s.tryStandby := by
  unfold State.tryStandby
  split
  · exact s.enterStandby_frame _
  · rfl
theorem State.lampEvent_frame (s : State) (p : PlaySignal) : s.lampPathOnly (s.lampEvent p) := by
  have settled : s.lampPathOnly s.settleDegraded := (s.setPower_frame _).toPath
  have marked : ∀ q : PowerUnit, s.lampPathOnly (s.settleDegraded.setPower q) := fun q =>
    settled.trans (State.setPower_frame _ _).toPath
  have failed : s.lampPathOnly s.settleDegraded.noLampInPlay :=
    ((settled.trans (State.setPower_frame _ _).toPath).trans (State.enterStopping_frame _ _ _)).trans
      (State.tryStandby_frame _)
  unfold State.lampEvent
  generalize s.settleDegraded = q at *
  dsimp only
  cases s.power.state <;> cases p <;> dsimp only
  case stopping.none | stopping.degraded | stopping.noLamp => exact settled.trans (State.tryStandby_frame _)
  case standby.none | standby.degraded | standby.noLamp => exact settled
  case shutdown.none | shutdown.degraded | shutdown.noLamp => exact settled
  case starting.noLamp | on.noLamp | dimmed.noLamp => exact failed
  all_goals
    simp only [reduceCtorEq, if_true, if_false]
    repeat' split
    all_goals
      first
        | exact marked _
        | exact (marked _).trans (State.reportPower_frame _ _ _ _).toPath
        | exact (marked _).trans (State.enterOn_frame _ _ _)
        | exact (marked _).trans (State.enterStarting_frame _ _ _)
theorem LampMove.finish_frame (r : LampMove) (x : LampId) : r.1.lampPathOnly (LampMove.finish r x) :=
  (LampMove.settle_frame r x).toPath.trans (State.lampEvent_frame _ _)
theorem State.reportThermal_frame (s : State) (e : ThermalEvent) : s.linksOnly (s.reportThermal e) := rfl
theorem State.setRecovery_frame (s : State) (b : Bool) : s.lampPathOnly (s.setRecovery b) := rfl
theorem State.endRecovery_frame (s : State) : s.lampPathOnly s.endRecovery := by
  unfold State.endRecovery
  split
  · exact ((State.reportThermal_frame s _).toPath.trans (State.setPower_frame _ _).toPath).trans
      (State.enterShutdown_frame _ _)
  · exact ((s.setRecovery_frame _).trans (State.reportThermal_frame _ _).toPath).trans (State.tryStandby_frame _)
theorem State.tryEndRecovery_frame (s : State) : s.lampPathOnly s.tryEndRecovery := by
  unfold State.tryEndRecovery
  split
  · exact s.endRecovery_frame
  · rfl
theorem State.alarmPower_frame (s : State) : s.lampPathOnly s.alarmPower := by
  unfold State.alarmPower
  simp only
  split
  all_goals
    first
      | exact (s.setPower_frame _).toPath.trans (State.enterStopping_frame _ _ _)
      | exact (s.setPower_frame _).toPath
theorem State.thermalAlarm_frame (s : State) : s.lampPathOnly s.thermalAlarm :=
  ((((((((State.offer_frame s _).toPath.trans (State.condition_frame _ _ _).toPath).trans
    (State.condition_frame _ _ _).toPath).trans (State.setRecovery_frame _ _)).trans
    (State.thermalLamp_frame _ _).toPath).trans (State.thermalLamp_frame _ _).toPath).trans
    (State.alarmPower_frame _)).trans (State.tryEndRecovery_frame _))

/-! ## The policy unit -/

theorem State.setCounter_frame (s : State) (i : RuleId) (c : Counter) : s.policyOnly (s.setCounter i c) := rfl
theorem State.limitReached_frame (s : State) (i : RuleId) (c : ReqClass) (k : Byte) :
    s.policyOnly (s.limitReached i c k) := by
  unfold State.limitReached
  split <;> rfl
theorem State.count_frame (s : State) (i : RuleId) (c : ReqClass) (k : Byte) : s.policyOnly (s.count i c k) := by
  unfold State.count
  simp only
  split
  · split
    · exact s.limitReached_frame _ _ _
    · rfl
  all_goals rfl
theorem Working.takeRule_frame (q : Question) (w : Working) (i : RuleId) :
    w.s.policyOnly (w.takeRule q i).s := by
  unfold Working.takeRule
  simp only
  split
  · exact State.count_frame _ _ _ _
  · exact State.policyOnly.refl _
theorem Working.foldRules_frame (q : Question) (is : List RuleId) (w : Working) :
    w.s.policyOnly (is.foldl (Working.takeRule q) w).s := by
  induction is generalizing w with
  | nil => exact State.policyOnly.refl _
  | cons i is ih => exact (Working.takeRule_frame q w i).trans (ih _)
/-- An evaluation reaches the links, the level and the counters alone. -/
theorem State.evaluate_frame (s : State) (c : ReqClass) (o : Operation) (p : Option Nat) :
    s.policyOnly (s.evaluate c o p).2 := Working.foldRules_frame _ _ _

end Sys2Proof.Machine
end

