-- ==== Sys2Proof/Laws/Requests.lean ====
section
/-! SUPPORT. What becomes of a request command: left alone when its link does not take it, answered with the
refusal of the link's checks, handed to its owning block when it passes them, and judged by the policy unit when
it is operational. -/

namespace Sys2Proof.Machine

variable {s t : State} {l : Link} {kind tag : Byte} {payload : List Byte}

/-- A request that the link does not take changes nothing. -/
theorem State.handled_untaken (pass : State → State) (h : ∀ t, ¬ s.linkTakes l ⟨kind, tag, payload⟩ t) :
    s.handled l kind tag payload pass = s := by
  unfold State.handled
  split
  · rfl
  · rename_i k hk
    exact absurd ⟨k, hk, rfl⟩ (h (s.setLink l k))

/-- A request that a check of the link refuses is answered with the refusal. -/
theorem State.handled_refused (pass : State → State) {a : Answer} (h : s.linkTakes l ⟨kind, tag, payload⟩ t)
    (r : t.linkRefusal l kind payload = some a) :
    s.handled l kind tag payload pass = t.answer l kind tag a := by
  obtain ⟨k, hk, rfl⟩ := h
  simp [State.handled, hk, r]

/-- A request that passes the link's checks goes on. -/
theorem State.handled_passed (pass : State → State) (h : s.linkTakes l ⟨kind, tag, payload⟩ t)
    (r : t.linkRefusal l kind payload = none) : s.handled l kind tag payload pass = pass t := by
  obtain ⟨k, hk, rfl⟩ := h
  simp [State.handled, hk, r]

/-- A management request other than RESTART passes on a link that may manage, under a TECH hold where it needs
one (R6). -/
theorem State.management_passes (n : requestLength kind = some payload.length) (r : kind ≠ 0x3D)
    (m : t.mayManage l) (tech : needsTech kind payload = false ∨ t.techHold = true) :
    t.linkRefusal l kind payload = none := by
  simp only [State.linkRefusal, n, ne_eq, not_true_eq_false, if_false, State.access, r]
  rcases m with rfl | m
  · rcases tech with h | h <;> simp [h]
  · simp [m]

/-- An operational request passes the link's checks when its payload has its length (R5). -/
theorem State.operational_passes (n : requestLength kind = some payload.length)
    (o : isManagement kind = false) : t.linkRefusal l kind payload = none := by
  simp [State.linkRefusal, n, State.access, o]

/-- A management request that passes is decided by its block. -/
theorem State.request_served (body : State → Taken) (h : s.linkTakes l ⟨kind, tag, payload⟩ t)
    (r : t.linkRefusal l kind payload = none) :
    s.request l kind tag payload body = (body t).2.answer l kind tag (body t).1 :=
  State.handled_passed _ h r

/-- An operational request with an argument that is no code of its list is refused BAD_VALUE (R49). -/
theorem State.operational_bad (h : s.linkTakes l ⟨kind, tag, payload⟩ t)
    (n : requestLength kind = some payload.length) (m : isManagement kind = false) :
    s.operational l kind tag payload none = t.answer l kind tag (Answer.bare .badValue) :=
  State.request_served _ h (State.operational_passes n m)

/-- A denied operational request is answered DENIED, with what its evaluation counted (R51). -/
theorem State.operational_denied {o : Operation} (h : s.linkTakes l ⟨kind, tag, payload⟩ t)
    (n : requestLength kind = some payload.length) (m : isManagement kind = false)
    (d : (t.evaluate (ReqClass.ofLink l) o none).1.permit = false) :
    s.operational l kind tag payload (some o)
      = (t.evaluate (ReqClass.ofLink l) o none).2.answer l kind tag
          ⟨.denied, [(t.evaluate (ReqClass.ofLink l) o none).1.deciding]⟩ := by
  unfold State.operational
  rw [State.request_served _ h (State.operational_passes n m)]
  simp [State.operate, d]

/-- A permitted operational request is taken by its owning block, the activity of R169 first (R51). -/
theorem State.operational_permitted {o : Operation} {p : Nat} {u : State}
    (h : s.linkTakes l ⟨kind, tag, payload⟩ t) (n : requestLength kind = some payload.length)
    (m : isManagement kind = false) (q : t.permits l o p u) :
    s.operational l kind tag payload (some o)
      = (u.take o ⟨ReqClass.ofLink l, p, some (l, tag)⟩).2.answer l kind tag
          (u.take o ⟨ReqClass.ofLink l, p, some (l, tag)⟩).1 := by
  obtain ⟨d, rfl, rfl⟩ := q
  unfold State.operational
  rw [State.request_served _ h (State.operational_passes n m)]
  simp [State.operate, d]

/-- A request without a link has the same way in (R22, R51). -/
theorem State.operate_permitted (s : State) (c : ReqClass) (o : Operation) (r : Option (Link × Byte))
    (p : Option Nat) (d : (s.evaluate c o p).1.permit = true) :
    s.operate c o r p
      = (if o.isActivity c then (s.evaluate c o p).2.activity else (s.evaluate c o p).2).take o
          ⟨c, (s.evaluate c o p).1.priority, r⟩ := by
  simp [State.operate, d]

/-- A denied request without a link leaves what its evaluation counted. -/
theorem State.operate_denied (s : State) (c : ReqClass) (o : Operation) (r : Option (Link × Byte))
    (p : Option Nat) (d : (s.evaluate c o p).1.permit = false) :
    s.operate c o r p = (⟨.denied, [(s.evaluate c o p).1.deciding]⟩, (s.evaluate c o p).2) := by
  simp [State.operate, d]

/-- The reply kind of the kinds that are not refused UNKNOWN_KIND (R5). -/
theorem replyKind_known (h : requestLength kind ≠ none) : replyKind kind = kind + 0x80 := by
  revert h
  revert kind
  decide +kernel

end Sys2Proof.Machine
end

