-- ==== Sys2Proof/Tests/Slice0.lean ====
section
/-! SUPPORT. Tests of the model: commands that cannot reach the part, worked figures of the manual, one small
step of each family, and for every statement with hypotheses a state and operands that meet them. -/

set_option Elab.async false

namespace Sys2Proof.Tests

open Sys2Proof Sys2Proof.Machine

/-! ## Helpers -/

/-- The state after a command. -/
def after (c : Instr) (s : State) : State :=
  match exec c s with
  | .next t => t
  | .fault _ | .refused _ => s

/-- The part right after reset, in another power state. -/
def atPower (p : PowerState) : State :=
  { State.reset with power := { State.reset.power with state := p, intent := p.running } }

/-- A lamp record that stores lamp A's lit flag, and settings that store a resume and a start level. -/
def litBefore (resume level : Nat) : State :=
  let entry := fun lit : Bool => LampEntry.mk 500 3 false false 2 [] lit
  { State.reset with
    nvLamps := some ⟨entry true, entry false⟩
    nvSettings := some
      { Stored.defaults with items := (Stored.defaults.items.set 32 resume).set 5 level } }

/-- The part right after reset, with a lamp changed. -/
def withLamp (f : Lamp → Lamp) (s : State := State.reset) : State := { s with lampA := f s.lampA }

/-- A lamp in a state with its timer running. -/
def inState (st : LampState) (m : Lamp) : Lamp := { m with state := st, called := true, timer := some 5 }

/-- A TECH hold stands. -/
def withTech (s : State) : State := { s with hold := some ⟨.tech, 1, 60000, .control⟩ }

/-- The clock stands at a date and time of day. -/
def withClock (year month day hour minute : Nat) (s : State := State.reset) : State :=
  { s with clock := some ⟨⟨⟨year, month, day⟩, hour, minute, 59⟩, 999⟩ }

/-- A request of a permitted operation, as its owning block takes it. -/
def permitted (s : State) (o : Operation) : State :=
  if o.isActivity .control then (s.evaluate .control o none).2.activity else (s.evaluate .control o none).2

/-- A request is taken as it comes where the queue is empty and the link is free. -/
theorem takes_as_it_comes (s : State) (r : Request) (h : s.control.takes r = some s.control) :
    s.linkTakes .control r s := ⟨s.control, h, rfl⟩

/-- Every request is taken as it comes right after reset. -/
theorem reset_takes (r : Request) : State.reset.linkTakes .control r State.reset :=
  takes_as_it_comes _ r rfl

/-! ## Commands that cannot reach the part -/

theorem test_unknown_kind_of_a_known_kind : (Instr.unknownKind .control 0x20 0 []).wellFormed = false := by
  decide
theorem test_payload_too_long_for_a_frame :
    (Instr.powerOn .control 0 (List.replicate 249 0)).wellFormed = false
      ∧ (Instr.readStatus .control 0 (List.replicate 249 0)).wellFormed = false
      ∧ (Instr.unknownKind .control 0x40 0 (List.replicate 249 0)).wellFormed = false := by
  decide +kernel
theorem test_repeat_of_a_key_that_does_not_repeat : (Instr.keyRepeat .power).wellFormed = false := by decide
theorem test_measurement_out_of_range :
    (Instr.measurement 0 true 4097 100 100).wellFormed = false
      ∧ (Instr.measurement 0 true 100 2161 100).wellFormed = false := by decide
theorem test_measurement_without_sync_is_zero : (Instr.measurement 0 false 1 0 0).wellFormed = false := by
  decide
theorem test_ordinary_commands_are_well_formed :
    (Instr.keyRepeat .keyUp).wellFormed = true ∧ (Instr.powerOn .control 0 []).wellFormed = true
      ∧ (Instr.measurement 0 true 4096 2160 65535).wellFormed = true := by decide
theorem test_no_row_has_bits : decodeTableWord 16 0x5A02 = none := rfl

/-! ## Worked figures of the manual -/

/-- Section 1.6: READ_STATUS with tag 7. -/
theorem test_read_status_frame : frameOf [0x20, 7] = [0x5A, 0x02, 0x20, 0x07, 0xD7] := by decide
/-- Section 1.6: the BUSY reply to it. -/
theorem test_busy_reply_frame :
    (OutFrame.reply ⟨0xA0, 7, .busy, []⟩).bytes = [0x5A, 0x03, 0xA0, 0x07, 0x04, 0x52] := by decide
/-- R74: waits of 10, 20, 40 s, and 40 s again under a cap of 2. -/
theorem test_retry_waits :
    [1, 2, 3, 4].map (fun n => ({ Lamp.fresh with attempts := n, cap := 2 } : Lamp).retryWaitMs)
      = [10000, 20000, 40000, 40000] := by decide
/-- R147: V = +20 and a TL offset of -100 put TL.x at 80. -/
theorem test_keystone_and_offset :
    ({ v := 20, h := 0, tl := ⟨-100, 0⟩, tr := ⟨0, 0⟩, br := ⟨0, 0⟩, bl := ⟨0, 0⟩ } : GeoValues).quad.tl
      = ⟨80, 0⟩ := by decide
/-- R148: the full panel has area permille 1000. -/
theorem test_full_panel_area : fullPanel.area2 = 4608000 ∧ fullPanel.area = 1000 := by decide
/-- R178: 2000-01-01 was a Saturday. -/
theorem test_first_day_is_a_saturday : (Date.mk 2000 1 1).weekday = 5 := by decide
/-- R178: 2024 has a 29 February. -/
theorem test_leap_day : (Date.mk 2024 2 28).next = ⟨2024, 2, 29⟩ ∧ (Date.mk 2024 2 29).next = ⟨2024, 3, 1⟩ := by
  decide
/-- R47: a range whose bounds stand in falling order wraps over the end of the week. -/
theorem test_wrapped_range :
    insideRange 10000 60 10079 = true ∧ insideRange 10000 60 0 = true ∧ insideRange 10000 60 61 = false := by
  decide
/-- R194: a scan multiple goes to the nearest of 1, 2, 4 and 8, and a number into its range. -/
theorem test_setting_forms :
    ([0, 1, 2, 3, 5, 6, 100].map ItemForm.multiple.apply = [1, 1, 2, 4, 4, 8, 8])
      ∧ [0, 5, 99].map (ItemForm.range 1 8).apply = [1, 5, 8] := by decide

/-! ## One step of each family -/

/-- R2, R4: the five bytes of READ_STATUS leave the request in the inbound queue. -/
theorem test_bytes_make_a_request :
    (([0x5A, 0x02, 0x20, 0x07, 0xD7] : List Byte).foldl (fun s b => after (.linkByteReceived .control b true) s)
      State.reset).control.inbound = [⟨0x20, 7, []⟩] := by decide +kernel
/-- R2, R3: a wrong check byte discards the frame and counts it. -/
theorem test_wrong_check_is_counted :
    (([0x5A, 0x02, 0x20, 0x07, 0xD8] : List Byte).foldl (fun s b => after (.linkByteReceived .control b true) s)
      State.reset).control.errors = 1 := by decide +kernel
theorem test_frame_stall :
    (after (.frameStall .control) (after (.linkByteReceived .control 0x5A true) State.reset)).control.errors = 1 := by
  decide +kernel
/-- R12: START goes out first; READ_STATUS's reply waits for it, ahead of every report. -/
theorem test_reply_waits_for_start :
    (after (.readStatus .control 7 []) State.reset).control.replies.map (·.kind) = [0xA0]
      ∧ (after (.frameSendEnd .control) (after (.readStatus .control 7 []) State.reset)).control.replies = [] := by
  decide +kernel
/-- R5: a kind of 0x80 or above is answered with reply kind 0xFF. -/
theorem test_unknown_kind :
    (after (.unknownKind .control 0x90 1 []) State.reset).control.replies
      = [⟨0xFF, 1, .unknownKind, []⟩] := by decide +kernel
/-- R6: on the lectern link a management request needs a TECH hold. -/
theorem test_lectern_needs_tech :
    (after (.readClock .lectern 1 []) State.reset).lectern.replies = [⟨0xB1, 1, .needsTech, []⟩]
      ∧ (after (.readClock .control 1 []) State.reset).control.replies = [⟨0xB1, 1, .clockUnset, []⟩] := by
  decide +kernel
/-- R70, R82, R85: right after reset both lamps are HOT, so POWER_ON leaves them waiting. -/
theorem test_power_on_waits_for_the_hold :
    let t := after (.powerOn .control 1 []) State.reset
    t.power.state = .starting ∧ t.lampA.waiting = true ∧ t.lampA.state = .hot := by decide +kernel
/-- R82: the hold reached, the waiting lamp is struck. -/
theorem test_hold_reached_strikes :
    let t := after (.holdReached .a) (after (.powerOn .control 1 []) State.reset)
    t.lampA.state = .ignite ∧ t.lampA.attempts = 1 ∧ t.lampA.wear = 600 := by decide +kernel
theorem test_power_off :
    let t := after (.powerOff .control 2 []) (after (.powerOn .control 1 []) State.reset)
    t.power.state = .standby ∧ t.lampA.waiting = false := by decide +kernel
/-- R130, R152: in STANDBY a select is direct, and one of the selected input is fitted and sent too. -/
theorem test_select_in_standby :
    (after (.selectInput .control 1 [5]) State.reset).sw.selected = 5
      ∧ ((after (.selectInput .control 1 [0]) State.reset).control.reports.map fun r => r.2.index)
        = State.reset.control.reports.map (fun r => r.2.index) ++ [Report.index (.geometry
          ⟨.source, false, 0, .fill, 0, 0, fullUpdate⟩)] := by decide +kernel
/-- R132: in ON a switch begins in BLANK. -/
theorem test_select_in_on :
    let t := after (.selectInput .control 1 [5]) (atPower .on)
    t.sw.selected = 0 ∧ t.sw.blankLine = true ∧ (t.sw.inFlight.map (·.target)) = some 5 := by decide +kernel
/-- R132, R133: BLANK, SETTLE, and the completion on an input without signal. -/
theorem test_switch_completes :
    let t := after .settleExpiry (after .blankEnd (after (.selectInput .control 1 [5]) (atPower .on)))
    t.sw.selected = 5 ∧ t.sw.inFlight = none ∧ t.sw.hold.isSome = true := by decide +kernel
theorem test_source_hold_expires :
    (after .sourceHoldExpiry (after .settleExpiry (after .blankEnd
      (after (.selectInput .control 1 [5]) (atPower .on))))).sw.hold = none := by decide +kernel
theorem test_deferral_expires :
    let t := after (.selectInput .control 2 [6]) (after (.selectInput .control 1 [5]) (atPower .on))
    (t.sw.slot.map (·.input)) = some 6 ∧ (after .deferralExpiry t).sw.slot = none := by decide +kernel
theorem test_picture_mute : (after (.pictureMute .control 1 [1]) State.reset).sw.blankLine = true := by
  decide +kernel
theorem test_set_keystone :
    (after (.setKeystone .control 1 [0, 20, 0]) State.reset).geo.quad.tl = ⟨180, 0⟩ := by decide +kernel
theorem test_set_corner :
    (after (.setCorner .control 1 [0, 0, 100, 0, 50]) State.reset).geo.quad.tl = ⟨100, 50⟩ := by decide +kernel
theorem test_recall_geometry :
    let t := after (.storeGeometry .control 2 [3]) (after (.setKeystone .control 1 [0, 20, 0]) State.reset)
    (after (.recallGeometry .control 4 [3]) (after (.setKeystone .control 3 [0, 0, 0]) t)).conf.geometry.v = 20 := by
  decide +kernel
theorem test_set_lamp_level : (after (.setLampLevel .control 1 [1]) State.reset).conf.lampLevel = .eco := by
  decide +kernel
theorem test_set_lamp_plan : (after (.setLampPlan .control 1 [2]) State.reset).conf.plan = .fixedA := by
  decide +kernel
theorem test_set_lockout : (after (.setLockout .control 1 [2]) State.reset).level = .secure := by decide +kernel
/-- R31: an unknown personal token presents an UNKNOWN hold for 90 minutes. -/
theorem test_present_credential :
    ((after (.presentCredential .lectern 1 [0, 0, 0, 0, 0, 5]) State.reset).hold.map fun h => (h.cls, h.minutes))
      = some (.unknown, 90) := by decide +kernel
theorem test_end_credential :
    (after (.endCredential .control 1 []) (withTech State.reset)).hold = none
      ∧ (after .holdExpiry (withTech State.reset)).hold = none := by decide +kernel
/-- The payload lengths of R20, R18, R43, R33, R34, R182, R184, R126, R127, R158, R194 and R109. -/
theorem test_reads_answer_ok :
    ([Instr.readLamp .control 1 [1], .readInput .control 1 [7], .readGeometry .control 1 [0],
        .readRule .control 1 [15], .readMatrix .control 1 [3, 5], .readCard .control 1 [7],
        .readGroups .control 1 [], .readEntry .control 1 [47], .readExceptions .control 1 [],
        .readFormat .control 1 [15], .readSetting .control 1 [4], .readIncidents .control 1 [0]].map
      fun c => (after c State.reset).control.replies.map fun r => (r.result, r.payload.length))
      = [[(.ok, 18)], [(.ok, 17)], [(.ok, 60)], [(.ok, 21)], [(.ok, 5)], [(.ok, 8)], [(.ok, 9)], [(.ok, 8)],
        [(.ok, 1)], [(.ok, 12)], [(.ok, 3)], [(.ok, 2)]] := by decide +kernel
theorem test_reads_refuse_bad_values :
    ([Instr.readLamp .control 1 [2], .readInput .control 1 [8], .readGeometry .control 1 [5],
        .readRule .control 1 [16], .readMatrix .control 1 [4, 0], .readCard .control 1 [8],
        .readEntry .control 1 [48], .readFormat .control 1 [16], .readSetting .control 1 [0],
        .readIncidents .control 1 [2]].map
      fun c => (after c State.reset).control.replies.map (·.result)) = List.replicate 10 [.badValue] := by
  decide +kernel

/-- R194: 65535 minutes of auto-off time are brought to the top of the item's range. -/
theorem test_write_setting :
    (after (.writeSetting .control 1 [27, 0xFF, 0xFF]) State.reset).item 27 = 120 := by decide +kernel
theorem test_write_format :
    ((after (.writeFormat .control 1 [3, 0, 0x02, 0x80, 0x01, 0xE0, 0x17, 0x70, 0x17, 0x70, 0, 0, 0])
      State.reset).conf.formats.get 3).enabled = false := by decide +kernel
theorem test_write_card :
    ((after (.writeCard .control 1 [7, 1, 0, 0, 0, 0, 0, 9, 4]) State.reset).conf.cards.get 7)
      = ⟨true, 9, .tech⟩ := by decide +kernel
theorem test_write_groups :
    (after (.writeGroups .control 1 [0, 0, 0, 0, 0, 0, 0, 1, 4]) State.reset).conf.filter.acceptAll = true := by
  decide +kernel
/-- R61: a mask of the verdict group alone. -/
theorem test_write_rule :
    let t := after (.writeRule .control 1 ([0, 0x00, 0x10] ++ [0, 0, 0, 0, 0, 0, 0, 0, 0, 0, 1, 0, 0, 0, 0, 0, 0, 0, 1,
      0, 0])) State.reset
    (t.conf.rules.get 0).verdict ≠ (State.reset.conf.rules.get 0).verdict
      ∧ (t.conf.rules.get 0).requesters = (State.reset.conf.rules.get 0).requesters := by decide +kernel
theorem test_write_matrix :
    ((after (.writeMatrix .control 1 [0, 1, 1, 1, 0x0F, 7, 0, 0]) State.reset).conf.cell .opened .lectern)
      = ⟨false, 0x0F, 7⟩ := by decide +kernel
theorem test_write_entry :
    ((after (.writeEntry .control 1 [47, 0x1F, 1, 0x7F, 0x05, 0x9F, 7, 9, 0, 3]) State.reset).conf.week.get 47)
      = ⟨true, 0x7F, 1439, .notice, 9, 0, 3⟩ := by decide +kernel
theorem test_write_exception :
    let t := after (.writeException .control 1 [0, 0x07, 0xE8, 2, 29, 0x81]) State.reset
    t.conf.exceptions = [⟨⟨2024, 2, 29⟩, 0x81⟩]
      ∧ (after (.writeException .control 2 [1, 0x07, 0xE8, 2, 29, 0]) t).conf.exceptions = [] := by decide +kernel
theorem test_set_clock :
    ((after (.setClock .control 1 [0x07, 0xE8, 2, 29, 23, 59, 59]) State.reset).clock.map (·.now.minuteOfWeek))
      = some 5759 := by decide +kernel
theorem test_set_table_lock :
    (after (.setTableLock .control 1 [1, 8, 4]) State.reset).conf.lock = ⟨true, 8, 4⟩ := by decide +kernel
theorem test_learn_base :
    (after (.learnBase .control 1 [0xFF]) State.reset).control.replies.map (·.payload.length) = [16] := by
  decide +kernel
theorem test_commit_waits_for_its_write :
    (after (.commit .control 1 []) State.reset).control.replies = []
      ∧ (after .settingsWriteEnd (after (.commit .control 1 []) State.reset)).control.replies.map (·.result)
        = [.ok] := by decide +kernel
theorem test_lamp_write_end :
    let t := after (.holdReached .a) (after (.powerOn .control 1 []) State.reset)
    (after .lampWriteEnd t).nvLamps.isSome = true := by decide +kernel
theorem test_service_clear_of_a_lamp :
    (after (.serviceClear .control 1 [0]) (withTech (withLamp fun m => { m with wakeLate := 9 }))).lampA.wakeLate = 0 := by
  decide +kernel
theorem test_service_clear_of_the_projector :
    (after (.serviceClear .control 1 [2]) (withTech (atPower .shutdown))).power.state = .standby := by
  decide +kernel
/-- R103: a lamp in HOT keeps its wear. -/
theorem test_reset_lamp_wear :
    (after (.resetLampWear .control 1 [0]) (withTech (withLamp fun m => { m with state := .dark, wear := 9 }))).lampA.wear
        = 0
      ∧ (after (.resetLampWear .control 1 [0]) (withTech (withLamp fun m => { m with wear := 9 }))).lampA.wear = 9 := by
  decide +kernel
theorem test_restart_after_its_reply :
    let t := after (.restart .control 1 []) State.reset
    t.restartDue = false
      ∧ (after (.frameSendEnd .control) (after (.frameSendEnd .control) t)).restartDue = true := by decide +kernel
/-- R190: a kept clock has counted on through the reset, and a supply dip leaves it unset. -/
theorem test_restart_keeps_the_clock (s : State) :
    s.clockFound .restart = s.clock.bind (fun c => c.passed (Config.timeInReset s.keptResets))
      ∧ (after .supplyDip (withClock 2024 2 29 8 0)).clock = none := ⟨rfl, by decide +kernel⟩
/-- R178: with no minute start taken, a leap day begins, and the end of 2099 leaves the clock unset. -/
theorem test_clock_counts_through_a_reset :
    ((withClock 2024 2 28 23 59).clock.bind (·.passed 1)) = some ⟨⟨⟨2024, 2, 29⟩, 0, 0, 0⟩, 0⟩
      ∧ ((withClock 2099 12 31 23 59).clock.bind (·.passed 1)) = none := by decide +kernel
/-- Assumption 7: State.reset is the part after its first SUPPLY_APPLIED. -/
theorem test_reset_is_the_first_start_up :
    exec .supplyApplied State.reset = .next State.reset := by
  show Host.Outcome.next (State.reset.startUp .powerOn) = _
  exact congrArg _ (by decide +kernel)
theorem test_reset_line : (after .resetLine State.reset).power.state = .standby := by decide +kernel
/-- R119: the thermal alarm input asserted at a start-up gives SHUTDOWN. -/
theorem test_start_with_the_alarm :
    (after .resetLine { State.reset with thermalInput := true }).power.state = .shutdown := by decide +kernel
/-- R176: a resume after a supply dip waits in STARTING; under the start level SECURE it is denied. -/
theorem test_resume :
    let t := after .supplyDip (litBefore 1 0)
    (t.power.state, t.power.intentClass, t.lampA.waiting, t.lampB.waiting) = (.starting, some .auto, true, true)
      ∧ (after .supplyDip (litBefore 1 2)).power.state = .standby
      ∧ (after .resetLine (litBefore 1 0)).power.state = .standby := by decide +kernel
theorem test_power_key_opens_the_window :
    let t := after (.keyPress .power) (atPower .on)
    (t.window.map (·.source)) = some .panel ∧ (after .confirmationWindowExpiry t).window = none
      ∧ (after (.keyPress .mute) t).window = none := by decide +kernel
theorem test_key_up_repeats :
    let t := after (.keyPress .keyUp) State.reset
    (after (.keyRepeat .keyUp) t).conf.geometry.v = 2
      ∧ (after (.keyRepeat .keyUp) (after (.keyRelease .keyUp) t)).conf.geometry.v = 1 := by decide +kernel
/-- R28: address 0x2C, DIRECT_3; another address is ignored. -/
theorem test_remote_direct :
    (after (.remoteCode 0x2C 0x22 false) State.reset).sw.selected = 2
      ∧ (after (.remoteCode 0x2D 0x22 false) State.reset).sw.selected = 0 := by decide +kernel
/-- R54: the last unit of a COUNT_DOWN rule disables it. -/
theorem test_count_down_disables :
    let r := { State.reset.conf.rules.get 2 with enabled := true, counterMode := .countDown }
    let s := { State.reset.setRule 2 r with counters := State.reset.counters.set 2 ⟨1, some 1000⟩ }
    ((after (.countDownDecrement 2) s).conf.rules.get 2).enabled = false
      ∧ ((after (.countDownDecrement 3) s).conf.rules.get 2).enabled = true := by decide +kernel
theorem test_lit_sense_warms_up :
    (after (.litSense .a) (withLamp (inState .ignite))).lampA.state = .warmup
      ∧ (after (.litSense .a) (withLamp (inState .hot))).lampA.state = .hot := by decide +kernel
theorem test_strike_window_fails :
    let s := withLamp fun m => { inState .ignite m with attempts := 1, limit := 4, cap := 2 }
    (after (.strikeWindowExpiry .a) s).lampA.state = .retryWait
      ∧ (after (.strikeWindowExpiry .a) (withLamp (fun m => { m with attempts := 4 }) s)).lampA.state = .out := by
  decide +kernel
theorem test_retry_wait_strikes :
    let s := withLamp fun m => { inState .retryWait m with attempts := 1, limit := 4, since := 200000 }
    (after (.retryWaitExpiry .a) s).lampA.attempts = 2
      ∧ (after (.retryHoldReached .a) (after (.retryWaitExpiry .a) (withLamp (fun m => { m with since := 0 }) s))).lampA.attempts
        = 2 := by decide +kernel
theorem test_ballast_fault :
    (after (.ballastFault .a) (withLamp (inState .lit) (atPower .on))).lampA.out = true
      ∧ after (.ballastFault .a) State.reset = withLamp (fun m => { m with faultLine := true })
      ∧ (after (.ballastFaultRelease .a) (withLamp fun m => { m with faultLine := true })).lampA.faultLine = false := by
  decide +kernel
/-- R105: a weak arc is a NOTE. -/
theorem test_warmed_with_a_weak_arc :
    let t := after (.warmupExpiry .a true) (withLamp (inState .warmup) (atPower .on))
    t.lampA.state = .lit ∧ t.lampA.demand = .full ∧ t.lampA.history.map (·.cls) = [.note] := by decide +kernel
theorem test_cooldown_ends :
    (after (.cooldownExpiry .a) (withLamp fun m => { m with state := .cooldown, timer := some 0, out := true })).lampA.state
        = .out
      ∧ (after (.cooldownExpiry .a) (withLamp fun m => { m with state := .cooldown, timer := some 0 })).lampA.state
        = .hot := by decide +kernel
/-- R94: 9 units for a second in LIT at ECO, 6 in DIMMED. -/
theorem test_lit_second :
    let s := withLamp (inState .lit) { State.reset with conf := { State.reset.conf with lampLevel := .eco } }
    (after (.litSecond .a) s).lampA.wear = 9
      ∧ (after (.litSecond .a) (withLamp (inState .dimmed) s)).lampA.wear = 6 := by decide +kernel
theorem test_thermal_alarm_without_lamps :
    (after .thermalAlarm State.reset).power.state = .shutdown
      ∧ (after .thermalInputRelease (after .thermalAlarm State.reset)).thermalInput = false := by decide +kernel
theorem test_thermal_alarm_cools :
    let t := after .thermalAlarm (withLamp (inState .lit) (atPower .on))
    t.power.state = .stopping ∧ t.lampA.state = .cooldown ∧ (after .thermalAlarm t).latch = true := by
  decide +kernel
theorem test_at_level_stops_the_wake_timer :
    let s := withLamp fun m => { inState .lit m with wakeTimer := some 3 }
    (after (.wakeTimerExpiry .a) s).lampA.wakeLate = 1
      ∧ (after (.wakeTimerExpiry .a) (after (.atLevelRelease .a) (after (.atLevel .a) s))).lampA.wakeLate = 0 := by
  decide +kernel
/-- R122: three matches of 1920 x 1080 at 60.00 Hz make an input STABLE. -/
theorem test_three_matches_are_stable :
    let m := Instr.measurement 0 true 1920 1080 6000
    let s := { atPower .on with
      inputs := State.reset.inputs.set 0 { InputRecord.fresh with signal := .acquiring, acquire := some 4000 } }
    ((after m (after m s)).input 0).signal = .acquiring
      ∧ ((after m (after m (after m s))).input 0).signal = .stable := by decide +kernel
theorem test_acquire_timeout :
    let s := { atPower .on with
      inputs := State.reset.inputs.set 0 { InputRecord.fresh with signal := .acquiring, acquire := some 0 } }
    ((after (.acquireTimeout 0) s).input 0).signal = .absent := by decide +kernel
theorem test_loss_grace_expires :
    let s := atPower .on
    (after .lossGraceExpiry { s with sw := { s.sw with watch := .grace, grace := some 0 } }).sw.watch = .lost := by
  decide +kernel
theorem test_idle_dims :
    let s := withLamp (inState .lit) { atPower .on with power := { (atPower .on).power with idle := some 0 } }
    (after .idleExpiry s).power.state = .dimmed ∧ (after .idleExpiry s).lampA.demand = .dim := by decide +kernel
theorem test_auto_off :
    let s := { atPower .on with power := { (atPower .on).power with autoOff := some 0, idleExpired := true } }
    (after .autoOffExpiry s).power.intent = false := by decide +kernel
/-- R173: the second sample in a row beyond the range wakes. -/
theorem test_scan_wakes :
    let c := State.reset.conf
    let s := { State.reset with conf := { c with items := (c.items.set 33 1).set 35 1 } }
    let t := after (.scanInterval 0 (Vector.replicate 8 1000)) s
    t.power.state = .standby
      ∧ (after (.scanInterval 0 (Vector.replicate 8 1000)) t).power.state = .starting := by decide +kernel
/-- R178, R186: the minute after 23:59 on 28 February 2024; the end of the clock. -/
theorem test_minute_start :
    ((after .minuteStart (withClock 2024 2 28 23 59)).clock.map (·.now)) = some ⟨⟨2024, 2, 29⟩, 0, 0, 0⟩
      ∧ (after .clockEnd (withClock 2099 12 31 23 59)).clock = none := by decide +kernel
theorem test_week_entry_fires :
    let s := withClock 2024 2 28 23 58
    (after .minuteStart (after (.writeEntry .control 1 [0, 0x1F, 1, 0x7F, 0x05, 0x9F, 3, 1, 0, 3]) s)).level
      = .lecture := by decide +kernel

/-! ## States and operands that meet the hypotheses of the statements -/

theorem test_meets_step : ({ State.reset with pending := [.keyRelease .mute] } : State).pending = [.keyRelease .mute]
    ∧ State.reset.pending = [] := ⟨rfl, rfl⟩
theorem test_meets_whole_frame : State.reset.control.assembler = .hunt
    ∧ ([] : List Byte).length ≤ 248 ∧ (List.replicate 248 (7 : Byte)).length ≤ 248 := by decide +kernel
/-- A link with a full queue, and one with a full queue and a full reply list. -/
theorem test_meets_request_joins :
    let full := { State.reset.control with inbound := List.replicate 4 ⟨0x20, 1, []⟩ }
    let both := { full with replies := List.replicate 4 ⟨0xA0, 1, .ok, []⟩ }
    State.reset.control.inbound.length < 4 ∧ (4 ≤ full.inbound.length ∧ full.replies.length < 4)
      ∧ 4 ≤ both.inbound.length ∧ 4 ≤ both.replies.length := by decide +kernel
theorem test_meets_untaken :
    let s := { State.reset with control := { State.reset.control with awaiting := true } }
    requestOfCommand (.readStatus .control 1 []) = some (.control, ⟨0x20, 1, []⟩)
      ∧ ∀ t, ¬ s.linkTakes .control ⟨0x20, 1, []⟩ t :=
  ⟨rfl, fun _ ⟨_, h, _⟩ => by simp [LinkState.takes, LinkState.ready, State.link] at h⟩
theorem test_meets_unknown_and_wrong_length :
    (State.reset.linkTakes .control ⟨0x1C, 1, []⟩ State.reset ∧ knownKind 0x1C = false)
      ∧ (Instr.powerOn .control 1 [9]).wellFormed = true
      ∧ requestOfCommand (.powerOn .control 1 [9]) = some (.control, ⟨0x10, 1, [9]⟩)
      ∧ State.reset.linkTakes .control ⟨0x10, 1, [9]⟩ State.reset ∧ requestLength 0x10 = some 0
      ∧ [(9 : Byte)].length ≠ 0 :=
  ⟨⟨reset_takes _, by decide⟩, by decide, rfl, reset_takes _, by decide, by decide⟩
theorem test_meets_access :
    (Instr.restart .control 1 []).wellFormed = true
      ∧ requestOfCommand (.restart .control 1 []) = some (.control, ⟨0x3D, 1, []⟩)
      ∧ State.reset.linkTakes .control ⟨0x3D, 1, []⟩ State.reset
      ∧ requestLength 0x3D = some ([] : List Byte).length
      ∧ requestOfCommand (.readStatus .control 1 []) = some (.control, ⟨0x20, 1, []⟩)
      ∧ State.reset.linkTakes .control ⟨0x20, 1, []⟩ State.reset
      ∧ requestLength 0x20 = some ([] : List Byte).length :=
  ⟨by decide, rfl, reset_takes _, by decide, rfl, reset_takes _, by decide⟩
/-- An idle line; a line sending START with room in its list; a link whose frame ends with 4 replies waiting. -/
theorem test_meets_replies_and_frame_ends :
    let idle := { State.reset.control with sending := none, reports := [] }
    (idle.sending = none ∧ idle.replies = [] ∧ idle.owed = none)
      ∧ State.reset.control.sending.isSome = true ∧ State.reset.control.replies.length < 4
      ∧ (∃ f, (State.reset.link .control).sending = some f)
      ∧ (List.replicate 3 (⟨0xA0, 1, .ok, []⟩ : Reply)).length < 4 :=
  ⟨⟨rfl, rfl, rfl⟩, by decide, by decide, ⟨_, rfl⟩, by decide⟩
/-- The links right after reset, as the report statement asks for them. -/
theorem test_meets_reports : State.reset.control.sound := by
  refine ⟨trivial, ?_, ?_, ?_, ?_, ?_, ?_, ?_⟩ <;> decide +kernel
/-- Every read and write of the control link: it may manage, and takes any request right after reset. -/
theorem test_meets_management (r : Request) :
    State.reset.mayManage .control ∧ State.reset.linkTakes .control r State.reset := ⟨.inl rfl, reset_takes r⟩
/-- A lectern link under a TECH hold may manage too. -/
theorem test_meets_management_on_the_lectern :
    (withTech State.reset).mayManage .lectern
      ∧ (withTech State.reset).linkTakes .lectern ⟨0x20, 1, []⟩ (withTech State.reset) :=
  ⟨.inr rfl, State.reset.lectern, rfl, rfl⟩
/-- The records of the writes at the ends of their ranges. -/
theorem test_meets_writes :
    (let f : Format := ⟨true, 4096, 2160, 1, 65535, some (64, 1)⟩;
      1 ≤ f.width ∧ f.width ≤ 4096 ∧ 1 ≤ f.height ∧ f.height ≤ 2160 ∧ 1 ≤ f.rateMin ∧ f.rateMin ≤ f.rateMax
        ∧ f.rateMax < 65536 ∧ ∀ a, f.aspect = some a → 1 ≤ a.1 ∧ a.1 ≤ 64 ∧ 1 ≤ a.2 ∧ a.2 ≤ 64)
      ∧ (let r : Rule := { State.reset.conf.rules.get 0 with timeMin := 10079, timeMax := 0, priority := 7
                                                             limit := 2047 };
        511 < 512 ∧ r.timeMin < 10080 ∧ r.timeMax < 10080 ∧ r.priority ≤ 7 ∧ 1 ≤ r.limit ∧ r.limit ≤ 2047)
      ∧ (3 < 4 ∧ (⟨true, 0xFF, 7⟩ : Cell).priority ≤ 7)
      ∧ (let e : Entry := ⟨true, 0x7F, 1439, .notice, 255, 0, 7⟩;
        31 < 32 ∧ e.minute < 1440 ∧ e.priority ≤ 7 ∧ e.action.argsOk e.arg1 e.arg2 = true ∧ e.arg1 < 256)
      ∧ (let x : ExceptionRecord := ⟨⟨2099, 12, 31⟩, 0xFF⟩
        x.date.valid = true ∧ State.reset.conf.exceptions.length ≤ 16
          ∧ State.reset.conf.exceptions.Pairwise fun f g => f.date.before g.date = true)
      ∧ 65535 < 65536 := by
  refine ⟨⟨by decide, by decide, by decide, by decide, by decide, by decide, by decide, ?_⟩, by decide +kernel,
    by decide, by decide, ⟨by decide, by decide +kernel, by decide +kernel⟩, by decide⟩
  rintro a ⟨⟩
  decide
/-- A rule and an entry below the boundaries of a lock that is on. -/
theorem test_meets_locked :
    let s := State.reset.setLock ⟨true, 48, 16⟩
    s.conf.lock.on = true ∧ (15 : Nat) < s.conf.lock.rule ∧ (47 : Nat) < s.conf.lock.schedule := by decide
/-- A settings write in flight, and none. -/
theorem test_meets_store_writes :
    (∃ w, (after (.commit .control 1 []) State.reset).settingsWrite = some w)
      ∧ State.reset.settingsWrite = none := ⟨⟨_, rfl⟩, rfl⟩
/-- A write that brings the hold down to 20 s meets a waiting lamp in HOT and one whose wait to retry is over;
one that brings it up to 300 s meets a lamp in DARK. -/
theorem test_meets_hold_writes :
    let s := State.reset
    let down := after (.writeSetting .control 1 (8 :: be16 0)) { s with conf := { s.conf with
      items := s.conf.items.set 7 20 } }
    let up := after (.writeSetting .control 1 (8 :: be16 300)) s
    let hot := { inState .hot s.lampA with waiting := true, since := 300000 }
    let retry := { inState .retryWait s.lampA with timer := none, since := 300000 }
    (itemOf (8 : Byte).toNat).map (·.1.val) = some 8 ∧ 1000 * max (down.item 8) (down.item 7) ≤ hot.since
      ∧ retry.available = true ∧ hot.faultLine = false
      ∧ ({ hot with out := true } : Lamp).available = false
      ∧ (150000 : Nat) < 1000 * max (up.item 8) (up.item 7) := by decide +kernel
/-- A rated life that both lamps' wear has passed is written; auto-switch is written on in ON. -/
theorem test_meets_threshold_and_watch_writes :
    let worn := { State.reset with
      lampA := { State.reset.lampA with wear := 43200000 }, lampB := { State.reset.lampB with wear := 43200000 } }
    (itemOf (11 : Byte).toNat).map (·.1.val) = some 11 ∧ (itemOf (64 : Byte).toNat).map (·.1.val) = some 64
      ∧ ((after (.writeSetting .control 1 (11 :: be16 500)) worn).lampB.history.length = 3)
      ∧ (after (.writeSetting .control 1 (22 :: be16 1)) (atPower .on)).sw.watch = .grace := by decide +kernel
theorem test_meets_service :
    (withTech State.reset).techHold = true
      ∧ (withTech State.reset).linkTakes .control ⟨0x39, 1, [byte (lampCode .a)]⟩ (withTech State.reset)
      ∧ (withTech State.reset).linkTakes .control ⟨0x3A, 1, [byte (lampCode .a)]⟩ (withTech State.reset)
      ∧ (withTech (atPower .shutdown)).techHold = true
      ∧ (withTech (atPower .shutdown)).linkTakes .control ⟨0x39, 1, [2]⟩ (withTech (atPower .shutdown))
      ∧ (withTech (atPower .shutdown)).power.state = .shutdown
      ∧ (withTech (atPower .shutdown)).thermalInput = false :=
  ⟨rfl, takes_as_it_comes _ _ rfl, takes_as_it_comes _ _ rfl, rfl, takes_as_it_comes _ _ rfl, rfl, rfl⟩
/-- The rated life right after reset is of its range, and lamps in DARK and OUT are of the renewed ones. -/
theorem test_meets_renewal : 500 ≤ (withTech State.reset).item 11
    ∧ (withTech (withLamp fun m => { m with state := .dark })).lampA.state = .dark
    ∧ (withTech (withLamp fun m => { m with state := .out, out := true })).lampA.state = .out := by decide +kernel
/-- Resets with no resume due, with the alarm input asserted, and with a resume due that is permitted and one
that the start level's cell denies. -/
theorem test_meets_resets :
    let found := fun s : State => s.nvSettings.getD Stored.defaults
    let due := litBefore 1 0
    State.reset.linkTakes .control ⟨0x3D, 1, []⟩ State.reset ∧ State.reset.restartDue = false
      ∧ (Instr.supplyDip, ResetCause.supplyDip) ∈ [(Instr.supplyApplied, ResetCause.powerOn),
        (.supplyDip, .supplyDip), (.resetLine, .resetLine), (.restartReset, .restart)]
      ∧ (State.reset.thermalInput = false ∧ (found State.reset).items.get 32 = 0)
      ∧ ({ State.reset with restartDue := true, thermalInput := true } : State).restartDue = true
      ∧ (due.thermalInput = false ∧ (due.nvLamps.map (·.a.lit)) = some true ∧ (found due).items.get 32 = 1
        ∧ (found due).ruleSet .auto = 0 ∧ ((found due).cell .opened .auto).permit = true
        ∧ due.nvLamps.map (fun r => (r.a.out, r.b.out, decide (max r.a.wear r.b.wear < 43200)))
          = some (false, false, true))
      ∧ (Level.ofCode ((found (litBefore 1 2)).items.get 5) = some .secure
        ∧ ((found (litBefore 1 2)).cell .secure .auto).permit = false) :=
  ⟨reset_takes _, rfl, by decide, by decide +kernel, rfl, by decide +kernel, by decide +kernel⟩
/-- A value out of range; a request that the matrix denies (LECTERN in SECURE). -/
theorem test_meets_refusals :
    (Instr.selectInput .control 1 [8]).wellFormed = true
      ∧ requestOfCommand (.selectInput .control 1 [8]) = some (.control, ⟨0x12, 1, [8]⟩)
      ∧ State.reset.linkTakes .control ⟨0x12, 1, [8]⟩ State.reset
      ∧ requestLength 0x12 = some [(8 : Byte)].length ∧ operationOf ⟨0x12, 1, [8]⟩ = none
      ∧ operationOf ⟨0x12, 1, [7]⟩ = some (.selectInput 7)
      ∧ (let s := { State.reset with level := .secure }
        (s.evaluate (ReqClass.ofLink .lectern) (.selectInput 7) none).1.permit = false) :=
  ⟨by decide, rfl, reset_takes _, by decide, by decide, by decide, by decide +kernel⟩
/-- Two rules of CONTROL count a request, of which the second denies it, and the third is not taken (R49). -/
theorem test_meets_counting :
    let rule := fun v : RuleVerdict =>
      { State.reset.conf.rules.get 0 with
        enabled := true, requesters := 0x3F, kinds := 0xFFF, credential := 0x1F, timeMode := .off
        counterMode := .countUp, limit := 9, verdict := v }
    let c := State.reset.conf
    let s := { State.reset with conf := { c with
      ruleSets := c.ruleSets.set 0 7
      rules := ((c.rules.set 0 (rule .continue)).set 1 (rule .deny)).set 2 (rule .permit) } }
    ((s.evaluate .control .powerOn none).2.counters.toList.take 3).map (·.value) = [1, 1, 0]
      ∧ (s.evaluate .control .powerOn none).1.permit = false := by decide +kernel
/-- SET_RULE of the schedule, permitted, in ON and in SHUTDOWN, below and above the boundary of a lock. -/
theorem test_meets_set_rule :
    let s := (atPower .on).setLock ⟨true, 0, 4⟩
    ((Entry.operation ⟨true, 1, 0, .setRule, 3, 1, 5⟩) = some (.setRule 3 true))
      ∧ (s.evaluate .schedule (.setRule 3 true) (some 5)).1.permit = true
      ∧ (s.operate .schedule (.setRule 3 true) none (some 5)).1.result = .locked
      ∧ (s.operate .schedule (.setRule 4 true) none (some 5)).1.result = .ok
      ∧ ((atPower .shutdown).operate .schedule (.setRule 4 true) none (some 5)).1.result = .state := by
  decide +kernel
/-- A COUNT_DOWN rule that runs, with its value at 2 and at 1. -/
theorem test_meets_count_down :
    let r := { State.reset.conf.rules.get 15 with enabled := true, counterMode := .countDown }
    let s := { State.reset.setRule 15 r with counters := State.reset.counters.set 15 ⟨2, some 1000⟩ }
    r = s.conf.rules.get 15 ∧ r.enabled = true ∧ r.counterMode = .countDown
      ∧ (s.counters.get 15).unit.isSome = true ∧ 2 ≤ (s.counters.get 15).value ∧ (1 : Nat) ≤ 1 := by
  decide +kernel
/-- A card that holds a token, and a token that no card holds. -/
theorem test_meets_tokens :
    let s := after (.writeCard .control 1 [7, 1, 0, 0, 0, 0, 0, 9, 4]) State.reset
    (s.conf.cards.toList.find? fun c => c.enabled && c.token == 9) = some ⟨true, 9, .tech⟩
      ∧ (s.conf.cards.toList.find? fun c => c.enabled && c.token == 8) = none := by decide +kernel
/-- A permitted request of every operational kind, from the control link right after reset. -/
theorem test_meets_permits :
    ∀ o ∈ [Operation.powerOn, .powerOff, .selectInput 7, .pictureMute true, .setKeystone false 40 (-30),
        .setCorner .bl (-192) 192, .recallGeometry 3, .setLampLevel .eco, .setLampPlan .fixedB,
        .setLockout .service, .presentCredential 1, .endCredential],
      (State.reset.evaluate (ReqClass.ofLink .control) o none).1.permit = true := by decide +kernel
theorem test_meets_credentials :
    (1 : BitVec 48) ≠ 0 ∧ (1 : BitVec 48) ≠ BitVec.allOnes 48
      ∧ State.reset.linkTakes .control ⟨0x1A, 1, be48 1⟩ State.reset
      ∧ State.reset.permits .control (.presentCredential 1) 6 (permitted State.reset (.presentCredential 1))
      ∧ State.reset.linkTakes .control ⟨0x1B, 1, []⟩ State.reset
      ∧ State.reset.permits .control .endCredential 6 (permitted State.reset .endCredential) :=
  ⟨by decide, by decide, reset_takes _, ⟨by decide +kernel, by decide +kernel, rfl⟩, reset_takes _,
    by decide +kernel, by decide +kernel, rfl⟩
/-- POWER_ON on its way up, from STANDBY with both lamps DARK, in SHUTDOWN, and with no lamp available. -/
theorem test_meets_power_on :
    let lit := atPower .starting
    let darkLamp := fun m : Lamp => { m with state := .dark, since := 200000 }
    let cold := { State.reset with lampA := darkLamp State.reset.lampA, lampB := darkLamp State.reset.lampB }
    let worn := { State.reset with
      lampA := { State.reset.lampA with out := true }, lampB := { State.reset.lampB with expired := true } }
    (lit.linkTakes .control ⟨0x10, 1, []⟩ lit ∧ lit.permits .control .powerOn 6 lit
        ∧ lit.power.state.running = true)
      ∧ (cold.linkTakes .control ⟨0x10, 1, []⟩ cold ∧ cold.permits .control .powerOn 6 cold
        ∧ cold.power.state = .standby ∧ cold.recovery = false ∧ cold.planLamps = [.a, .b]
        ∧ ∀ x, (cold.lamp x).callable)
      ∧ ((atPower .shutdown).linkTakes .control ⟨0x10, 1, []⟩ (atPower .shutdown)
        ∧ (atPower .shutdown).permits .control .powerOn 6 (atPower .shutdown)
        ∧ (atPower .shutdown).power.state = .shutdown)
      ∧ (worn.linkTakes .control ⟨0x10, 1, []⟩ worn ∧ worn.permits .control .powerOn 6 worn
        ∧ worn.power.state = .standby ∧ worn.recovery = false ∧ worn.power.degraded = false
        ∧ worn.lampA.available = false ∧ worn.lampB.available = false ∧ worn.calledCount = 0) :=
  ⟨⟨takes_as_it_comes _ _ rfl, ⟨by decide +kernel, by decide +kernel, by decide +kernel⟩, rfl⟩,
    ⟨takes_as_it_comes _ _ rfl, ⟨by decide +kernel, by decide +kernel, by decide +kernel⟩, rfl, rfl, rfl,
      fun x => by cases x <;> exact ⟨rfl, rfl, rfl⟩⟩,
    ⟨takes_as_it_comes _ _ rfl, ⟨by decide +kernel, by decide +kernel, by decide +kernel⟩, rfl⟩,
    takes_as_it_comes _ _ rfl, ⟨by decide +kernel, by decide +kernel, by decide +kernel⟩, rfl, rfl, rfl,
    by decide +kernel, by decide +kernel, by decide +kernel⟩
/-- A lamp in each state in which a call has an effect, and one out of which ALTERNATE chooses. -/
theorem test_meets_calls :
    (∀ st ∈ [LampState.dark, .cooldown, .hot], ({ Lamp.fresh with state := st } : Lamp).callable)
      ∧ (∀ st ∈ [LampState.ignite, .warmup], ({ Lamp.fresh with state := st, pendingOff := true } : Lamp).callable)
      ∧ State.reset.lampA.available = true
      ∧ (let s := { State.reset with lampB := { State.reset.lampB with out := true } }
        s.planLamps = [.a, .b] ∧ (s.lamp .b).called = false ∧ s.lampA.callable) := by
  refine ⟨fun st h => ?_, fun st h => ?_, by decide +kernel, by decide +kernel, rfl, rfl, rfl, rfl⟩
  all_goals
    simp only [List.mem_cons, List.not_mem_nil, or_false] at h
    rcases h with rfl | h
    · exact ⟨rfl, rfl, rfl⟩
  · rcases h with rfl | rfl <;> exact ⟨rfl, rfl, rfl⟩
  · subst h
    exact ⟨rfl, rfl, rfl⟩
/-- Lamps DIMMED in DIMMED, and the idle-expired mark in ON, with POWER_ON permitted there. -/
theorem test_meets_the_ways_out_of_dimmed :
    let dim := withLamp (inState .dimmed) (atPower .dimmed)
    let marked := { atPower .on with power := { (atPower .on).power with idleExpired := true } }
    (∀ r, dim.linkTakes .control r dim) ∧ dim.permits .control .powerOn 6 dim
      ∧ (dim.power.state = .dimmed ∧ (dim.lamp .a).state = .dimmed)
      ∧ (marked.power.state = .on ∧ marked.power.idleExpired = true) :=
  ⟨fun _ => takes_as_it_comes _ _ rfl, ⟨by decide +kernel, by decide +kernel, by decide +kernel⟩,
    ⟨rfl, rfl⟩, rfl, rfl⟩
/-- The last lamp cools in STOPPING with a hold standing. -/
theorem test_meets_the_end_of_stopping :
    let s := withTech (withLamp (fun m => { m with state := .cooldown, timer := some 5 }) (atPower .stopping))
    s.power.state = .stopping ∧ s.recovery = false ∧ (s.lamp .a).state = .cooldown
      ∧ (s.lamp .a).timer.isSome = true ∧ (s.lamp .a).waiting = false
      ∧ (s.lamp (otherLamp .a)).state.busy = false ∧ s.hold.isSome = true
      ∧ (after (.cooldownExpiry .a) s).hold = none := by decide +kernel
/-- POWER_OFF in ON, STANDBY and SHUTDOWN. -/
theorem test_meets_power_off :
    ∀ p ∈ [PowerState.on, .standby, .shutdown],
      (atPower p).linkTakes .control ⟨0x11, 1, []⟩ (atPower p)
        ∧ (atPower p).permits .control .powerOff 6 (atPower p) ∧ (atPower p).power.state = p := by
  intro p hp
  simp only [List.mem_cons, List.not_mem_nil, or_false] at hp
  rcases hp with rfl | rfl | rfl <;>
    exact ⟨takes_as_it_comes _ _ rfl, ⟨by decide +kernel, by decide +kernel, by decide +kernel⟩, rfl⟩
/-- A level, a plan, a select, mute and a geometry request, each permitted in ON and in SHUTDOWN. -/
theorem test_meets_owners :
    ∀ p ∈ [PowerState.on, .standby, .shutdown],
      ∀ o ∈ [Operation.setLampLevel .eco, .setLampPlan .fixedA, .setLampPlan .alternate, .selectInput 7,
          .pictureMute true, .setKeystone false 40 (-30), .setCorner .bl (-192) 192, .recallGeometry 3],
        ((atPower p).evaluate (ReqClass.ofLink .control) o none).1.permit = true
          ∧ (permitted (atPower p) o).power.state = p := by decide +kernel
theorem test_meets_owners_take (p : PowerState) (r : Request) :
    (atPower p).linkTakes .control r (atPower p) := takes_as_it_comes _ r rfl
/-- SET_LAMP_PLAN in ON: both lamps LIT and called (to FIXED_A, and to ALTERNATE, which keeps lamp A); lamp A
alone called and LIT under ALTERNATE or FIXED_A with lamp B DARK, or out. -/
theorem test_meets_plan_change :
    let burning := fun m : Lamp => { m with state := .lit, called := true }
    let both := { atPower .on with lampA := burning State.reset.lampA, lampB := burning State.reset.lampB }
    let one := fun (p : Plan) (f : Lamp → Lamp) =>
      { atPower .on with
        conf := { State.reset.conf with plan := p }, lampA := burning State.reset.lampA
        lampB := f State.reset.lampB }
    let dark := fun m : Lamp => { m with state := .dark }
    let meets := fun (s : State) (p : Plan) =>
      (s.evaluate (ReqClass.ofLink .control) (.setLampPlan p) none).1.permit = true
        ∧ let u := permitted s (.setLampPlan p)
          p ≠ u.conf.plan ∧ u.power.intent = true ∧ u.power.state = .on ∧ u.lampA.state = .lit
            ∧ u.lampA.called = true
    (∀ r, both.linkTakes .control r both)
      ∧ (meets both .fixedA ∧ (permitted both (.setLampPlan .fixedA)).lampA.available = true)
      ∧ (meets both .alternate ∧ both.lampA.wear = both.lampB.wear ∧ both.lastStruck = none)
      ∧ meets (one .fixedA dark) .alternate
      ∧ (meets (one .alternate dark) .dual
        ∧ let y := (permitted (one .alternate dark) (.setLampPlan .dual)).lampB
          y.state = .dark ∧ y.available = true ∧ y.faultLine = false ∧ y.called = false)
      ∧ (let gone := one .alternate fun m => { m with state := .out, out := true }
        meets gone .dual ∧ (permitted gone (.setLampPlan .dual)).lampB.available = false) :=
  ⟨fun _ => takes_as_it_comes _ _ rfl, by decide +kernel, by decide +kernel, by decide +kernel,
    by decide +kernel, by decide +kernel⟩
/-- A held, a switching and a waiting switch unit meet the rows of R131. -/
theorem test_meets_select_rows :
    let s := after (.selectInput .control 1 [5]) (atPower .on)
    let t := after (.selectInput .control 2 [6]) s
    (s.sw.inFlight.map (·.target)) = some 5 ∧ s.sw.slot = none ∧ (t.sw.slot.map (·.input)) = some 6
      ∧ ((after .settleExpiry (after .blankEnd s)).sw.hold.map (·.priority)) = some 6 := by decide +kernel
/-- The candidates of a keystone, a corner and a recall request. -/
theorem test_meets_geometry :
    requestOfCommand (.setKeystone .control 1 [0, 20, 0]) = some (.control, ⟨0x14, 1, [0, 20, 0]⟩)
      ∧ operationOf ⟨0x14, 1, [0, 20, 0]⟩ = some (.setKeystone false 20 0)
      ∧ operationOf ⟨0x15, 1, [3, 0xFF, 0x40, 0, 0xC0]⟩ = some (.setCorner .bl (-192) 192)
      ∧ operationOf ⟨0x16, 1, [3]⟩ = some (.recallGeometry 3)
      ∧ (Instr.setKeystone .control 1 [0, 20, 0]).wellFormed = true
      ∧ (State.reset.conf.geometry.withKeystone false 20 0).quad.valid 600 = true
      ∧ (State.reset.conf.geometry.withKeystone false 40 30).quad.valid 900 = false := by decide +kernel
/-- Held KEY_UP, and the codes of a matching remote. -/
theorem test_meets_remote :
    (0x2C : Byte).toNat = State.reset.item 3 ∧ (0x2D : Byte).toNat ≠ State.reset.item 3
      ∧ ((0x15 : Byte), Key.keyDown) ∈ [((0x10 : Byte), Key.power), (0x11, .input), (0x12, .mute), (0x13, .level),
          (0x14, .keyUp), (0x15, .keyDown)]
      ∧ (0x27 : Byte) = 0x20 + byte (7 : InputId).val ∧ (0x0F : Byte).toNat < 0x10 ∧ 0x27 < (0x28 : Byte).toNat := by
  decide +kernel
/-- Lamps in RETRY_WAIT with the hold passed, and with it to come. -/
theorem test_meets_retry :
    let m := { inState .retryWait State.reset.lampA with since := 150000 }
    (m.state = .retryWait ∧ m.timer.isSome = true ∧ m.faultLine = false ∧ m.out = false ∧ m.expired = false
        ∧ ¬ m.since + m.timer.getD 0 < 1000 * max (State.reset.item 8) (State.reset.item 7))
      ∧ (let w := { m with timer := none }
        w.state = .retryWait ∧ w.timer = none ∧ w.out = false ∧ w.expired = false ∧ w.faultLine = false) := by
  decide +kernel
/-- Lamp A at its last attempt, in ON under each plan: its partner called, callable, and out. -/
theorem test_meets_departures :
    let s := fun (p : Plan) (b : Lamp) =>
      withLamp (fun m => { inState .ignite m with attempts := 3, limit := 3 })
        { atPower .on with conf := { State.reset.conf with plan := p }, lampB := b }
    let lit := { State.reset.lampB with state := .lit, called := true }
    (∀ p b, (s p b).power.intent = true ∧ (s p b).power.state.running = true
        ∧ ((s p b).lamp .a).called = true ∧ ((s p b).lamp .a).attempts = ((s p b).lamp .a).limit
        ∧ ((s p b).lamp .a).timer.isSome = true ∧ (s p b).lamp (otherLamp .a) = b)
      ∧ lit.called = true ∧ (State.reset.lampB.called = false ∧ State.reset.lampB.callable)
      ∧ ((after (.strikeWindowExpiry .a) (s .dual lit)).power.degraded = true
        ∧ (after (.strikeWindowExpiry .a) (s .alternate State.reset.lampB)).lampB.waiting = true
        ∧ (after (.strikeWindowExpiry .a) (s .fixedA lit)).power.state = .stopping) :=
  ⟨fun _ _ => ⟨rfl, rfl, rfl, rfl, rfl, rfl⟩, rfl, ⟨rfl, rfl, rfl, rfl⟩, by decide +kernel⟩
/-- The warm-up that makes every called lamp LIT takes STARTING to ON (R164). -/
theorem test_warm_up_reaches_on :
    (after (.warmupExpiry .a false) (withLamp (inState .warmup) (atPower .starting))).power.state = .on := by
  decide +kernel
/-- The last lamp cools under recovery, with the latch clear and set. -/
theorem test_meets_the_end_of_recovery :
    let s := fun latch : Bool => withLamp (fun m => { m with state := .cooldown, timer := some 5 })
      { atPower .stopping with recovery := true, latch := latch }
    (∀ b, (s b).recovery = true ∧ (s b).power.state = .stopping ∧ ((s b).lamp .a).waiting = false
        ∧ ((s b).lamp (otherLamp .a)).state ≠ .cooldown ∧ (s b).thermalInput = false)
      ∧ (after (.cooldownExpiry .a) (s false)).power.state = .standby
      ∧ (after (.cooldownExpiry .a) (s true)).power.state = .shutdown :=
  ⟨fun b => ⟨rfl, rfl, rfl, by cases b <;> decide +kernel, rfl⟩, by decide +kernel, by decide +kernel⟩
/-- POWER_OFF with a switch in flight, whose target is then selected (R138). -/
theorem test_meets_a_dropped_switch :
    let s := after (.selectInput .control 1 [5]) (atPower .on)
    s.sw.inFlight.isSome = true ∧ s.power.state.running = true
      ∧ (after (.powerOff .control 2 []) s).sw.selected = 5 := by decide +kernel
theorem test_meets_thermal :
    State.reset.recovery = false ∧ (after .thermalAlarm (withLamp (inState .lit) (atPower .on))).recovery = true := by
  decide +kernel
/-- A switch at the end of SETTLE, one in BLANK, and a watch in GRACE with a STABLE ranked input. -/
theorem test_meets_switches :
    let s := after (.selectInput .control 1 [5]) (atPower .on)
    ((s.sw.inFlight.map (·.phase)) = some .blank)
      ∧ (((after .blankEnd s).sw.inFlight.map (·.phase)) = some .settle)
      ∧ (let q := { atPower .on with
            sw := { State.reset.sw with watch := .grace, grace := some 0 }
            inputs := State.reset.inputs.set 7 { InputRecord.fresh with signal := .stable, format := some 15 }
            conf := { State.reset.conf with items := State.reset.conf.items.set 79 1 } }
        q.sw.watch = .grace ∧ (q.input 7).signal = .stable ∧ q.autoRank 7 ≠ 0
          ∧ ∀ j, j ≠ 7 → ¬ ((q.input j).signal = .stable ∧ q.autoRank j ≠ 0)) := by decide +kernel
/-- A switch that waits for its target's signal, at the acquire timeout and at the third match in a row. -/
theorem test_meets_awaited_signal :
    let s := after .settleExpiry (after .blankEnd (after (.selectInput .control 1 [5])
      ((atPower .on).setInput 5
        { InputRecord.fresh with signal := .acquiring, acquire := some 4000, run := some (10, 2) })))
    (s.sw.inFlight.map fun w => (w.target, w.phase)) = some (5, .awaitSignal) ∧ s.sw.selected ≠ 5
      ∧ (s.input 5).signal = .acquiring ∧ (s.input 5).acquire.isSome = true
      ∧ (s.input 5).run = some (10, 2) ∧ s.power.state = .on
      ∧ (List.finRange 16).find? (fun n =>
          let e := s.conf.formats.get n
          e.enabled && decide (e.width = (1920 : BitVec 16).toNat ∧ e.height = (1080 : BitVec 16).toNat
            ∧ e.rateMin ≤ (6000 : BitVec 16).toNat ∧ (6000 : BitVec 16).toNat ≤ e.rateMax)) = some 10
      ∧ (after (.measurement 5 true 1920 1080 6000) s).sw.selected = 5 := by decide +kernel
/-- An auto-off timer that runs, with POWER_OFF of class AUTO permitted in OPEN, and denied by a cell. -/
theorem test_meets_auto_off :
    let s := { atPower .on with power := { (atPower .on).power with autoOff := some 0 } }
    let shut := { s with conf := { s.conf with matrix := s.conf.matrix.map fun c : Cell => ⟨false, c.map, c.priority⟩ } }
    s.power.autoOff.isSome = true ∧ (s.evaluate .auto .powerOff none).1.permit = true
      ∧ s.power.state.running = true ∧ (shut.evaluate .auto .powerOff none).1.permit = false := by decide +kernel
/-- A member that fires at a scan interval, and none. -/
theorem test_meets_scan :
    let c := State.reset.conf
    let s := { State.reset with
      conf := { c with items := c.items.set 33 0x80 }
      scan := State.reset.scan.set 0 ⟨some 1000, (Vector.replicate 8 0).set 7 1⟩ }
    s.power.state = .standby ∧ (s.scan.get 0).interval.isSome = true ∧ (s.scanMembers 0).testBit 7 = true
      ∧ s.scanRange 7 < (1000 : Nat) - s.scanBase 7 ∧ 1 ≤ (s.scan.get 0).runs.get 7
      ∧ (State.reset.scanMembers 0).testBit 7 = false := by decide +kernel
theorem test_meets_clock :
    (DateTime.mk ⟨2099, 12, 31⟩ 23 59 59).valid = true ∧ (DateTime.mk ⟨2023, 2, 29⟩ 0 0 0).valid = false
      ∧ State.reset.clock = none ∧ (withClock 2024 2 28 23 59).clock ≠ none := by decide +kernel
/-- A week table with one SET_LOCKOUT entry, to LECTURE on Mondays at 08:00, for R189. -/
def mondays : Stored :=
  { State.reset.conf with week := State.reset.conf.week.set 3 ⟨true, 1, 480, .setLockout, 1, 0, 5⟩ }
theorem mondays_alone : ∀ m : Fin 48, (mondays.week.get m).enabled = true → m = 3 := by decide +kernel
/-- That entry gives the level at every date-time, also of a clock kept through a reset; the table right after
reset gives none. -/
theorem test_meets_reconstruction :
    (∀ d, mondays.restores d .lecture) ∧ State.reset.item 39 ≠ 0
      ∧ ∀ d n back, ¬ State.reset.conf.timetabled d n back := by
  have off : ∀ n : Fin 48, (State.reset.conf.week.get n).enabled = false := by decide +kernel
  have monday : ∀ day : Fin 7, (mondays.week.get 3).days.getLsbD day.val = true → day = 0 := by decide +kernel
  refine ⟨fun d => ⟨3, _, ⟨by decide +kernel, by decide +kernel, ⟨0, by decide +kernel, rfl⟩, fun h => ?_⟩,
    by decide +kernel, fun m other h => ?_⟩, by decide +kernel, fun _ n _ h => ?_⟩
  · exact Bool.false_ne_true h.2
  · obtain ⟨on, -, ⟨day, hday, hback⟩, -⟩ := h
    obtain rfl := mondays_alone m on
    obtain rfl := monday day hday
    exact .inr ⟨hback.symm, le_rfl⟩
  · exact Bool.false_ne_true ((off n).symm.trans h.1)
/-- With no lamp write in flight and no lamp record, the bounds are those of the two lamps. -/
theorem bounded_of {s : State} (h : s.lampA.bounded ∧ s.lampB.bounded) (hw : s.lampWrite = none)
    (hn : s.nvLamps = none) : s.lampsBounded := by
  refine ⟨fun x => ?_, fun w k => ?_, fun r k => ?_⟩
  · cases x
    · exact h.1
    · exact h.2
  · cases hw.symm.trans k
  · cases hn.symm.trans k
/-- A lamp at its fresh counts is within the bounds, whatever its state. -/
theorem fresh_bounded (m : Lamp) (h : m.wear ≤ 9 ∧ m.strikeCount ≤ 2 ∧ m.wakeLate = 0 ∧ m.history = []
    ∧ m.fraction = 0 ∧ m.litSeconds = 0) : m.bounded := by
  unfold Lamp.bounded
  simp only [h.2.2.2.1, List.length_nil]
  omega
/-- Steps that trigger the clauses: wear that RESET_LAMP_WEAR lowers, OUT and SHUTDOWN that SERVICE_CLEAR
leaves, a reports-lost flag that READ_STATUS clears, and the two records that the ends of their writes store. -/
theorem test_meets_owners_of_the_whole_machine :
    let worn := withTech (withLamp fun m => { m with state := .dark, wear := 9, strikeCount := 2 })
    let out := withTech (withLamp fun m => { m with state := .out, out := true })
    let shut := { withTech (atPower .shutdown) with latch := true, recovery := true }
    let lost := { State.reset with control := { State.reset.control with lost := true } }
    let saving := after (.commit .control 1 []) State.reset
    let writing := State.reset.checkpoint
    (worn.lampsBounded ∧ (after (.resetLampWear .control 1 [0]) worn).lampA.wear < worn.lampA.wear)
      ∧ (out.lampsBounded ∧ (after (.serviceClear .control 1 [0]) out).lampA.state = .hot)
      ∧ (shut.lampsBounded ∧ (after (.serviceClear .control 1 [2]) shut).power.state = .standby
        ∧ (after (.serviceClear .control 1 [2]) shut).latch = false)
      ∧ (lost.lampsBounded ∧ (after (.readStatus .control 1 []) lost).control.lost = false)
      ∧ (saving.lampsBounded ∧ (after .settingsWriteEnd saving).nvSettings ≠ saving.nvSettings)
      ∧ (writing.lampsBounded ∧ (after .lampWriteEnd writing).nvLamps ≠ writing.nvLamps) := by
  have lamps : ∀ s : State, _ → _ → s.lampWrite = none → s.nvLamps = none → s.lampsBounded :=
    fun s a b => bounded_of ⟨fresh_bounded s.lampA a, fresh_bounded s.lampB b⟩
  refine ⟨⟨lamps _ ?_ ?_ rfl rfl, ?_⟩, ⟨lamps _ ?_ ?_ rfl rfl, ?_⟩, ⟨lamps _ ?_ ?_ rfl rfl, ?_⟩,
    ⟨lamps _ ?_ ?_ rfl rfl, ?_⟩, ⟨lamps _ ?_ ?_ rfl rfl, ?_⟩, ⟨⟨fun x => ?_, fun w k => ?_, fun _ k => ?_⟩, ?_⟩⟩
  case refine_16 => cases x <;> exact fresh_bounded _ (by decide +kernel)
  case refine_17 =>
    cases k
    simp only [LampRecord.bounded, LampEntry.bounded]
    decide +kernel
  case refine_18 => exact (Option.some_ne_none _ k.symm).elim
  all_goals decide +kernel

/-- The part right after reset with one command waiting: the invariants hold of it, and it takes a step. -/
def waiting : State := { State.reset with pending := [.keyRelease .mute] }

theorem test_meets_a_step : step waiting = .next State.reset := by
  show Host.Outcome.next (_ : State) = _
  exact congrArg _ (by decide +kernel)
theorem test_meets_links_sound : waiting.linksSound := by
  intro l
  cases l <;>
    exact ⟨⟨trivial, by decide +kernel⟩,
      ⟨fun h => (Bool.false_ne_true h).elim, fun ⟨_, h, _⟩ => (Option.some_ne_none _ h.symm).elim⟩⟩
theorem test_meets_lines_driven : waiting.linesDriven :=
  ⟨fun x => by cases x <;> rfl, by decide +kernel, by decide +kernel, fun x _ => by cases x <;> rfl⟩
theorem test_meets_lamps_sound : waiting.lampsBounded ∧ waiting.lampsInPlay ∧ waiting.flagsFollowWear := by
  refine ⟨bounded_of ⟨fresh_bounded _ ?_, fresh_bounded _ ?_⟩ rfl rfl, fun x => ?_, fun x => ?_⟩
  · decide +kernel
  · decide +kernel
  · cases x <;> exact ⟨rfl, rfl, rfl, rfl⟩
  · cases x <;> decide +kernel
theorem test_meets_picture_sound : waiting.pictureSound := by
  unfold State.pictureSound
  decide +kernel
theorem test_meets_power_sound : waiting.powerSound ∧ waiting.watchSound := by
  unfold State.powerSound State.watchSound
  decide +kernel
theorem test_meets_protection_sound : waiting.protectionSound ∧ waiting.countersWithin := by
  unfold State.protectionSound State.countersWithin
  exact ⟨fun x => by cases x <;> decide +kernel, by decide +kernel⟩
theorem test_default_items_in_form : ∀ n : Fin 104, ∀ f, itemForm n.val = some f →
    f.apply (waiting.conf.items.get n) = waiting.conf.items.get n := by
  have h : ∀ n : Fin 104, (itemForm n.val).all
      (fun f => f.apply (waiting.conf.items.get n) == waiting.conf.items.get n) = true := by decide +kernel
  intro n f hf
  simpa [hf] using h n
theorem test_default_formats_in_range : ∀ i : Fin 16, ∃ f, waiting.conf.formats.get i = f
    ∧ (1 ≤ f.width ∧ f.width ≤ 4096 ∧ 1 ≤ f.height ∧ f.height ≤ 2160)
    ∧ (1 ≤ f.rateMin ∧ f.rateMin ≤ f.rateMax ∧ f.rateMax ≤ 65535) ∧ f.aspect = none := by
  simp only [exists_eq_left']
  decide +kernel
theorem test_zero_geometry_in_range : zeroGeo.inRange := by
  unfold GeoValues.inRange
  decide +kernel
theorem test_meets_tables_in_range : waiting.tablesInRange := by
  have presets : ∀ p : Fin 4, waiting.conf.presets.get p = zeroGeo := by decide +kernel
  refine ⟨⟨fun n f h => ?_, ?_, ?_, ?_, fun i => ?_, ?_, ?_, test_zero_geometry_in_range,
    fun p => presets p ▸ test_zero_geometry_in_range, ?_⟩, fun _ h => ?_, fun _ h => ?_, ?_⟩
  case refine_1 =>
    by_cases hn : n < 104
    · simp only [itemOf, hn, dite_true, Option.map_eq_some_iff] at h
      obtain ⟨g, hg, rfl⟩ := h
      exact test_default_items_in_form ⟨n, hn⟩ g hg
    · simp [itemOf, hn] at h
  case refine_5 =>
    obtain ⟨f, hf, ⟨w, w', h, h'⟩, ⟨r, r', r''⟩, a⟩ := test_default_formats_in_range i
    rw [hf]
    exact ⟨w, w', h, h', r, r', r'', fun x hx => by simp [a] at hx⟩
  case refine_9 => exact (Option.some_ne_none _ h.symm).elim
  case refine_10 => exact (Option.some_ne_none _ h.symm).elim
  all_goals decide +kernel

end Sys2Proof.Tests
end

section
/-! PROOFS. The message links: what the outgoing line takes next, what a reply and a report leave of a link, and
the soundness of a link as each of its operations keeps it (R2 to R4, R8, R9, R11, R12). -/

set_option Elab.async false

namespace Sys2Proof.Machine

variable {k : LinkState}

/-! ## What the line takes next (R12) -/

theorem LinkState.fillLine_of_sending {f : OutFrame} (busy : k.sending = some f) : k.fillLine = k := by
  simp [LinkState.fillLine, busy]

theorem LinkState.fillLine_of_reply {r : Reply} {rest : List Reply} (idle : k.sending = none)
    (waits : k.replies = r :: rest) (room : rest.length < 4) :
    k.fillLine
      = { k with sending := some (.reply r), replies := rest ++ k.owed.toList, owed := none } := by
  cases k with | mk _ _ _ _ _ owed _ _ _ _ _ =>
  cases owed <;> simp_all [LinkState.fillLine, LinkState.settleOwed, Config.replyPlaces]

theorem LinkState.fillLine_of_report {n : Byte} {r : Report} {rest : List (Byte × Report)}
    (idle : k.sending = none) (none_waits : k.replies = []) (waits : k.reports = (n, r) :: rest) :
    k.fillLine = { k with sending := some (.report n r), reports := rest } := by
  simp [LinkState.fillLine, idle, none_waits, waits]

theorem LinkState.fillLine_of_nothing (no_reply : k.replies = []) (no_report : k.reports = []) :
    k.fillLine = k := by
  cases busy : k.sending <;> simp [LinkState.fillLine, busy, no_reply, no_report]

/-! ## What the operations of a link leave alone -/

@[simp] theorem LinkState.settleOwed_awaiting (k : LinkState) : k.settleOwed.awaiting = k.awaiting := by
  unfold LinkState.settleOwed
  repeat' split
  all_goals rfl
@[simp] theorem LinkState.settleOwed_lost (k : LinkState) : k.settleOwed.lost = k.lost := by
  unfold LinkState.settleOwed
  repeat' split
  all_goals rfl
@[simp] theorem LinkState.fillLine_awaiting (k : LinkState) : k.fillLine.awaiting = k.awaiting := by
  unfold LinkState.fillLine
  repeat' split
  all_goals simp
@[simp] theorem LinkState.fillLine_lost (k : LinkState) : k.fillLine.lost = k.lost := by
  unfold LinkState.fillLine
  repeat' split
  all_goals simp
@[simp] theorem LinkState.reply_awaiting (k : LinkState) (r : Reply) : (k.reply r).awaiting = k.awaiting := by
  unfold LinkState.reply LinkState.addReply
  split <;> simp
@[simp] theorem LinkState.reply_lost (k : LinkState) (r : Reply) : (k.reply r).lost = k.lost := by
  unfold LinkState.reply LinkState.addReply
  split <;> simp
@[simp] theorem LinkState.offer_awaiting (k : LinkState) (m : Nat) (r : Report) :
    (k.offer m r).awaiting = k.awaiting := by
  unfold LinkState.offer LinkState.takeReport
  repeat' split
  all_goals simp
/-- A report sets the reports-lost flag or leaves it (R11). -/
theorem LinkState.offer_keeps_lost (k : LinkState) (m : Nat) (r : Report) (h : k.lost = true) :
    (k.offer m r).lost = true := by
  unfold LinkState.offer LinkState.takeReport
  repeat' split
  all_goals simp [h]
@[simp] theorem LinkState.offerRequest_awaiting (k : LinkState) (r : Request) :
    (k.offerRequest r).awaiting = k.awaiting := by
  unfold LinkState.offerRequest
  repeat' split
  all_goals simp [LinkState.countError]
@[simp] theorem LinkState.offerRequest_lost (k : LinkState) (r : Request) :
    (k.offerRequest r).lost = k.lost := by
  unfold LinkState.offerRequest
  repeat' split
  all_goals simp [LinkState.countError]
@[simp] theorem LinkState.receive_awaiting (k : LinkState) (b : Byte) (stop : Bool) :
    (k.receive b stop).awaiting = k.awaiting := by
  unfold LinkState.receive
  repeat' split
  all_goals simp [LinkState.assemble, LinkState.discard, LinkState.countError, LinkState.hunt]
@[simp] theorem LinkState.receive_lost (k : LinkState) (b : Byte) (stop : Bool) :
    (k.receive b stop).lost = k.lost := by
  unfold LinkState.receive
  repeat' split
  all_goals simp [LinkState.assemble, LinkState.discard, LinkState.countError, LinkState.hunt]

/-! ## Soundness of a link -/

/-- A link as `LinkState.sound` asks for it but for its line, which may still have to take a frame that
waits. -/
def LinkState.stocked (k : LinkState) : Prop :=
  k.assembler.sound ∧ (k.assembler = .hunt ↔ k.stall = none)
    ∧ k.inbound.length ≤ 4 ∧ k.replies.length ≤ 4 ∧ k.reports.length ≤ 16 ∧ k.errors ≤ 255
    ∧ (k.owed.isSome → k.replies.length = 4)

theorem LinkState.sound.stocked (h : k.sound) : k.stocked := by
  obtain ⟨assembler, stall, inbound, replies, reports, errors, owed, _⟩ := h
  exact ⟨assembler, stall, inbound, replies, reports, errors, owed⟩

/-- A line that has taken what waits is never idle beside it. -/
theorem LinkState.stocked.fillLine_sound (h : k.stocked) : k.fillLine.sound := by
  obtain ⟨assembler, stall, inbound, replies, reports, errors, owed⟩ := h
  cases busy : k.sending with
  | some f =>
    rw [LinkState.fillLine_of_sending busy]
    exact ⟨assembler, stall, inbound, replies, reports, errors, owed, by simp [busy]⟩
  | none =>
    cases waits : k.replies with
    | cons r rest =>
      simp only [waits, List.length_cons] at replies owed
      rw [LinkState.fillLine_of_reply busy waits (by omega)]
      refine ⟨assembler, stall, inbound, ?_, reports, errors, by simp, by simp⟩
      cases k.owed <;> simp <;> omega
    | nil =>
      cases queued : k.reports with
      | cons p rest =>
        simp only [queued, List.length_cons] at reports
        rw [LinkState.fillLine_of_report busy waits queued]
        exact ⟨assembler, stall, inbound, replies, by show rest.length ≤ 16; omega, errors, owed, by simp⟩
      | nil =>
        rw [LinkState.fillLine_of_nothing waits queued]
        exact ⟨assembler, stall, inbound, replies, reports, errors, owed, fun _ => ⟨waits, queued⟩⟩

theorem LinkState.sound.reply_sound (h : k.sound) (r : Reply) : (k.reply r).sound := by
  obtain ⟨assembler, stall, inbound, replies, reports, errors, owed⟩ := h.stocked
  refine LinkState.stocked.fillLine_sound ?_
  unfold LinkState.addReply
  split
  · rename_i room
    simp only [Config.replyPlaces] at room
    exact ⟨assembler, stall, inbound, by simp; omega, reports, errors, fun o => by have := owed o; omega⟩
  · rename_i full
    simp only [Config.replyPlaces] at full
    exact ⟨assembler, stall, inbound, replies, reports, errors, fun _ => by dsimp only; omega⟩

theorem LinkState.sound.offer_sound (h : k.sound) (m : Nat) (r : Report) : (k.offer m r).sound := by
  unfold LinkState.offer
  split
  · refine LinkState.stocked.fillLine_sound ?_
    obtain ⟨assembler, stall, inbound, replies, reports, errors, owed⟩ := h.stocked
    unfold LinkState.takeReport
    split
    · rename_i room
      simp only [Config.reportPlaces] at room
      exact ⟨assembler, stall, inbound, replies, by simp; omega, errors, owed⟩
    · exact ⟨assembler, stall, inbound, replies, reports, errors, owed⟩
  · exact h

/-- The assembler may go to any state of its own that is sound, the stall time running outside HUNT. -/
theorem LinkState.sound.assemble_sound (h : k.sound) {a : Assembler} (fits : a.sound) (begun : a ≠ .hunt) :
    (k.assemble a).sound := by
  obtain ⟨_, _, rest⟩ := h
  exact ⟨fits, by simp [LinkState.assemble, begun], rest⟩

theorem LinkState.sound.hunt_sound (h : k.sound) : k.hunt.sound := by
  obtain ⟨_, _, rest⟩ := h
  exact ⟨trivial, by simp [LinkState.hunt], rest⟩

theorem LinkState.sound.countError_sound (h : k.sound) : k.countError.sound := by
  obtain ⟨assembler, stall, inbound, replies, reports, _, rest⟩ := h
  exact ⟨assembler, stall, inbound, replies, reports, Nat.min_le_right _ _, rest⟩

theorem LinkState.sound.discard_sound (h : k.sound) : k.discard.sound := h.hunt_sound.countError_sound

theorem LinkState.sound.offerRequest_sound (h : k.sound) (r : Request) : (k.offerRequest r).sound := by
  unfold LinkState.offerRequest
  split
  · rename_i room
    simp only [Config.inboundPlaces] at room
    obtain ⟨assembler, stall, _, rest⟩ := h
    exact ⟨assembler, stall, by simp; omega, rest⟩
  · split
    · exact h.reply_sound _
    · exact h.countError_sound

theorem LinkState.sound.receive_sound (h : k.sound) (b : Byte) (stop : Bool) : (k.receive b stop).sound := by
  have gathered := h.1
  unfold LinkState.receive
  cases phase : k.assembler with
  | hunt =>
    dsimp only
    split
    · exact h.assemble_sound trivial nofun
    · exact h
  | length =>
    dsimp only
    split
    · rename_i fits
      simp only [Bool.and_eq_true, decide_eq_true_eq] at fits
      obtain ⟨⟨-, least⟩, most⟩ := fits
      exact h.assemble_sound ⟨least, most, by simp; omega⟩ nofun
    · exact h.discard_sound
  | body len got =>
    rw [phase] at gathered
    obtain ⟨least, most, short⟩ := gathered
    dsimp only
    split
    · exact h.discard_sound
    · split
      · exact h.assemble_sound ⟨least, most, by simp; omega⟩ nofun
      · exact h.assemble_sound ⟨least, most, by simp; omega⟩ nofun
  | check len got =>
    dsimp only
    split
    · exact h.hunt_sound.offerRequest_sound _
    · exact h.discard_sound

/-- A link that has taken a request is as sound as before, and waits and has lost as before. -/
theorem LinkState.takes_keeps {k' : LinkState} {r : Request} (h : k.takes r = some k') :
    (k.sound → k'.sound) ∧ k'.awaiting = k.awaiting ∧ k'.lost = k.lost := by
  unfold LinkState.takes at h
  split at h
  · split at h
    · obtain rfl := Option.some.inj h
      exact ⟨id, rfl, rfl⟩
    · rename_i q rest queue
      split at h
      · obtain rfl := Option.some.inj h
        refine ⟨fun sound => ?_, rfl, rfl⟩
        obtain ⟨assembler, stall, inbound, tail⟩ := sound
        simp only [queue, List.length_cons] at inbound
        exact ⟨assembler, stall, by show rest.length ≤ 4; omega, tail⟩
      · cases h
  · cases h

end Sys2Proof.Machine
end

section
/-! PROOFS. What every step keeps but for its owner: the links sound, the reports-lost flags, the lamps' counts and
OUT, SHUTDOWN, the latch and the stored records; one lemma for every operation (R14, R72, R93, R115, R117, R191). -/

set_option Elab.async false

namespace Sys2Proof.Machine

/-! ## The relation -/

/-- The command is a SERVICE_CLEAR (R117). -/
def isServiceClear (c : Instr) : Prop := ∃ l tag p, c = .serviceClear l tag p

/-- The command is a RESET_LAMP_WEAR (R103). -/
def isWearReset (c : Instr) : Prop := ∃ l tag p, c = .resetLampWear l tag p

/-- The counts of a lamp that saturate stand within their tops (R72, R93). -/
def Lamp.countsWithin (m : Lamp) : Prop := m.wear ≤ Config.wearTop ∧ m.strikeCount ≤ Config.strikeCountTop

/-- What a command `c` keeps of a lamp on its way from `m` to `n`: its counts but for RESET_LAMP_WEAR, and OUT but
for that and SERVICE_CLEAR. -/
structure Lamp.keeps (c : Instr) (m n : Lamp) : Prop where
  within : m.countsWithin → n.countsWithin
  counts : m.countsWithin → m.wear ≤ n.wear ∧ m.strikeCount ≤ n.strikeCount ∨ isWearReset c
  out : m.state = .out → n.state = .out ∨ isServiceClear c ∨ isWearReset c

/-- What a command `c` keeps of the whole state on its way from `s` to `t`. -/
structure State.keeps (c : Instr) (s t : State) : Prop where
  links : s.linksSound → t.linksSound
  lost : ∀ l, (s.link l).lost = true → (t.link l).lost = true ∨ ∃ tag p, c = .readStatus l tag p
  lamps : ∀ x, (s.lamp x).keeps c (t.lamp x)
  shutdown : s.power.state = .shutdown → t.power.state = .shutdown ∨ isServiceClear c
  latch : s.latch = true → t.latch = true ∨ isServiceClear c
  settings : t.nvSettings = s.nvSettings ∨ c = .settingsWriteEnd
  lampRecord : t.nvLamps = s.nvLamps ∨ c = .lampWriteEnd

variable {c : Instr} {s t u : State} {l : Link} {x : LampId} {m n : Lamp}

/-- A lamp whose counts stand, and that leaves OUT at most by an owner's command. -/
theorem Lamp.keeps.moved (out : m.state = .out → n.state = .out ∨ isServiceClear c ∨ isWearReset c)
    (wear : n.wear = m.wear := by rfl) (strikes : n.strikeCount = m.strikeCount := by rfl) :
    m.keeps c n where
  within := by simp [Lamp.countsWithin, wear, strikes]
  counts _ := by simp [wear, strikes]
  out := out

/-- A lamp that is not OUT may go to any state. -/
theorem Lamp.keeps.from_other (other : m.state ≠ .out) (wear : n.wear = m.wear := by rfl)
    (strikes : n.strikeCount = m.strikeCount := by rfl) : m.keeps c n :=
  .moved (fun out => absurd out other) wear strikes

/-- A lamp that stays in its state, its counts standing. -/
theorem Lamp.keeps.same (state : n.state = m.state := by rfl) (wear : n.wear = m.wear := by rfl)
    (strikes : n.strikeCount = m.strikeCount := by rfl) : m.keeps c n :=
  .moved (fun out => .inl (state.trans out)) wear strikes

/-- A lamp that goes to OUT. -/
theorem Lamp.keeps.into_out (state : n.state = .out := by rfl) (wear : n.wear = m.wear := by rfl)
    (strikes : n.strikeCount = m.strikeCount := by rfl) : m.keeps c n :=
  .moved (fun _ => .inl state) wear strikes

theorem Lamp.keeps.trans {o : Lamp} (h : m.keeps c n) (k : n.keeps c o) : m.keeps c o where
  within w := k.within (h.within w)
  counts w := by
    rcases h.counts w with ⟨a, b⟩ | r
    · exact (k.counts (h.within w)).imp_left fun ⟨d, e⟩ => ⟨a.trans d, b.trans e⟩
    · exact .inr r
  out w := (h.out w).elim k.out .inr

/-- An update of anything but the links, the lamps, the power state, the latch and the store. -/
theorem State.keeps.same (control : t.control = s.control := by rfl) (lectern : t.lectern = s.lectern := by rfl)
    (write : t.settingsWrite = s.settingsWrite := by rfl) (lampA : t.lampA = s.lampA := by rfl)
    (lampB : t.lampB = s.lampB := by rfl) (power : t.power.state = s.power.state := by rfl)
    (latch : t.latch = s.latch := by rfl) (settings : t.nvSettings = s.nvSettings := by rfl)
    (record : t.nvLamps = s.nvLamps := by rfl) : s.keeps c t := by
  have link : ∀ l, t.link l = s.link l := fun l => by cases l <;> assumption
  have lamp : ∀ x, t.lamp x = s.lamp x := fun x => by cases x <;> assumption
  exact
    { links := fun h l => by rw [link, write]; exact h l
      lost := fun l h => .inl (by rw [link]; exact h)
      lamps := fun x => by rw [lamp]; exact .same
      shutdown := fun h => .inl (power.trans h)
      latch := fun h => .inl (latch.trans h)
      settings := .inl settings
      lampRecord := .inl record }

theorem State.keeps.refl (s : State) : s.keeps c s := .same

theorem State.keeps.trans (h : s.keeps c t) (k : t.keeps c u) : s.keeps c u where
  links w := k.links (h.links w)
  lost l w := (h.lost l w).elim (k.lost l) .inr
  lamps x := (h.lamps x).trans (k.lamps x)
  shutdown w := (h.shutdown w).elim k.shutdown .inr
  latch w := (h.latch w).elim k.latch .inr
  settings := by
    rcases h.settings with a | a
    · exact k.settings.imp_left (·.trans a)
    · exact .inr a
  lampRecord := by
    rcases h.lampRecord with a | a
    · exact k.lampRecord.imp_left (·.trans a)
    · exact .inr a

/-- A fold keeps what each of its steps keeps. -/
theorem State.foldl_keeps {α : Type} (f : State → α → State) (h : ∀ (s : State) (a : α), s.keeps c (f s a)) (as : List α)
    (s : State) : s.keeps c (as.foldl f s) := by
  induction as generalizing s with
  | nil => exact .refl s
  | cons a as ih => exact (h s a).trans (ih _)

/-! ## The links -/

theorem State.link_setLink (s : State) (l j : Link) (k : LinkState) :
    (s.setLink l k).link j = if j = l then k else s.link j := by
  cases l <;> cases j <;> rfl

@[simp] theorem State.link_offer (s : State) (r : Report) (l : Link) :
    (s.offer r).link l = (s.link l).offer (s.mask l) r := by
  cases l <;> rfl

/-- A link takes another state as sound as its own, and waits for a COMMIT as before. -/
theorem State.setLink_keeps (s : State) (l : Link) (k : LinkState) (sound : (s.link l).sound → k.sound)
    (awaiting : k.awaiting = (s.link l).awaiting)
    (lost : (s.link l).lost = true → k.lost = true ∨ ∃ tag p, c = .readStatus l tag p) :
    s.keeps c (s.setLink l k) where
  links h j := by
    rw [State.link_setLink, State.setLink_settingsWrite]
    split
    · rename_i same
      rw [same, awaiting]
      exact ⟨sound (h l).1, (h l).2⟩
    · exact h j
  lost j h := by
    rw [State.link_setLink]
    split
    · rename_i same
      rw [same] at h ⊢
      exact lost h
    · exact .inl h
  lamps x := by simpa using .same
  shutdown h := .inl (by simpa using h)
  latch h := .inl (by simpa using h)
  settings := .inl (by simp)
  lampRecord := .inl (by simp)

theorem State.offer_keeps (s : State) (r : Report) : s.keeps c (s.offer r) where
  links h l := by
    rw [State.link_offer, LinkState.offer_awaiting]
    exact ⟨(h l).1.offer_sound _ r, (h l).2⟩
  lost l h := .inl (by simpa using LinkState.offer_keeps_lost _ _ r h)
  lamps x := by simpa using .same
  shutdown := .inl
  latch := .inl
  settings := .inl rfl
  lampRecord := .inl rfl

theorem State.reply_keeps (s : State) (l : Link) (r : Reply) : s.keeps c (s.reply l r) :=
  s.setLink_keeps l _ (·.reply_sound r) (LinkState.reply_awaiting _ r) fun h => .inl (by simpa using h)

theorem State.answer_keeps (s : State) (l : Link) (kind tag : Byte) (a : Answer) :
    s.keeps c (s.answer l kind tag a) := s.reply_keeps l _

/-- A link that takes a request keeps everything. -/
theorem State.takes_keeps {k : LinkState} {r : Request} (s : State) (h : (s.link l).takes r = some k) :
    s.keeps c (s.setLink l k) := by
  obtain ⟨sound, awaiting, lost⟩ := LinkState.takes_keeps h
  exact s.setLink_keeps l k sound awaiting fun was => .inl (lost.trans was)

/-- A request keeps what the handling of a request that passes the link's checks keeps. -/
theorem State.handled_keeps (s : State) (l : Link) (kind tag : Byte) (payload : List Byte) (pass : State → State)
    (h : ∀ t : State, t.keeps c (pass t)) : s.keeps c (s.handled l kind tag payload pass) := by
  unfold State.handled
  split
  · exact .refl s
  · rename_i k taken
    refine (s.takes_keeps taken).trans ?_
    dsimp only
    split
    · exact State.answer_keeps _ l kind tag _
    · exact h _

theorem State.request_keeps (s : State) (l : Link) (kind tag : Byte) (payload : List Byte) (body : State → Taken)
    (h : ∀ t : State, t.keeps c (body t).2) : s.keeps c (s.request l kind tag payload body) :=
  s.handled_keeps l kind tag payload _ fun t => (h t).trans (State.answer_keeps _ l kind tag _)

/-! ## The lamps and their record -/

theorem State.lamp_setLamp (s : State) (x y : LampId) (m : Lamp) :
    (s.setLamp x m).lamp y = if y = x then m else s.lamp y := by
  cases x <;> cases y <;> rfl

@[simp] theorem State.lamp_driveFan (s : State) (x : LampId) : s.driveFan.lamp x = s.lamp x := by
  cases x <;> rfl

@[simp] theorem State.link_setLamp (s : State) (x : LampId) (m : Lamp) (l : Link) :
    (s.setLamp x m).link l = s.link l := by
  cases x <;> cases l <;> rfl

theorem State.setLamp_keeps (s : State) (x : LampId) (m : Lamp) (h : (s.lamp x).keeps c m) :
    s.keeps c (s.setLamp x m) where
  links w l := by
    rw [State.link_setLamp, State.setLamp_settingsWrite]
    exact w l
  lost l w := .inl (by simpa using w)
  lamps y := by
    rw [State.lamp_setLamp]
    split
    · rename_i same
      rw [same]
      exact h
    · exact .same
  shutdown w := .inl (by simpa using w)
  latch w := .inl (by simpa using w)
  settings := .inl (by simp)
  lampRecord := .inl (by simp)

theorem State.driveFan_keeps (s : State) : s.keeps c s.driveFan := .same

theorem State.putLamp_keeps (s : State) (x : LampId) (m : Lamp) (h : (s.lamp x).keeps c m) :
    s.keeps c (s.putLamp x m) :=
  (s.setLamp_keeps x _ (h.trans .same)).trans (State.driveFan_keeps _)

theorem State.checkpoint_keeps (s : State) : s.keeps c s.checkpoint := by
  unfold State.checkpoint
  split
  · exact .same
  · exact .same

theorem State.checkpointFor_keeps (s : State) (x : LampId) : s.keeps c (s.checkpointFor x) :=
  (s.setLamp_keeps x _ .same).trans (State.checkpoint_keeps _)

theorem State.reportLamp_keeps (s : State) (x : LampId) (p : LampState) (k : LampCause) :
    s.keeps c (s.reportLamp x p k) := s.offer_keeps _

theorem State.condition_keeps (s : State) (x : LampId) (k : IncidentKind) : s.keeps c (s.condition x k) :=
  (s.setLamp_keeps x _ .same).trans (State.offer_keeps _ _)

theorem State.conditionIf_keeps (s : State) (b : Bool) (x : LampId) (k : IncidentKind) :
    s.keeps c (s.conditionIf b x k) := by
  unfold State.conditionIf
  split
  · exact s.condition_keeps x k
  · exact .refl s

theorem State.testThresholds_keeps (s : State) (x : LampId) : s.keeps c (s.testThresholds x) :=
  (((s.setLamp_keeps x _ .same).trans (State.conditionIf_keeps _ _ _ _)).trans
    (State.conditionIf_keeps _ _ _ _)).trans (State.conditionIf_keeps _ _ _ _)

/-- Wear that goes up saturates at its top, so it never falls from within. -/
theorem Lamp.keeps.worn (m : Lamp) (units : Nat) :
    m.keeps c { m with wear := min (m.wear + units) Config.wearTop } where
  within h := ⟨Nat.min_le_right _ _, h.2⟩
  counts h := .inl ⟨Nat.le_min.mpr ⟨Nat.le_add_right _ _, h.1⟩, le_rfl⟩
  out := .inl

theorem State.addWear_keeps (s : State) (x : LampId) (n : Nat) : s.keeps c (s.addWear x n) :=
  (s.setLamp_keeps x _ (.worn _ n)).trans (State.testThresholds_keeps _ x)

/-- A strike is counted up to the top of the strike count (R72). -/
theorem Lamp.keeps.ignited (other : m.state ≠ .out) : m.keeps c m.ignited where
  within h := ⟨h.1, Nat.min_le_right _ _⟩
  counts h := .inl ⟨le_rfl, Nat.le_min.mpr ⟨Nat.le_add_right _ _, h.2⟩⟩
  out out := absurd out other

theorem State.moveLamp_keeps (s : State) (x : LampId) (f : Lamp → Lamp) (b : Bool) (k : LampCause)
    (h : (s.lamp x).keeps c (f (s.lamp x))) : s.keeps c (s.moveLamp x f b k) := by
  unfold State.moveLamp
  refine State.keeps.trans ?_ (State.reportLamp_keeps _ _ _ _)
  split
  · exact (s.putLamp_keeps x _ h).trans (State.checkpointFor_keeps _ x)
  · exact s.putLamp_keeps x _ h

/-! ### The state of a lamp through the operations that leave it -/

@[simp] theorem State.lamp_checkpoint (s : State) (x : LampId) : s.checkpoint.lamp x = s.lamp x := by
  unfold State.checkpoint
  split <;> cases x <;> rfl

@[simp] theorem State.state_condition (s : State) (x y : LampId) (k : IncidentKind) :
    ((s.condition x k).lamp y).state = (s.lamp y).state := by
  cases x <;> cases y <;> rfl

@[simp] theorem State.state_conditionIf (s : State) (b : Bool) (x y : LampId) (k : IncidentKind) :
    ((s.conditionIf b x k).lamp y).state = (s.lamp y).state := by
  unfold State.conditionIf
  split <;> simp

@[simp] theorem State.state_checkpointFor (s : State) (x y : LampId) :
    ((s.checkpointFor x).lamp y).state = (s.lamp y).state := by
  unfold State.checkpointFor
  rw [State.lamp_checkpoint, State.lamp_setLamp]
  split <;> simp_all

@[simp] theorem State.state_testThresholds (s : State) (x y : LampId) :
    ((s.testThresholds x).lamp y).state = (s.lamp y).state := by
  unfold State.testThresholds
  simp only [State.state_conditionIf, State.lamp_setLamp]
  split <;> simp_all [State.flagged]

@[simp] theorem State.state_addWear (s : State) (x y : LampId) (n : Nat) :
    ((s.addWear x n).lamp y).state = (s.lamp y).state := by
  unfold State.addWear
  rw [State.state_testThresholds, State.lamp_setLamp]
  split <;> simp_all

@[simp] theorem State.state_putLamp_same (s : State) (x : LampId) (m : Lamp) :
    ((s.putLamp x m).lamp x).state = m.state := by
  simp [State.putLamp]

@[simp] theorem State.state_moveLamp_same (s : State) (x : LampId) (f : Lamp → Lamp) (b : Bool) (k : LampCause) :
    ((s.moveLamp x f b k).lamp x).state = (f (s.lamp x)).state := by
  unfold State.moveLamp State.reportLamp
  split <;> simp

/-! ## The lamp channels -/

theorem State.extinguish_keeps (s : State) (x : LampId) (b : Bool) (k : LampCause)
    (other : (s.lamp x).state ≠ .out) : s.keeps c (s.extinguish x b k) :=
  s.moveLamp_keeps x _ _ _ (.from_other other)

/-- A lamp leaves a state other than OUT after one incident has been recorded. -/
theorem State.condition_moveLamp_keeps (s : State) (x : LampId) (k : IncidentKind) (f : Lamp → Lamp) (b : Bool)
    (cause : LampCause) (other : (s.lamp x).state ≠ .out)
    (wear : ∀ m : Lamp, (f m).wear = m.wear := by intro; rfl)
    (strikes : ∀ m : Lamp, (f m).strikeCount = m.strikeCount := by intro; rfl) :
    s.keeps c ((s.condition x k).moveLamp x f b cause) :=
  (s.condition_keeps x k).trans
    (State.moveLamp_keeps _ x f b cause (.from_other (by simpa using other) (wear _) (strikes _)))

theorem State.strikeFailed_keeps (s : State) (x : LampId) (b : Bool) (other : (s.lamp x).state ≠ .out) :
    s.keeps c (s.strikeFailed x b).1 := by
  unfold State.strikeFailed
  dsimp only
  split
  · dsimp only
    exact s.condition_moveLamp_keeps x _ _ _ _ other
  · split
    · cases b with
      | true =>
        exact (s.condition_keeps x _).trans
          (State.condition_moveLamp_keeps _ x _ _ _ _ (by simpa using other))
      | false => exact s.condition_moveLamp_keeps x _ _ _ _ other
    · split <;> (dsimp only; exact s.condition_moveLamp_keeps x _ _ _ _ other)

theorem State.faultInIgnite_keeps (s : State) (x : LampId) (other : (s.lamp x).state ≠ .out) :
    s.keeps c (s.faultInIgnite x).1 := by
  unfold State.faultInIgnite
  split
  · exact s.strikeFailed_keeps x true other
  · exact s.condition_moveLamp_keeps x _ _ _ _ other

theorem State.takeFault_keeps (s : State) (x : LampId) : s.keeps c (s.takeFault x).1 := by
  unfold State.takeFault
  split <;> rename_i phase
  case h_1 => exact s.faultInIgnite_keeps x (by simp [phase])
  case h_2 => exact s.condition_moveLamp_keeps x _ _ _ _ (by simp [phase])
  case h_3 | h_4 | h_5 => exact s.condition_moveLamp_keeps x _ _ _ _ (by simp [phase])
  all_goals exact .refl s

theorem State.ignite_keeps (s : State) (x : LampId) (other : (s.lamp x).state ≠ .out) :
    s.keeps c (s.ignite x).1 := by
  let struck : State := { s.putLamp x (s.lamp x).ignited with lastStruck := some x }
  have alight : (struck.lamp x).state = .ignite := by cases x <;> rfl
  have entered : s.keeps c
      (((struck.addWear x Config.strikeCharge).checkpointFor x).reportLamp x (s.lamp x).state .strike) :=
    ((((s.putLamp_keeps x _ (.ignited other)).trans .same).trans (State.addWear_keeps struck x _)).trans
      (State.checkpointFor_keeps _ x)).trans (State.reportLamp_keeps _ x _ .strike)
  unfold State.ignite
  dsimp only
  split
  · exact entered.trans (State.faultInIgnite_keeps _ x (by simp [State.reportLamp, alight]))
  · exact entered

theorem State.unavailable_keeps (s : State) (x : LampId) : s.keeps c (s.unavailable x).1 := by
  unfold State.unavailable
  split
  · rename_i phase
    exact s.moveLamp_keeps x _ _ _ (.from_other (by simp [phase]))
  · dsimp only
    exact s.moveLamp_keeps x _ _ _ .same

theorem State.strike_keeps (s : State) (x : LampId) (other : (s.lamp x).state ≠ .out) :
    s.keeps c (s.strike x).1 := by
  unfold State.strike
  split
  · exact s.ignite_keeps x other
  · exact s.unavailable_keeps x

theorem State.reachDark_keeps (s : State) (x : LampId) (other : (s.lamp x).state ≠ .out) :
    s.keeps c (s.reachDark x).1 := by
  unfold State.reachDark
  dsimp only
  split
  · exact (s.moveLamp_keeps x _ _ _ (.from_other other)).trans (State.strike_keeps _ x (by simp))
  · dsimp only
    exact s.moveLamp_keeps x _ _ _ (.from_other other)

theorem State.cooled_keeps (s : State) (x : LampId) (other : (s.lamp x).state ≠ .out) :
    s.keeps c (s.cooled x).1 := by
  unfold State.cooled
  dsimp only
  split
  · dsimp only
    exact s.moveLamp_keeps x _ _ _ .into_out
  · split
    · exact (s.moveLamp_keeps x _ _ _ (.from_other other)).trans (State.reachDark_keeps _ x (by simp))
    · dsimp only
      exact s.moveLamp_keeps x _ _ _ (.from_other other)

theorem State.callLamp_keeps (s : State) (x : LampId) : s.keeps c (s.callLamp x).1 := by
  unfold State.callLamp
  dsimp only
  split
  · exact .refl s
  · split <;> rename_i phase
    case h_3 =>
      exact (s.setLamp_keeps x _ .same).trans
        (State.strike_keeps _ x (by simp [State.newPowerOn, phase]))
    case h_1 | h_2 =>
      split
      · dsimp only
        exact s.moveLamp_keeps x _ _ _ .same
      · exact .refl s
    case h_4 | h_5 =>
      split
      · exact .refl s
      · dsimp only
        exact s.moveLamp_keeps x _ _ _ .same
    all_goals exact .refl s

theorem State.releaseLamp_keeps (s : State) (x : LampId) : s.keeps c (s.releaseLamp x) := by
  unfold State.releaseLamp
  split
  · exact .refl s
  · split <;> rename_i phase
    case h_3 | h_4 => exact s.extinguish_keeps x _ _ (by simp [phase])
    case h_5 => exact s.moveLamp_keeps x _ _ _ (.from_other (by simp [phase]))
    case h_1 | h_2 | h_6 | h_7 => exact s.moveLamp_keeps x _ _ _ .same
    all_goals exact .refl s

theorem State.thermalLamp_keeps (s : State) (x : LampId) : s.keeps c (s.thermalLamp x) := by
  unfold State.thermalLamp
  split <;> rename_i phase
  case h_1 | h_2 | h_3 | h_4 => exact s.extinguish_keeps x _ _ (by simp [phase])
  case h_5 => exact s.moveLamp_keeps x _ _ _ (.from_other (by simp [phase]))
  case h_6 | h_7 =>
    split
    · exact s.moveLamp_keeps x _ _ _ .same
    · exact .refl s
  all_goals exact .refl s

/-- A return to service takes a lamp out of OUT, so it belongs to its owners (R83). -/
theorem State.serviceLamp_keeps (s : State) (x : LampId)
    (owner : (s.lamp x).state = .out → isServiceClear c ∨ isWearReset c) : s.keeps c (s.serviceLamp x) :=
  s.moveLamp_keeps x _ _ _ (.moved fun out => .inr (owner out))

theorem State.dimLamp_keeps (s : State) (x : LampId) : s.keeps c (s.dimLamp x) := by
  unfold State.dimLamp
  split
  · rename_i lit
    exact s.moveLamp_keeps x _ _ _ (.from_other (by simp [lit]))
  · exact .refl s

theorem State.undimLamp_keeps (s : State) (x : LampId) : s.keeps c (s.undimLamp x) := by
  unfold State.undimLamp
  split
  · rename_i dimmed
    exact s.moveLamp_keeps x _ _ _ (.from_other (by simp [dimmed]))
  · exact .refl s

theorem State.relevelLamp_keeps (s : State) (x : LampId) : s.keeps c (s.relevelLamp x) := by
  unfold State.relevelLamp
  split
  · exact s.moveLamp_keeps x _ _ _ .same
  · exact .refl s

theorem State.failover_keeps (n : Nat) (s : State) (x : LampId) : s.keeps c (s.failover x n).1 := by
  induction n generalizing s x with
  | zero => exact .refl s
  | succ n ih =>
    have called : s.keeps c
        (if (s.lamp (otherLamp x)).called then (s, false) else s.callLamp (otherLamp x)).1 := by
      split
      · exact .refl s
      · exact s.callLamp_keeps _
    unfold State.failover
    generalize (if (s.lamp (otherLamp x)).called then (s, false) else s.callLamp (otherLamp x)) = r at *
    dsimp only
    split
    · exact .refl s
    · split
      case h_1 | h_2 => exact .refl s
      all_goals
        split
        · exact called.trans (ih _ _)
        · exact called

theorem LampMove.settle_keeps (r : LampMove) (x : LampId) : r.1.keeps c (LampMove.settle r x).1 := by
  unfold LampMove.settle
  split
  · exact State.failover_keeps 2 r.1 x
  · exact .refl _

theorem State.callLamps_keeps (xs : List LampId) (s : State) : s.keeps c (s.callLamps xs) := by
  induction xs generalizing s with
  | nil => exact .refl s
  | cons x xs ih => exact ((s.callLamp_keeps x).trans (LampMove.settle_keeps _ x)).trans (ih _)

end Sys2Proof.Machine
end

section
/-! PROOFS. What the switch unit, the power unit and the policy unit keep: one lemma for every operation of
Switching.lean, Power.lean and Policy.lean. -/

set_option Elab.async false

namespace Sys2Proof.Machine

variable {c : Instr} {s t u : State} {l : Link} {x : LampId} {m n : Lamp}

/-! ## The power unit's state, and what changes with the source -/

@[simp] theorem State.link_setPower (s : State) (p : PowerUnit) (l : Link) : (s.setPower p).link l = s.link l := by
  cases l <;> rfl

theorem State.setPower_keeps (s : State) (p : PowerUnit)
    (h : s.power.state = .shutdown → p.state = .shutdown ∨ isServiceClear c) : s.keeps c (s.setPower p) :=
  { State.keeps.refl s with
    shutdown := h
    links := fun w l => by rw [State.link_setPower]; exact w l
    lost := fun l w => .inl (by simpa using w)
    lamps := fun x => by cases x <;> exact .same }

/-- An update of the power unit that leaves its state. -/
theorem State.setPower_keeps_same (s : State) (p : PowerUnit) (h : p.state = s.power.state := by rfl) :
    s.keeps c (s.setPower p) :=
  s.setPower_keeps p fun w => .inl (h.trans w)

theorem State.reportPower_keeps (s : State) (p : PowerState) (k : PowerCause) (o : PowerOutcome) :
    s.keeps c (s.reportPower p k o) := s.offer_keeps _

theorem State.retestIdle_keeps (s : State) : s.keeps c s.retestIdle := s.setPower_keeps_same _

/-- What reaches the lamps alone leaves the power unit. -/
theorem State.lampsOnly.power (h : s.lampsOnly t) : t.power = s.power := by
  unfold State.lampsOnly at h
  rw [h]

theorem State.leaveDimmed_keeps (s : State) (dimmed : s.power.state = .dimmed) : s.keeps c s.leaveDimmed := by
  have lit := ((s.setPower_keeps_same (c := c) { s.power with autoOff := none }).trans
    (State.undimLamp_keeps _ .a)).trans (State.undimLamp_keeps _ .b)
  refine ((lit.trans (State.setPower_keeps _ _ fun out => ?_)).trans (State.reportPower_keeps _ _ _ _)).trans
    (State.retestIdle_keeps _)
  rw [(State.undimLamp_frame _ .b).power, (State.undimLamp_frame _ .a).power] at out
  exact absurd (dimmed.symm.trans out) (by decide)

theorem State.leaveMark_keeps (s : State) : s.keeps c s.leaveMark :=
  ((s.setPower_keeps_same _).trans (State.reportPower_keeps _ _ _ _)).trans (State.retestIdle_keeps _)

theorem State.activity_keeps (s : State) : s.keeps c s.activity := by
  unfold State.activity
  split
  · exact s.leaveDimmed_keeps ‹_›
  · split
    · exact s.leaveMark_keeps
    · split
      · exact s.setPower_keeps_same _
      · exact .refl s
  all_goals exact .refl s

theorem State.signalReturned_keeps (s : State) : s.keeps c s.signalReturned := by
  unfold State.signalReturned
  split
  · split
    · exact s.leaveDimmed_keeps ‹_›
    · exact .refl s
  · split
    · exact s.leaveMark_keeps
    · exact s.retestIdle_keeps
  all_goals exact s.retestIdle_keeps

theorem State.sourceSeen_keeps (s : State) (b : Bool) : s.keeps c (s.sourceSeen b) := by
  unfold State.sourceSeen
  split
  · exact s.signalReturned_keeps
  · exact s.retestIdle_keeps

theorem State.muteSeen_keeps (s : State) : s.keeps c s.muteSeen := by
  unfold State.muteSeen
  split
  · exact s.retestIdle_keeps
  · split
    · exact s.leaveDimmed_keeps ‹_›
    · split
      · exact s.leaveMark_keeps
      · exact s.retestIdle_keeps
    all_goals exact s.retestIdle_keeps

/-! ## The switch unit, the picture and the input monitor -/

theorem State.putSwitch_keeps (s : State) (v : SwitchUnit) : s.keeps c (s.putSwitch v) := .same

theorem State.retestWatch_keeps (s : State) : s.keeps c s.retestWatch := by
  unfold State.retestWatch
  split
  · split
    · exact s.putSwitch_keeps _
    · exact .refl s
  · exact s.putSwitch_keeps _

theorem State.reportSwitch_keeps (s : State) (i : InputId) (o : SwitchOutcome) (k : ReqClass) (p : Nat)
    (r : Option (Link × Byte)) : s.keeps c (s.reportSwitch i o k p r) := s.offer_keeps _

theorem State.beginSwitch_keeps (s : State) (i : InputId) (k : ReqClass) (p : Nat) (r : Option (Link × Byte)) :
    s.keeps c (s.beginSwitch i k p r) := (s.putSwitch_keeps _).trans (State.retestWatch_keeps _)

theorem State.startPending_keeps (s : State) : s.keeps c s.startPending := by
  unfold State.startPending
  split
  · exact .refl s
  · dsimp only
    split
    · exact (s.putSwitch_keeps _).trans (State.reportSwitch_keeps _ _ _ _ _ _)
    · exact (s.putSwitch_keeps _).trans (State.beginSwitch_keeps _ _ _ _ _)

theorem State.runPicture_keeps (s : State) : s.keeps c s.runPicture := .same

theorem State.sendUpdate_keeps (s : State) (k : GeoCause) (b : Bool) : s.keeps c (s.sendUpdate k b) :=
  State.keeps.trans .same (State.offer_keeps _ _)

theorem State.dueUpdate_keeps (s : State) (k : GeoCause) : s.keeps c (s.dueUpdate k) := by
  unfold State.dueUpdate
  split
  · exact .same
  · exact s.sendUpdate_keeps _ _

theorem State.sourceEvent_keeps (s : State) : s.keeps c s.sourceEvent :=
  s.runPicture_keeps.trans (State.dueUpdate_keeps _ _)

theorem State.adoptGeometry_keeps (s : State) (g : GeoValues) : s.keeps c (s.adoptGeometry g) := .same

theorem State.completeSwitch_keeps (s : State) (w : Switch) (o : SwitchOutcome) :
    s.keeps c (s.completeSwitch w o) :=
  ((((((s.putSwitch_keeps _).trans (State.runPicture_keeps _)).trans
    (State.reportSwitch_keeps _ _ _ _ _ _)).trans (State.sendUpdate_keeps _ _ _)).trans
    (State.retestWatch_keeps _)).trans (State.sourceSeen_keeps _ _)).trans (State.startPending_keeps _)

theorem State.dropSwitch_keeps (s : State) : s.keeps c s.dropSwitch := by
  unfold State.dropSwitch
  split
  · exact .refl s
  · exact (((s.putSwitch_keeps _).trans (State.runPicture_keeps _)).trans
      (State.reportSwitch_keeps _ _ _ _ _ _)).trans (State.sendUpdate_keeps _ _ _)

theorem State.dropPending_keeps (s : State) (o : SwitchOutcome) : s.keeps c (s.dropPending o) := by
  unfold State.dropPending
  split
  · exact .refl s
  · exact (s.putSwitch_keeps _).trans (State.reportSwitch_keeps _ _ _ _ _ _)

theorem State.stopSwitching_keeps (s : State) : s.keeps c s.stopSwitching :=
  (s.dropSwitch_keeps.trans (State.dropPending_keeps _ _)).trans (State.putSwitch_keeps _ _)

theorem State.awaitedSignal_keeps (s : State) (i : InputId) : s.keeps c (s.awaitedSignal i) := by
  unfold State.awaitedSignal
  split
  · exact .refl s
  · split
    · split
      case h_1 | h_2 | h_3 => exact s.completeSwitch_keeps _ _
      all_goals exact .refl s
    · exact .refl s

theorem State.setInput_keeps (s : State) (i : InputId) (r : InputRecord) : s.keeps c (s.setInput i r) := .same

theorem State.signalChange_keeps (s : State) (i : InputId) (r : InputRecord) (k : InputCause) :
    s.keeps c (s.signalChange i r k) := by
  have switched : s.keeps c
      ((((s.setInput i r).reportInput i (s.input i).signal k).awaitedSignal i).retestWatch) :=
    (((s.setInput_keeps i r).trans (State.offer_keeps _ _)).trans (State.awaitedSignal_keeps _ i)).trans
      (State.retestWatch_keeps _)
  unfold State.signalChange
  dsimp only
  split
  · exact (switched.trans (State.sourceEvent_keeps _)).trans (State.sourceSeen_keeps _ _)
  · exact switched

theorem State.sleepInput_keeps (s : State) (i : InputId) : s.keeps c (s.sleepInput i) := by
  unfold State.sleepInput
  split
  · exact .refl s
  · exact s.signalChange_keeps _ _ _

theorem State.sleepInputs_keeps (s : State) : s.keeps c s.sleepInputs :=
  State.foldl_keeps _ State.sleepInput_keeps _ s

theorem State.wakeInputs_keeps (s : State) : s.keeps c s.wakeInputs :=
  State.foldl_keeps _ (fun s i => s.signalChange_keeps i _ _) _ s

theorem State.rematch_keeps (n : Fin 16) (s : State) (i : InputId) : s.keeps c (s.rematch n i) := by
  unfold State.rematch
  dsimp only
  split
  · split
    · split
      · exact s.signalChange_keeps _ _ _
      · exact .refl s
    · exact s.signalChange_keeps _ _ _
  · exact s.signalChange_keeps _ _ _
  · exact s.setInput_keeps _ _
  all_goals exact .refl s

/-! ## The power unit and thermal recovery -/

theorem State.stopScan_keeps (s : State) : s.keeps c s.stopScan := .same

theorem State.startScan_keeps (s : State) : s.keeps c s.startScan := .same

theorem State.stopWake_keeps (s : State) : s.keeps c s.stopWake :=
  (s.setLamp_keeps .a { s.lampA with wakeTimer := none } .same).trans
    (State.setLamp_keeps _ .b { s.lampB with wakeTimer := none } .same)

theorem State.closeWindow_keeps (s : State) (e : ConfirmEvent) : s.keeps c (s.closeWindow e) := by
  unfold State.closeWindow
  split
  · exact .refl s
  · exact State.keeps.trans .same (State.offer_keeps _ _)

theorem State.endHold_keeps (s : State) (k : CredCause) : s.keeps c (s.endHold k) := by
  unfold State.endHold
  split
  · exact .refl s
  · exact State.keeps.trans .same (State.offer_keeps _ _)

theorem State.enterStarting_keeps (s : State) (k : PowerCause) (o : PowerOutcome)
    (other : s.power.state ≠ .shutdown) : s.keeps c (s.enterStarting k o) := by
  have entered : s.keeps c (s.setPower { s.power with state := .starting }) :=
    s.setPower_keeps _ fun w => absurd w other
  unfold State.enterStarting
  dsimp only
  refine State.keeps.trans ?_ (State.reportPower_keeps _ _ _ _)
  split
  · exact (entered.trans (State.stopScan_keeps _)).trans (State.wakeInputs_keeps _)
  case h_2 | h_3 => exact (entered.trans (State.setPower_keeps_same _ _)).trans (State.retestWatch_keeps _)
  all_goals exact entered

theorem State.enterOn_keeps (s : State) (k : PowerCause) (o : PowerOutcome) (other : s.power.state ≠ .shutdown) :
    s.keeps c (s.enterOn k o) :=
  (((s.setPower_keeps _ fun w => absurd w other).trans (State.retestIdle_keeps _)).trans
    (State.retestWatch_keeps _)).trans (State.reportPower_keeps _ _ _ _)

theorem State.enterStopping_keeps (s : State) (k : PowerCause) (o : PowerOutcome)
    (other : s.power.state ≠ .shutdown) : s.keeps c (s.enterStopping k o) :=
  ((((s.setPower_keeps _ fun w => absurd w other).trans (State.stopWake_keeps _)).trans
    (State.stopSwitching_keeps _)).trans (State.closeWindow_keeps _ _)).trans (State.reportPower_keeps _ _ _ _)

/-- STANDBY is entered from SHUTDOWN at a SERVICE_CLEAR alone (R118). -/
theorem State.enterStandby_keeps (s : State) (k : PowerCause)
    (owner : s.power.state = .shutdown → isServiceClear c) : s.keeps c (s.enterStandby k) := by
  have reported : s.keeps c
      ((((s.setPower { s.power with state := .standby, degraded := false }).sleepInputs.closeWindow
        .cancelledState).startScan).reportPower s.power.state k .none) :=
    ((((s.setPower_keeps _ fun w => .inr (owner w)).trans (State.sleepInputs_keeps _)).trans
      (State.closeWindow_keeps _ _)).trans (State.startScan_keeps _)).trans (State.reportPower_keeps _ _ _ _)
  unfold State.enterStandby
  dsimp only
  split
  · exact reported.trans (State.endHold_keeps _ _)
  · exact reported

theorem State.enterShutdown_keeps (s : State) (k : PowerCause) : s.keeps c (s.enterShutdown k) :=
  (((((s.setPower_keeps _ fun _ => .inl rfl).trans (State.stopWake_keeps _)).trans (State.stopScan_keeps _)).trans
    (State.sleepInputs_keeps _)).trans (State.closeWindow_keeps _ _)).trans (State.reportPower_keeps _ _ _ _)

theorem State.settleDegraded_keeps (s : State) : s.keeps c s.settleDegraded := s.setPower_keeps_same _

theorem State.tryStandby_keeps (s : State) : s.keeps c s.tryStandby := by
  unfold State.tryStandby
  split
  · rename_i h
    exact s.enterStandby_keeps _ fun w => by simp [w] at h
  · exact .refl s

theorem State.noLampInPlay_keeps (s : State) (other : s.power.state ≠ .shutdown) : s.keeps c s.noLampInPlay :=
  ((s.setPower_keeps_same s.power.noIntent).trans (State.enterStopping_keeps _ _ _ other)).trans
    (State.tryStandby_keeps _)

theorem State.lampEvent_keeps (s : State) (told : PlaySignal) : s.keeps c (s.lampEvent told) := by
  have settled : s.keeps c s.settleDegraded := s.settleDegraded_keeps
  have marked : ∀ b, s.keeps c (s.settleDegraded.setPower { s.settleDegraded.power with degraded := b }) :=
    fun b => settled.trans (State.setPower_keeps_same _ _)
  unfold State.lampEvent
  dsimp only
  split <;> rename_i state
  case h_1 | h_2 | h_3 =>
    have other : s.power.state ≠ .shutdown := by simp [state]
    split
    · exact settled.trans (State.noLampInPlay_keeps _ other)
    all_goals
      simp only [reduceCtorEq, if_true, if_false]
      repeat' split
      all_goals first
        | exact (marked _).trans (State.enterOn_keeps _ _ _ other)
        | exact (marked _).trans (State.enterStarting_keeps _ _ _ other)
        | exact (marked _).trans (State.reportPower_keeps _ _ _ _)
        | exact marked _
  case h_4 => exact settled.trans (State.tryStandby_keeps _)
  all_goals exact settled

theorem LampMove.finish_keeps (r : LampMove) (x : LampId) : r.1.keeps c (LampMove.finish r x) :=
  (LampMove.settle_keeps r x).trans (State.lampEvent_keeps _ _)

theorem State.reportThermal_keeps (s : State) (e : ThermalEvent) : s.keeps c (s.reportThermal e) :=
  s.offer_keeps _

theorem State.setRecovery_keeps (s : State) (b : Bool) : s.keeps c (s.setRecovery b) := .same

theorem State.endRecovery_keeps (s : State) : s.keeps c s.endRecovery := by
  unfold State.endRecovery
  split
  · exact ((s.reportThermal_keeps _).trans (State.setPower_keeps_same _ _)).trans (State.enterShutdown_keeps _ _)
  · exact ((s.setRecovery_keeps _).trans (State.reportThermal_keeps _ _)).trans (State.tryStandby_keeps _)

theorem State.tryEndRecovery_keeps (s : State) : s.keeps c s.tryEndRecovery := by
  unfold State.tryEndRecovery
  split
  · exact s.endRecovery_keeps
  · exact .refl s

theorem State.alarmPower_keeps (s : State) : s.keeps c s.alarmPower := by
  have off : s.keeps c (s.setPower s.power.noIntent) := s.setPower_keeps_same _
  unfold State.alarmPower
  dsimp only
  split <;> rename_i state
  case h_1 | h_2 | h_3 =>
    exact off.trans (State.enterStopping_keeps _ _ _ (show s.power.state ≠ _ by simp [state]))
  all_goals exact off

theorem State.thermalAlarm_keeps (s : State) : s.keeps c s.thermalAlarm :=
  (((((((s.offer_keeps _).trans (State.condition_keeps _ _ _)).trans (State.condition_keeps _ _ _)).trans
    (State.setRecovery_keeps _ _)).trans (State.thermalLamp_keeps _ _)).trans
    (State.thermalLamp_keeps _ _)).trans (State.alarmPower_keeps _)).trans (State.tryEndRecovery_keeps _)

/-! ## The policy unit -/

theorem State.setCounter_keeps (s : State) (i : RuleId) (k : Counter) : s.keeps c (s.setCounter i k) := .same

theorem State.limitReached_keeps (s : State) (i : RuleId) (k : ReqClass) (b : Byte) :
    s.keeps c (s.limitReached i k b) := by
  unfold State.limitReached
  split
  · exact ((State.keeps.trans .same (State.offer_keeps _ _)).trans (State.offer_keeps _ _)).trans
      (State.setCounter_keeps _ _ _)
  · exact (s.offer_keeps _).trans (State.setCounter_keeps _ _ _)

theorem State.count_keeps (s : State) (i : RuleId) (k : ReqClass) (b : Byte) : s.keeps c (s.count i k b) := by
  unfold State.count
  dsimp only
  split
  · split
    · exact s.limitReached_keeps _ _ _
    · exact s.setCounter_keeps _ _
  all_goals exact .refl s

theorem Working.takeRule_keeps (q : Question) (w : Working) (i : RuleId) : w.s.keeps c (w.takeRule q i).s := by
  unfold Working.takeRule
  dsimp only
  split
  · exact State.count_keeps _ _ _ _
  · exact .refl _

theorem Working.foldRules_keeps (q : Question) (is : List RuleId) (w : Working) :
    w.s.keeps c (is.foldl (Working.takeRule q) w).s := by
  induction is generalizing w with
  | nil => exact .refl _
  | cons i is ih => exact (Working.takeRule_keeps q w i).trans (ih _)

theorem State.evaluate_keeps (s : State) (k : ReqClass) (o : Operation) (p : Option Nat) :
    s.keeps c (s.evaluate k o p).2 :=
  Working.foldRules_keeps _ _
    { s := s, priority := _, map := (s.conf.cell s.level k).map, lastMap := none, decided := none }

end Sys2Proof.Machine
end

section
/-! PROOFS. What the owning blocks and the requests keep: one lemma for every operation of Owners.lean and
Requests.lean, and for the body of every management request. -/

set_option Elab.async false

namespace Sys2Proof.Machine

variable {c : Instr} {s t u : State} {l : Link} {x : LampId} {m n : Lamp}

/-! ## The owning blocks -/

theorem State.recordIntent_keeps (s : State) (on : Bool) (a : Asker) : s.keeps c (s.recordIntent on a) :=
  s.setPower_keeps_same _

theorem State.startUpLamps_keeps (s : State) (a : Asker) (other : s.power.state ≠ .shutdown) :
    s.keeps c (s.startUpLamps a).2 := by
  have called : s.keeps c (s.callLamps s.planLamps) := State.callLamps_keeps _ s
  have still : (s.callLamps s.planLamps).power.state ≠ .shutdown := by
    rw [(State.callLamps_frame _ s).power]
    exact other
  unfold State.startUpLamps
  dsimp only
  split
  · dsimp only
    exact (called.trans (State.reportPower_keeps _ _ _ _)).trans (State.lampEvent_keeps _ _)
  · exact ((called.trans (State.recordIntent_keeps _ _ _)).trans (State.setPower_keeps_same _ _)).trans
      (State.enterStarting_keeps _ _ _ still)
  · exact (called.trans (State.recordIntent_keeps _ _ _)).trans (State.enterStarting_keeps _ _ _ still)

theorem State.takePowerOn_keeps (s : State) (a : Asker) : s.keeps c (s.takePowerOn a).2 := by
  unfold State.takePowerOn
  split <;> rename_i state
  case h_1 | h_2 =>
    split
    · exact .refl s
    · exact s.startUpLamps_keeps a (by simp [state])
  case h_3 => exact .refl s
  all_goals
    dsimp only
    split
    · exact s.recordIntent_keeps _ _
    · exact (s.recordIntent_keeps _ _).trans (State.activity_keeps _)

theorem State.takePowerOff_keeps (s : State) (a : Asker) : s.keeps c (s.takePowerOff a).2 := by
  unfold State.takePowerOff
  split <;> rename_i state
  case h_1 | h_2 | h_3 =>
    have other : (s.recordIntent false a).power.state ≠ .shutdown := show s.power.state ≠ _ by simp [state]
    dsimp only
    exact ((((s.recordIntent_keeps _ _).trans (State.enterStopping_keeps _ _ _ other)).trans
      (State.releaseLamp_keeps _ _)).trans (State.releaseLamp_keeps _ _)).trans (State.lampEvent_keeps _ _)
  case h_4 | h_5 => exact s.recordIntent_keeps _ _
  case h_6 => exact .refl s

theorem State.offerSlot_keeps (s : State) (i : InputId) (a : Asker) : s.keeps c (s.offerSlot i a).2 := by
  unfold State.offerSlot
  dsimp only
  split
  · split
    · exact (s.dropPending_keeps _).trans (State.putSwitch_keeps _ _)
    · exact .refl s
  · split
    · exact (s.dropPending_keeps _).trans (State.putSwitch_keeps _ _)
    · exact .refl s

theorem State.selectDirectly_keeps (s : State) (i : InputId) : s.keeps c (s.selectDirectly i) :=
  (s.putSwitch_keeps _).trans (State.sourceEvent_keeps _)

theorem State.takeSelect_keeps (s : State) (i : InputId) (a : Asker) : s.keeps c (s.takeSelect i a).2 := by
  unfold State.takeSelect
  split
  case h_1 => exact .refl s
  case h_2 | h_3 => exact s.selectDirectly_keeps i
  all_goals
    split
    · exact .refl s
    · split
      · exact .refl s
      · split
        · exact .refl s
        · split
          · exact s.beginSwitch_keeps _ _ _ _
          · exact s.offerSlot_keeps i a

theorem State.takeMute_keeps (s : State) (on : Bool) : s.keeps c (s.takeMute on).2 := by
  unfold State.takeMute
  split
  · exact .refl s
  · dsimp only
    split
    · exact .refl s
    · exact (s.putSwitch_keeps _).trans (State.muteSeen_keeps _)

theorem State.takeCandidate_keeps (s : State) (g : GeoValues) (reply : List Byte) :
    s.keeps c (s.takeCandidate g reply).2 := by
  unfold State.takeCandidate
  split
  · exact .refl s
  · split
    · exact (s.adoptGeometry_keeps g).trans (State.dueUpdate_keeps _ _)
    · exact .refl s

theorem State.takeLevel_keeps (s : State) (v : LampLevel) : s.keeps c (s.takeLevel v).2 := by
  unfold State.takeLevel
  split
  · exact .refl s
  · dsimp only
    split
    · exact .refl s
    · exact (State.keeps.trans .same (State.relevelLamp_keeps _ _)).trans (State.relevelLamp_keeps _ _)

theorem State.callUncalled_keeps (s : State) (xs : List LampId) : s.keeps c (s.callUncalled xs) :=
  State.callLamps_keeps _ s

theorem State.reshape_keeps (s : State) : s.keeps c s.reshape := by
  unfold State.reshape
  split
  · exact s.callUncalled_keeps _
  · split
    · exact s.releaseLamp_keeps _
    · exact .refl s
  all_goals exact (s.releaseLamp_keeps _).trans (State.callUncalled_keeps _ _)

theorem State.takePlan_keeps (s : State) (p : Plan) : s.keeps c (s.takePlan p).2 := by
  unfold State.takePlan
  split
  · exact .refl s
  · split
    · exact .refl s
    · split
      · exact .refl s
      · dsimp only
        split
        · exact (State.keeps.trans .same (State.reshape_keeps _)).trans (State.lampEvent_keeps _ _)
        · exact State.keeps.trans .same (State.settleDegraded_keeps _)

theorem State.setLevel_keeps (s : State) (v : Level) (k : LockoutCause) (b : Byte) :
    s.keeps c (s.setLevel v k b) := by
  unfold State.setLevel
  split
  · exact .refl s
  · exact State.keeps.trans .same (State.offer_keeps _ _)

theorem State.takeLockout_keeps (s : State) (v : Level) (a : Asker) : s.keeps c (s.takeLockout v a).2 := by
  unfold State.takeLockout
  split
  · exact .refl s
  · exact s.setLevel_keeps _ _ _

theorem State.setRule_keeps (s : State) (i : RuleId) (r : Rule) : s.keeps c (s.setRule i r) := .same

theorem State.reload_keeps (s : State) (i : RuleId) : s.keeps c (s.reload i) := s.setCounter_keeps i _

theorem State.takeSetRule_keeps (s : State) (i : RuleId) (on : Bool) : s.keeps c (s.takeSetRule i on).2 := by
  unfold State.takeSetRule
  split
  · exact .refl s
  · split
    · exact .refl s
    · exact (s.setRule_keeps _ _).trans (State.reload_keeps _ _)

theorem State.takePresent_keeps (s : State) (token : BitVec 48) (l : Link) :
    s.keeps c (s.takePresent token l).2 := State.keeps.trans .same (State.offer_keeps _ _)

theorem State.takeEnd_keeps (s : State) : s.keeps c s.takeEnd.2 := by
  unfold State.takeEnd
  split
  · exact .refl s
  · exact s.endHold_keeps _

/-- Whatever the operation, its owning block undoes and stores nothing that is another's. -/
theorem State.take_keeps (s : State) (o : Operation) (a : Asker) : s.keeps c (s.take o a).2 := by
  cases o with
  | powerOn => exact s.takePowerOn_keeps a
  | powerOff => exact s.takePowerOff_keeps a
  | selectInput i => exact s.takeSelect_keeps i a
  | pictureMute on => exact s.takeMute_keeps on
  | setKeystone relative v h => exact s.takeCandidate_keeps _ _
  | setCorner k dx dy => exact s.takeCandidate_keeps _ _
  | recallGeometry p => exact s.takeCandidate_keeps _ _
  | setLampLevel v => exact s.takeLevel_keeps v
  | setLampPlan p => exact s.takePlan_keeps p
  | setLockout v => exact s.takeLockout_keeps v a
  | presentCredential token => exact s.takePresent_keeps token _
  | endCredential => exact s.takeEnd_keeps
  | setRule i on => exact s.takeSetRule_keeps i on

theorem State.operate_keeps (s : State) (k : ReqClass) (o : Operation) (r : Option (Link × Byte))
    (p : Option Nat) : s.keeps c (s.operate k o r p).2 := by
  have judged : s.keeps c (s.evaluate k o p).2 := s.evaluate_keeps k o p
  unfold State.operate
  dsimp only
  split
  · refine State.keeps.trans ?_ (State.take_keeps _ o _)
    split
    · exact judged.trans (State.activity_keeps _)
    · exact judged
  · exact judged

/-! ## Requests with and without a link -/

theorem State.operational_keeps (s : State) (l : Link) (kind tag : Byte) (payload : List Byte)
    (o : Option Operation) : s.keeps c (s.operational l kind tag payload o) := by
  refine s.request_keeps l kind tag payload _ fun t => ?_
  cases o with
  | none => exact .refl t
  | some o => exact t.operate_keeps _ o _ _

theorem State.unlinked_keeps (s : State) (k : ReqClass) (o : Operation) : s.keeps c (s.unlinked k o) :=
  s.operate_keeps k o none none

theorem State.formKey_keeps (s : State) (k : Key) (r : ReqClass) : s.keeps c (s.formKey k r) := by
  unfold State.formKey
  split
  · exact s.unlinked_keeps _ _
  · exact .refl s

theorem State.openWindow_keeps (s : State) (r : ReqClass) : s.keeps c (s.openWindow r) :=
  State.keeps.trans .same (State.offer_keeps _ _)

theorem State.pressPower_keeps (s : State) (r : ReqClass) : s.keeps c (s.pressPower r) := by
  unfold State.pressPower
  split
  case h_1 | h_2 => exact s.unlinked_keeps _ _
  case h_6 => exact .refl s
  all_goals
    split
    · exact s.openWindow_keeps _
    · split
      · exact (s.closeWindow_keeps _).trans (State.unlinked_keeps _ _ _)
      · exact (s.closeWindow_keeps _).trans (State.openWindow_keeps _ _)

theorem State.press_keeps (s : State) (k : Key) (r : ReqClass) : s.keeps c (s.press k r) := by
  unfold State.press
  split
  · exact s.pressPower_keeps r
  all_goals exact (s.closeWindow_keeps _).trans (State.formKey_keeps _ _ _)

theorem State.pressDirect_keeps (s : State) (i : InputId) : s.keeps c (s.pressDirect i) :=
  (s.closeWindow_keeps _).trans (State.unlinked_keeps _ _ _)

theorem State.pressRemote_keeps (s : State) (command : Byte) (b : Button) :
    s.keeps c (s.pressRemote command b) := by
  unfold State.pressRemote
  dsimp only
  split
  · exact State.keeps.trans .same (State.press_keeps _ _ _)
  · exact State.keeps.trans .same (State.pressDirect_keeps _ _)

theorem State.repeatRemote_keeps (s : State) (command : Byte) (b : Button) :
    s.keeps c (s.repeatRemote command b) := by
  unfold State.repeatRemote
  split
  · exact .refl s
  · split
    · exact State.keeps.trans .same (State.formKey_keeps _ _ _)
    · exact .refl s

theorem State.autoChoice_keeps (s : State) : s.keeps c s.autoChoice := by
  unfold State.autoChoice
  split
  · split
    · exact s.unlinked_keeps _ _
    · exact .refl s
  · exact .refl s

theorem State.signalSeen_keeps (s : State) (i : InputId) (r : InputRecord) (k : InputCause) :
    s.keeps c (s.signalSeen i r k) := by
  unfold State.signalSeen
  dsimp only
  split
  · exact (s.signalChange_keeps i r k).trans (State.autoChoice_keeps _)
  · exact s.signalChange_keeps i r k

/-! ## What the management requests do -/

/-- A setting item takes a value. -/
theorem State.setItem_keeps (s : State) (n : Fin 104) (v : Nat) : s.keeps c (s.setItem n v) := .same

theorem State.holdChanged_keeps (s : State) (x : LampId) : s.keeps c (s.holdChanged x) := by
  unfold State.holdChanged
  dsimp only
  split <;> rename_i state
  case h_1 =>
    split
    · exact (s.reachDark_keeps x (by simp [state])).trans (LampMove.finish_keeps _ x)
    · exact .refl s
  case h_2 =>
    split
    · exact s.moveLamp_keeps x _ _ _ (.from_other (by simp [state]))
    · exact .refl s
  case h_3 =>
    split
    · exact (s.strike_keeps x (by simp [state])).trans (LampMove.finish_keeps _ x)
    · exact .refl s
  all_goals exact .refl s

theorem State.groupWritten_keeps (s : State) (g : GroupId) : s.keeps c (s.groupWritten g) := by
  unfold State.groupWritten
  split
  · exact .same
  · exact .same

theorem State.itemWritten_keeps (s : State) (n : Nat) : s.keeps c (s.itemWritten n) := by
  unfold State.itemWritten
  split
  · exact (s.holdChanged_keeps _).trans (State.holdChanged_keeps _ _)
  split
  · exact (s.testThresholds_keeps _).trans (State.testThresholds_keeps _ _)
  split
  · exact s.retestWatch_keeps
  split
  · exact s.groupWritten_keeps _
  split
  · exact s.groupWritten_keeps _
  split
  · exact s.sourceEvent_keeps
  · exact .refl s

theorem State.learnInput_keeps (set : Nat) (s : State) (i : InputId) : s.keeps c (s.learnInput set i) := by
  unfold State.learnInput
  split
  · exact .same
  · exact .refl s

theorem State.purge_keeps (s : State) : s.keeps c s.purge := by
  unfold State.purge
  split
  · exact .refl s
  · exact .same

theorem State.reconstruct_keeps (s : State) : s.keeps c s.reconstruct := by
  unfold State.reconstruct
  split
  · exact .refl s
  · split
    · exact s.setLevel_keeps _ _ _
    · exact .refl s

/-- Renewal sets the counts to 0, so it belongs to its owner (R103). -/
theorem Lamp.keeps.renewed (owner : isWearReset c) (m : Lamp) : m.keeps c m.renewed where
  within _ := ⟨Nat.zero_le _, Nat.zero_le _⟩
  counts _ := .inr owner
  out := .inl

theorem State.bodyResetLampWear_keeps (payload : List Byte) (s : State) (owner : isWearReset c) :
    s.keeps c (s.bodyResetLampWear payload).2 := by
  unfold State.bodyResetLampWear
  split
  · exact .refl s
  · rename_i x _
    split
    · have tested := (s.setLamp_keeps x _ (.renewed owner (s.lamp x))).trans (State.testThresholds_keeps _ x)
      dsimp only
      refine State.keeps.trans ?_ (State.checkpointFor_keeps _ x)
      split
      · exact tested.trans (State.serviceLamp_keeps _ x fun _ => .inr owner)
      · exact tested
    · exact .refl s

theorem State.clearLamp_keeps (s : State) (x : LampId) (owner : isServiceClear c) :
    s.keeps c (s.clearLamp x).2 := by
  unfold State.clearLamp
  split
  · exact (s.serviceLamp_keeps x fun _ => .inl owner).trans (State.checkpoint_keeps _)
  case h_2 | h_3 => exact (s.setLamp_keeps x _ .same).trans (State.checkpoint_keeps _)
  all_goals exact .refl s

theorem State.rehold_keeps (s : State) (x : LampId) : s.keeps c (s.rehold x) := by
  unfold State.rehold
  split
  · exact .refl s
  · rename_i other
    exact s.serviceLamp_keeps x fun out => absurd out other

/-- SERVICE_CLEAR clears the latch, and so owns the clearing (R118). -/
theorem State.clearLatch_keeps (s : State) (owner : isServiceClear c) : s.keeps c { s with latch := false } :=
  { State.keeps.refl s with
    latch := fun _ => .inr owner
    links := fun w l => by cases l <;> [exact w .control; exact w .lectern]
    lost := fun l w => by cases l <;> exact .inl w
    lamps := fun x => by cases x <;> exact .same }

theorem State.clearProjector_keeps (s : State) (owner : isServiceClear c) :
    s.keeps c s.clearProjector.2 := by
  unfold State.clearProjector
  split
  · exact .refl s
  · have told : s.keeps c ((((({ s with latch := false } : State).setRecovery false).rehold .a).rehold .b
        ).reportThermal .cleared) :=
      ((((s.clearLatch_keeps owner).trans (State.setRecovery_keeps _ _)).trans (State.rehold_keeps _ _)).trans
        (State.rehold_keeps _ _)).trans (State.reportThermal_keeps _ _)
    dsimp only
    generalize State.reportThermal _ .cleared = u at *
    exact (told.trans (State.setPower_keeps_same _ _)).trans (State.enterStandby_keeps _ _ fun _ => owner)

theorem State.bodyServiceClear_keeps (payload : List Byte) (s : State) (owner : isServiceClear c) :
    s.keeps c (s.bodyServiceClear payload).2 := by
  unfold State.bodyServiceClear
  split
  · exact s.clearProjector_keeps owner
  · split
    · exact .refl s
    · exact s.clearLamp_keeps _ owner

theorem State.bodyReadStatus_keeps (l : Link) (s : State) (owner : ∃ tag p, c = .readStatus l tag p) :
    s.keeps c (s.bodyReadStatus l).2 :=
  s.setLink_keeps l _ id rfl fun _ => .inr owner

theorem State.bodyWriteFormat_keeps (payload : List Byte) (s : State) :
    s.keeps c (s.bodyWriteFormat payload).2 := by
  unfold State.bodyWriteFormat
  split
  · rename_i n f _ _
    dsimp only
    exact State.keeps.trans .same (State.foldl_keeps (State.rematch n) (State.rematch_keeps n) _ _)
  · exact .refl s

theorem State.bodyStoreGeometry_keeps (payload : List Byte) (s : State) :
    s.keeps c (s.bodyStoreGeometry payload).2 := by
  unfold State.bodyStoreGeometry
  split
  · exact .refl s
  · exact .same

theorem State.bodyWriteRule_keeps (payload : List Byte) (s : State) : s.keeps c (s.bodyWriteRule payload).2 := by
  unfold State.bodyWriteRule
  split
  · exact .refl s
  · split
    · exact .refl s
    · split
      · exact .refl s
      · dsimp only
        split
        · exact (s.setRule_keeps _ _).trans (State.reload_keeps _ _)
        · exact s.setRule_keeps _ _

theorem State.bodyWriteMatrix_keeps (payload : List Byte) (s : State) :
    s.keeps c (s.bodyWriteMatrix payload).2 := by
  unfold State.bodyWriteMatrix
  split
  · split
    · exact .refl s
    · exact .same
  · exact .refl s

theorem State.bodyWriteCard_keeps (payload : List Byte) (s : State) : s.keeps c (s.bodyWriteCard payload).2 := by
  unfold State.bodyWriteCard
  dsimp only
  split
  · split
    · exact .refl s
    · exact .same
  · exact .refl s

theorem State.bodyWriteGroups_keeps (payload : List Byte) (s : State) :
    s.keeps c (s.bodyWriteGroups payload).2 := by
  unfold State.bodyWriteGroups
  dsimp only
  split
  · exact .refl s
  · exact .same

theorem State.bodySetTableLock_keeps (payload : List Byte) (s : State) :
    s.keeps c (s.bodySetTableLock payload).2 := by
  unfold State.bodySetTableLock
  dsimp only
  split
  · exact .refl s
  · exact .same
  · split
    · exact .refl s
    · split
      · exact .refl s
      · exact .same

theorem State.bodyWriteEntry_keeps (payload : List Byte) (s : State) :
    s.keeps c (s.bodyWriteEntry payload).2 := by
  unfold State.bodyWriteEntry
  split
  · exact .refl s
  · split
    · exact .refl s
    · split
      · exact .refl s
      · exact .same

theorem State.bodyWriteException_keeps (payload : List Byte) (s : State) :
    s.keeps c (s.bodyWriteException payload).2 := by
  unfold State.bodyWriteException
  dsimp only
  split
  · exact .refl s
  · split
    · exact .refl s
    · split
      · exact .same
      · split
        · exact .refl s
        · split
          · exact .refl s
          · exact .same

theorem State.bodySetClock_keeps (payload : List Byte) (s : State) : s.keeps c (s.bodySetClock payload).2 := by
  unfold State.bodySetClock
  dsimp only
  split
  · exact (State.keeps.trans .same (State.purge_keeps _)).trans (State.reconstruct_keeps _)
  · exact .refl s

theorem State.bodyWriteSetting_keeps (payload : List Byte) (s : State) :
    s.keeps c (s.bodyWriteSetting payload).2 := by
  unfold State.bodyWriteSetting
  split
  · exact .refl s
  · exact (s.setItem_keeps _ _).trans (State.itemWritten_keeps _ _)

theorem State.bodyLearnBase_keeps (payload : List Byte) (s : State) : s.keeps c (s.bodyLearnBase payload).2 :=
  State.foldl_keeps _ (State.learnInput_keeps _) _ s

/-! ### The reads leave the state as it is -/

theorem State.bodyReadLamp_state (payload : List Byte) (s : State) : (s.bodyReadLamp payload).2 = s := by
  unfold State.bodyReadLamp
  split <;> rfl
theorem State.bodyReadIncidents_state (payload : List Byte) (s : State) :
    (s.bodyReadIncidents payload).2 = s := by
  unfold State.bodyReadIncidents
  split <;> rfl
theorem State.bodyReadInput_state (payload : List Byte) (s : State) : (s.bodyReadInput payload).2 = s := by
  unfold State.bodyReadInput
  split <;> rfl
theorem State.bodyReadFormat_state (payload : List Byte) (s : State) : (s.bodyReadFormat payload).2 = s := by
  unfold State.bodyReadFormat
  split <;> rfl
theorem State.bodyReadGeometry_state (payload : List Byte) (s : State) :
    (s.bodyReadGeometry payload).2 = s := by
  unfold State.bodyReadGeometry
  split
  · rfl
  · split <;> rfl
theorem State.bodyReadRule_state (payload : List Byte) (s : State) : (s.bodyReadRule payload).2 = s := by
  unfold State.bodyReadRule
  split <;> rfl
theorem State.bodyReadMatrix_state (payload : List Byte) (s : State) : (s.bodyReadMatrix payload).2 = s := by
  unfold State.bodyReadMatrix
  split <;> rfl
theorem State.bodyReadCard_state (payload : List Byte) (s : State) : (s.bodyReadCard payload).2 = s := by
  unfold State.bodyReadCard
  split <;> rfl
theorem State.bodyReadEntry_state (payload : List Byte) (s : State) : (s.bodyReadEntry payload).2 = s := by
  unfold State.bodyReadEntry
  split <;> rfl
theorem State.bodyReadClock_state (s : State) : s.bodyReadClock.2 = s := by
  unfold State.bodyReadClock
  split <;> rfl
theorem State.bodyReadSetting_state (payload : List Byte) (s : State) : (s.bodyReadSetting payload).2 = s := by
  unfold State.bodyReadSetting
  split <;> rfl

/-- A request that only reads keeps everything. -/
theorem State.read_keeps (s : State) (l : Link) (kind tag : Byte) (payload : List Byte) (body : State → Taken)
    (h : ∀ t : State, (body t).2 = t) : s.keeps c (s.request l kind tag payload body) :=
  s.request_keeps l kind tag payload body fun t => by rw [h t]; exact .refl t

/-! ## The store (R192, R193) -/

/-- A link takes another state, and the settings write in flight changes, so that a link still waits exactly for
a write of its own. -/
theorem State.setWrite_keeps (s : State) (l : Link) (k : LinkState) (write : Option SettingsWrite)
    (sound : (s.link l).sound → k.sound) (lost : k.lost = (s.link l).lost)
    (waits : k.awaiting = true ↔ ∃ w, write = some w ∧ w.link = l)
    (others : ∀ j, j ≠ l → ((∃ w, s.settingsWrite = some w ∧ w.link = j) ↔ ∃ w, write = some w ∧ w.link = j)) :
    s.keeps c { s.setLink l k with settingsWrite := write } := by
  have link : ∀ j, ({ s.setLink l k with settingsWrite := write } : State).link j = (s.setLink l k).link j :=
    fun j => by cases j <;> rfl
  have lamp : ∀ x, ({ s.setLink l k with settingsWrite := write } : State).lamp x = s.lamp x :=
    fun x => (by cases x <;> rfl : _ = (s.setLink l k).lamp x).trans (s.lamp_setLink l k x)
  exact
    { links := fun h j => by
        rw [link, State.link_setLink]
        split
        · rename_i same
          rw [same]
          exact ⟨sound (h l).1, waits⟩
        · rename_i other
          exact ⟨(h j).1, (h j).2.trans (others j other)⟩
      lost := fun j h => .inl (by
        rw [link, State.link_setLink]
        split
        · rename_i same
          rw [same] at h
          exact lost.trans h
        · exact h)
      lamps := fun x => by rw [lamp]; exact .same
      shutdown := fun h => .inl (by simpa using h)
      latch := fun h => .inl (by simpa using h)
      settings := .inl (by simp)
      lampRecord := .inl (by simp) }

/-- COMMIT: its link waits, and the write in flight is its own. -/
theorem State.commitTaken_keeps (s : State) (l : Link) (tag : Byte) : s.keeps c (s.commitTaken l tag) := by
  unfold State.commitTaken
  split
  · exact s.answer_keeps _ _ _ _
  · rename_i free
    exact s.setWrite_keeps l _ _ id rfl (by simp) fun j other => by simp [free, Ne.symm other]

/-- The end of a settings write stores its record. -/
theorem State.nvSettings_keeps (s : State) (r : Stored) :
    s.keeps .settingsWriteEnd { s with nvSettings := some r } :=
  { State.keeps.refl s with
    settings := .inr rfl
    links := fun w l => by cases l <;> [exact w .control; exact w .lectern]
    lost := fun l w => by cases l <;> exact .inl w
    lamps := fun x => by cases x <;> exact .same }

/-- The end of a lamp write stores its record. -/
theorem State.nvLamps_keeps (s : State) (r : LampRecord) : s.keeps .lampWriteEnd { s with nvLamps := some r } :=
  { State.keeps.refl s with
    lampRecord := .inr rfl
    links := fun w l => by cases l <;> [exact w .control; exact w .lectern]
    lost := fun l w => by cases l <;> exact .inl w
    lamps := fun x => by cases x <;> exact .same }

end Sys2Proof.Machine
end

section
/-! PROOFS. What the events keep, and so every command but the four resets; and what only its owner can undo or
store (O53). -/

set_option Elab.async false

namespace Sys2Proof.Machine

variable {c : Instr} {s t u : State} {l : Link} {x : LampId} {m n : Lamp}

/-! ## The events -/

/-- A lamp's update that a sense line or a timer makes, its state and its counts standing. -/
theorem State.setLamp_keeps_same (s : State) (x : LampId) (m : Lamp) (state : m.state = (s.lamp x).state := by rfl)
    (wear : m.wear = (s.lamp x).wear := by rfl) (strikes : m.strikeCount = (s.lamp x).strikeCount := by rfl) :
    s.keeps c (s.setLamp x m) :=
  s.setLamp_keeps x m (.same state wear strikes)

theorem State.ranOut_keeps (s : State) (x : LampId) : s.keeps c (s.ranOut x) := s.setLamp_keeps_same x _

theorem State.heldOut_keeps (s : State) (x : LampId) : s.keeps c (s.heldOut x) := s.setLamp_keeps_same x _

@[simp] theorem State.state_ranOut (s : State) (x : LampId) : ((s.ranOut x).lamp x).state = (s.lamp x).state := by
  simp [State.ranOut]

@[simp] theorem State.state_heldOut (s : State) (x : LampId) :
    ((s.heldOut x).lamp x).state = (s.lamp x).state := by
  simp [State.heldOut]

/-- A lamp whose timer runs in a state other than OUT is not OUT. -/
theorem Lamp.timing_other {st : LampState} (h : m.timing st = true) (other : st ≠ .out) : m.state ≠ .out := by
  rintro out
  simp [Lamp.timing, out, Ne.symm other] at h

theorem State.litSense_keeps (s : State) (x : LampId) : ∃ t, exec (.litSense x) s = .next t ∧ s.keeps c t := by
  refine ⟨_, rfl, ?_⟩
  split
  · rename_i striking
    refine State.keeps.trans ?_ (LampMove.finish_keeps _ x)
    dsimp only
    exact s.moveLamp_keeps x _ _ _ (.from_other (by simp [striking]))
  · exact .refl s

theorem State.strikeWindowExpiry_keeps (s : State) (x : LampId) :
    ∃ t, exec (.strikeWindowExpiry x) s = .next t ∧ s.keeps c t := by
  refine ⟨_, rfl, ?_⟩
  split
  · rename_i timing
    exact ((s.ranOut_keeps x).trans (State.strikeFailed_keeps _ x _
      (by simpa using Lamp.timing_other timing (by decide)))).trans (LampMove.finish_keeps _ x)
  · exact .refl s

theorem State.retryWaited_keeps (s : State) (x : LampId) (other : (s.lamp x).state ≠ .out) :
    s.keeps c (s.retryWaited x) := by
  unfold State.retryWaited
  split
  · exact .refl s
  · exact (s.strike_keeps x other).trans (LampMove.finish_keeps _ x)

theorem State.retryWaitExpiry_keeps (s : State) (x : LampId) :
    ∃ t, exec (.retryWaitExpiry x) s = .next t ∧ s.keeps c t := by
  refine ⟨_, rfl, ?_⟩
  split
  · rename_i timing
    exact (s.ranOut_keeps x).trans
      (State.retryWaited_keeps _ x (by simpa using Lamp.timing_other timing (by decide)))
  · exact .refl s

theorem State.retryHoldReached_keeps (s : State) (x : LampId) :
    ∃ t, exec (.retryHoldReached x) s = .next t ∧ s.keeps c t := by
  refine ⟨_, rfl, ?_⟩
  split
  · rename_i waits
    exact ((s.heldOut_keeps x).trans (State.strike_keeps _ x (by simp [waits.1]))).trans
      (LampMove.finish_keeps _ x)
  · exact .refl s

theorem State.ballastFault_keeps (s : State) (x : LampId) :
    ∃ t, exec (.ballastFault x) s = .next t ∧ s.keeps c t := by
  have asserted : s.keeps c (s.setLamp x { s.lamp x with faultLine := true }) := s.setLamp_keeps_same x _
  refine ⟨_, rfl, ?_⟩
  split
  case h_1 | h_2 | h_3 | h_4 => exact asserted
  all_goals exact (asserted.trans (State.takeFault_keeps _ x)).trans (LampMove.finish_keeps _ x)

theorem State.warmed_keeps (s : State) (x : LampId) (other : (s.lamp x).state ≠ .out) :
    s.keeps c (s.warmed x) := by
  unfold State.warmed
  split
  · exact s.extinguish_keeps x _ _ other
  · exact s.moveLamp_keeps x _ _ _ (.from_other other)

theorem State.warmupExpiry_keeps (s : State) (x : LampId) (weak : Bool) :
    ∃ t, exec (.warmupExpiry x weak) s = .next t ∧ s.keeps c t := by
  refine ⟨_, rfl, ?_⟩
  split
  · rename_i timing
    refine State.keeps.trans ?_ (LampMove.finish_keeps _ x)
    exact ((s.ranOut_keeps x).trans (State.conditionIf_keeps _ weak x .arcWeak)).trans
      (State.warmed_keeps _ x (by simpa using Lamp.timing_other timing (by decide)))
  · exact .refl s

theorem State.cooldownExpiry_keeps (s : State) (x : LampId) :
    ∃ t, exec (.cooldownExpiry x) s = .next t ∧ s.keeps c t := by
  refine ⟨_, rfl, ?_⟩
  split
  · rename_i timing
    exact (((s.ranOut_keeps x).trans (State.cooled_keeps _ x
      (by simpa using Lamp.timing_other timing (by decide)))).trans (LampMove.finish_keeps _ x)).trans
      (State.tryEndRecovery_keeps _)
  · exact .refl s

theorem State.holdReached_keeps (s : State) (x : LampId) :
    ∃ t, exec (.holdReached x) s = .next t ∧ s.keeps c t := by
  refine ⟨_, rfl, ?_⟩
  split
  · rename_i hot
    exact ((s.heldOut_keeps x).trans (State.reachDark_keeps _ x (by simp [hot]))).trans
      (LampMove.finish_keeps _ x)
  · exact .refl s

theorem State.litSecond_keeps (s : State) (x : LampId) : ∃ t, exec (.litSecond x) s = .next t ∧ s.keeps c t := by
  refine ⟨_, rfl, ?_⟩
  split
  · have counted : s.keeps c
        ((s.setLamp x { s.lamp x with fraction := 0, litSeconds := (s.lamp x).litSeconds + 1 }).addWear x
          (litUnits (s.lamp x).state s.conf.lampLevel)) :=
      (s.setLamp_keeps_same x _).trans (State.addWear_keeps _ x _)
    dsimp only
    split
    · exact counted.trans (State.checkpointFor_keeps _ x)
    · exact counted
  · exact .refl s

/-- A thermal alarm sets the latch, or takes the alarm (R111, R113). -/
theorem State.thermalAlarmCommand_keeps (s : State) : ∃ t, exec .thermalAlarm s = .next t ∧ s.keeps c t := by
  refine ⟨_, rfl, ?_⟩
  split
  · refine State.keeps.trans ?_ (State.reportThermal_keeps _ _)
    exact
      { State.keeps.refl s with
        latch := fun _ => .inl rfl
        links := fun w l => by cases l <;> [exact w .control; exact w .lectern]
        lost := fun l w => by cases l <;> exact .inl w
        lamps := fun x => by cases x <;> exact .same }
  · exact State.keeps.trans .same (State.thermalAlarm_keeps _)

theorem State.wakeTimerExpiry_keeps (s : State) (x : LampId) :
    ∃ t, exec (.wakeTimerExpiry x) s = .next t ∧ s.keeps c t := by
  refine ⟨_, rfl, ?_⟩
  split
  · exact ((s.setLamp_keeps_same x _).trans (State.condition_keeps _ x .wakeLate)).trans
      (State.setLamp_keeps_same _ x _)
  · exact .refl s

theorem State.measurement_keeps (s : State) (i : InputId) (sync : Bool) (width height rate : BitVec 16) :
    ∃ t, exec (.measurement i sync width height rate) s = .next t ∧ s.keeps c t := by
  refine ⟨_, rfl, ?_⟩
  split
  · dsimp only
    split
    · exact s.signalSeen_keeps i _ _
    · exact s.setInput_keeps i _
  · exact .refl s

theorem State.acquireTimeout_keeps (s : State) (i : InputId) :
    ∃ t, exec (.acquireTimeout i) s = .next t ∧ s.keeps c t := by
  refine ⟨_, rfl, ?_⟩
  split
  · exact s.signalSeen_keeps i _ _
  · exact .refl s

theorem State.blankEnd_keeps (s : State) : ∃ t, exec .blankEnd s = .next t ∧ s.keeps c t := by
  refine ⟨_, rfl, ?_⟩
  split
  · exact .refl s
  · split
    · exact s.putSwitch_keeps _
    · exact .refl s

theorem State.settleExpiry_keeps (s : State) : ∃ t, exec .settleExpiry s = .next t ∧ s.keeps c t := by
  refine ⟨_, rfl, ?_⟩
  split
  · exact .refl s
  · split
    · split
      case h_2 => exact s.putSwitch_keeps _
      all_goals exact s.completeSwitch_keeps _ _
    · exact .refl s

theorem State.sourceHoldExpiry_keeps (s : State) : ∃ t, exec .sourceHoldExpiry s = .next t ∧ s.keeps c t := by
  refine ⟨_, rfl, ?_⟩
  split
  · exact .refl s
  · exact (s.putSwitch_keeps _).trans (State.autoChoice_keeps _)

theorem State.lossGraceExpiry_keeps (s : State) : ∃ t, exec .lossGraceExpiry s = .next t ∧ s.keeps c t := by
  refine ⟨_, rfl, ?_⟩
  split
  · exact (s.putSwitch_keeps _).trans (State.autoChoice_keeps _)
  · exact .refl s

theorem State.idleExpired_keeps (s : State) (other : s.power.state ≠ .shutdown) : s.keeps c s.idleExpired := by
  unfold State.idleExpired
  split
  · refine ((s.dimLamp_keeps .a).trans (State.dimLamp_keeps _ .b)).trans (State.setPower_keeps _ _ fun out => ?_)
    rw [(State.dimLamp_frame _ .b).power, (State.dimLamp_frame _ .a).power] at out
    exact absurd out other
  · exact s.setPower_keeps_same _

theorem State.idleExpiry_keeps (s : State) : ∃ t, exec .idleExpiry s = .next t ∧ s.keeps c t := by
  refine ⟨_, rfl, ?_⟩
  split
  · rename_i idle
    have stopped : s.keeps c (s.setPower { s.power with idle := none }) := s.setPower_keeps_same _
    have ended := stopped.trans (State.idleExpired_keeps _ (show s.power.state ≠ _ by simp [idle.1]))
    exact (ended.trans (State.reportPower_keeps _ .on .idle .none)).trans (State.setPower_keeps_same _ _)
  · exact .refl s

theorem State.autoOffExpiry_keeps (s : State) : ∃ t, exec .autoOffExpiry s = .next t ∧ s.keeps c t := by
  refine ⟨_, rfl, ?_⟩
  split
  · have asked : s.keeps c ((s.setPower { s.power with autoOff := none }).operate .auto .powerOff none none).2 :=
      (s.setPower_keeps_same _).trans (State.operate_keeps _ _ _ _ _)
    dsimp only
    split
    · exact asked.trans (State.setPower_keeps_same _ _)
    · exact asked
  · exact .refl s

theorem State.sample_keeps (g : GroupId) (samples : Vector (BitVec 16) 8) (w : State × Option InputId)
    (i : InputId) : w.1.keeps c (State.sample g samples w i).1 := by
  unfold State.sample
  split
  · exact .refl _
  · dsimp only
    split
    · split
      · exact .same
      · exact .same
    · exact .same

theorem State.samples_keeps (g : GroupId) (samples : Vector (BitVec 16) 8) (is : List InputId)
    (w : State × Option InputId) : w.1.keeps c (is.foldl (State.sample g samples) w).1 := by
  induction is generalizing w with
  | nil => exact .refl _
  | cons i is ih => exact (State.sample_keeps g samples w i).trans (ih _)

theorem State.scanWakeUp_keeps (s : State) (i : InputId) : s.keeps c (s.scanWakeUp i) := by
  unfold State.scanWakeUp
  dsimp only
  split
  · exact s.operate_keeps _ _ _ _
  · exact (s.operate_keeps _ _ _ _).trans (State.unlinked_keeps _ _ _)

theorem State.restartInterval_keeps (s : State) (g : GroupId) : s.keeps c (s.restartInterval g) := .same

theorem State.scanInterval_keeps (s : State) (g : GroupId) (samples : Vector (BitVec 16) 8) :
    ∃ t, exec (.scanInterval g samples) s = .next t ∧ s.keeps c t := by
  refine ⟨_, rfl, ?_⟩
  split
  · have sampled := (State.samples_keeps (c := c) g samples (List.finRange 8) (s, none)).trans
      (State.restartInterval_keeps _ g)
    dsimp only at sampled ⊢
    split
    · split
      · exact sampled.trans (State.scanWakeUp_keeps _ _)
      · exact sampled
    · exact sampled
  · exact .refl s

theorem State.fire_keeps (s : State) (n : Nat) (e : Entry) (minute : Nat) : s.keeps c (s.fire n e minute) := by
  unfold State.fire
  split
  · exact (s.offer_keeps _).trans (State.offer_keeps _ _)
  · split
    · exact s.offer_keeps _
    · exact (s.operate_keeps _ _ _ _).trans (State.offer_keeps _ _)

theorem State.handleEntry_keeps (week : Vector Entry 48) (suppressed : BitVec 8) (d : DateTime) (s : State)
    (n : Fin 48) : s.keeps c (s.handleEntry week suppressed d n) := by
  unfold State.handleEntry
  dsimp only
  split
  · split
    · exact s.offer_keeps _
    · exact s.fire_keeps _ _ _
  · exact .refl s

theorem State.fireWeek_keeps (s : State) (d : DateTime) : s.keeps c (s.fireWeek d) :=
  State.foldl_keeps _ (State.handleEntry_keeps _ _ _) _ s

theorem State.startMinute_keeps (s : State) (d : DateTime) : s.keeps c (s.startMinute d) := by
  unfold State.startMinute
  dsimp only
  refine State.keeps.trans ?_ (State.fireWeek_keeps _ d)
  split
  · exact State.keeps.trans .same (State.purge_keeps _)
  · exact .same

theorem State.minuteStart_keeps (s : State) : ∃ t, exec .minuteStart s = .next t ∧ s.keeps c t := by
  refine ⟨_, rfl, ?_⟩
  split
  · exact .refl s
  · split
    · exact .refl s
    · exact s.startMinute_keeps _

theorem State.clockEnd_keeps (s : State) : ∃ t, exec .clockEnd s = .next t ∧ s.keeps c t := by
  refine ⟨_, rfl, ?_⟩
  split
  · exact .refl s
  · split
    · exact .same
    · exact .refl s

theorem State.countDownDecrement_keeps (s : State) (i : RuleId) :
    ∃ t, exec (.countDownDecrement i) s = .next t ∧ s.keeps c t := by
  refine ⟨_, rfl, ?_⟩
  split
  · split
    · exact ((s.setRule_keeps _ _).trans (State.setCounter_keeps _ _ _)).trans (State.offer_keeps _ _)
    · exact s.setCounter_keeps _ _
  · exact .refl s

theorem State.keyRepeat_keeps (s : State) (k : Key) : ∃ t, exec (.keyRepeat k) s = .next t ∧ s.keeps c t := by
  refine ⟨_, rfl, ?_⟩
  split
  · exact State.keeps.trans .same (State.formKey_keeps _ _ _)
  · exact .refl s

theorem State.remoteCode_keeps (s : State) (address command : Byte) (again : Bool) :
    ∃ t, exec (.remoteCode address command again) s = .next t ∧ s.keeps c t := by
  refine ⟨_, rfl, ?_⟩
  split
  · split
    · exact .refl s
    · split
      · exact s.repeatRemote_keeps _ _
      · exact s.pressRemote_keeps _ _
  · exact .refl s

theorem State.linkByteReceived_keeps (s : State) (l : Link) (b : Byte) (stop : Bool) :
    ∃ t, exec (.linkByteReceived l b stop) s = .next t ∧ s.keeps c t :=
  ⟨_, rfl, s.setLink_keeps l _ (·.receive_sound b stop) (LinkState.receive_awaiting _ b stop)
    fun h => .inl (by simpa using h)⟩

theorem State.frameStall_keeps (s : State) (l : Link) : ∃ t, exec (.frameStall l) s = .next t ∧ s.keeps c t := by
  refine ⟨_, rfl, ?_⟩
  split
  · exact .refl s
  · exact s.setLink_keeps l _ (·.discard_sound) rfl .inl

theorem State.frameSendEnd_keeps (s : State) (l : Link) :
    ∃ t, exec (.frameSendEnd l) s = .next t ∧ s.keeps c t := by
  refine ⟨_, rfl, ?_⟩
  split
  · exact .refl s
  · exact (s.setLink_keeps l ({ s.link l with sending := none } : LinkState).fillLine
      (fun h => LinkState.stocked.fillLine_sound (k := { s.link l with sending := none }) h.stocked)
      (by simp) fun h => .inl (by simpa using h)).trans .same

theorem State.unknownKind_keeps (s : State) (l : Link) (kind tag : Byte) (payload : List Byte) :
    ∃ t, exec (.unknownKind l kind tag payload) s = .next t ∧ s.keeps c t := by
  refine ⟨_, rfl, ?_⟩
  split
  · exact .refl s
  · exact s.read_keeps l kind tag payload _ fun t => rfl

theorem State.settingsWriteEndCommand_keeps (s : State) :
    ∃ t, exec .settingsWriteEnd s = .next t ∧ s.keeps .settingsWriteEnd t := by
  refine ⟨_, rfl, ?_⟩
  split
  · exact .refl s
  · rename_i w flight
    refine State.keeps.trans ?_ (State.answer_keeps _ w.link 0x37 w.tag (Answer.bare .ok))
    exact (s.setWrite_keeps w.link { s.link w.link with awaiting := false } none id rfl (by simp)
      fun j other => by simp [flight, Ne.symm other]).trans (State.nvSettings_keeps _ w.content)

theorem State.lampWriteEndCommand_keeps (s : State) :
    ∃ t, exec .lampWriteEnd s = .next t ∧ s.keeps .lampWriteEnd t := by
  refine ⟨_, rfl, ?_⟩
  split
  · exact .refl s
  · rename_i w _
    split
    · exact (s.nvLamps_keeps w.content).trans .same
    · exact (s.nvLamps_keeps w.content).trans .same

/-! ## Every command but the four resets -/

/-- Every command but the four resets keeps what is not its own. -/
theorem exec_keeps (c : Instr) (s : State)
    (other : c ∉ [Instr.supplyApplied, .supplyDip, .resetLine, .restartReset]) :
    ∃ t, exec c s = .next t ∧ s.keeps c t := by
  cases c with
  | linkByteReceived l b stop => exact s.linkByteReceived_keeps l b stop
  | frameStall l => exact s.frameStall_keeps l
  | unknownKind l kind tag payload => exact s.unknownKind_keeps l kind tag payload
  | frameSendEnd l => exact s.frameSendEnd_keeps l
  | powerOn | powerOff | selectInput | pictureMute | setKeystone | setCorner | recallGeometry | setLampLevel
  | setLampPlan | setLockout | presentCredential | endCredential =>
    exact ⟨_, rfl, s.operational_keeps _ _ _ _ _⟩
  | countDownDecrement i => exact s.countDownDecrement_keeps i
  | readStatus l tag payload =>
    exact ⟨_, rfl, s.request_keeps l _ tag payload _ fun t => t.bodyReadStatus_keeps l ⟨tag, payload, rfl⟩⟩
  | readLamp l tag p => exact ⟨_, rfl, s.read_keeps l _ tag p _ (State.bodyReadLamp_state p)⟩
  | readInput l tag p => exact ⟨_, rfl, s.read_keeps l _ tag p _ (State.bodyReadInput_state p)⟩
  | readGeometry l tag p => exact ⟨_, rfl, s.read_keeps l _ tag p _ (State.bodyReadGeometry_state p)⟩
  | readRule l tag p => exact ⟨_, rfl, s.read_keeps l _ tag p _ (State.bodyReadRule_state p)⟩
  | readMatrix l tag p => exact ⟨_, rfl, s.read_keeps l _ tag p _ (State.bodyReadMatrix_state p)⟩
  | readCard l tag p => exact ⟨_, rfl, s.read_keeps l _ tag p _ (State.bodyReadCard_state p)⟩
  | readGroups l tag p => exact ⟨_, rfl, s.read_keeps l _ tag p _ fun _ => rfl⟩
  | readEntry l tag p => exact ⟨_, rfl, s.read_keeps l _ tag p _ (State.bodyReadEntry_state p)⟩
  | readExceptions l tag p => exact ⟨_, rfl, s.read_keeps l _ tag p _ fun _ => rfl⟩
  | readClock l tag p => exact ⟨_, rfl, s.read_keeps l _ tag p _ State.bodyReadClock_state⟩
  | readFormat l tag p => exact ⟨_, rfl, s.read_keeps l _ tag p _ (State.bodyReadFormat_state p)⟩
  | readSetting l tag p => exact ⟨_, rfl, s.read_keeps l _ tag p _ (State.bodyReadSetting_state p)⟩
  | readIncidents l tag p => exact ⟨_, rfl, s.read_keeps l _ tag p _ (State.bodyReadIncidents_state p)⟩
  | restart l tag p => exact ⟨_, rfl, s.read_keeps l _ tag p _ fun _ => rfl⟩
  | storeGeometry l tag p => exact ⟨_, rfl, s.request_keeps l _ tag p _ (State.bodyStoreGeometry_keeps p)⟩
  | writeRule l tag p => exact ⟨_, rfl, s.request_keeps l _ tag p _ (State.bodyWriteRule_keeps p)⟩
  | writeMatrix l tag p => exact ⟨_, rfl, s.request_keeps l _ tag p _ (State.bodyWriteMatrix_keeps p)⟩
  | writeCard l tag p => exact ⟨_, rfl, s.request_keeps l _ tag p _ (State.bodyWriteCard_keeps p)⟩
  | writeGroups l tag p => exact ⟨_, rfl, s.request_keeps l _ tag p _ (State.bodyWriteGroups_keeps p)⟩
  | writeEntry l tag p => exact ⟨_, rfl, s.request_keeps l _ tag p _ (State.bodyWriteEntry_keeps p)⟩
  | writeException l tag p => exact ⟨_, rfl, s.request_keeps l _ tag p _ (State.bodyWriteException_keeps p)⟩
  | setClock l tag p => exact ⟨_, rfl, s.request_keeps l _ tag p _ (State.bodySetClock_keeps p)⟩
  | writeFormat l tag p => exact ⟨_, rfl, s.request_keeps l _ tag p _ (State.bodyWriteFormat_keeps p)⟩
  | writeSetting l tag p => exact ⟨_, rfl, s.request_keeps l _ tag p _ (State.bodyWriteSetting_keeps p)⟩
  | learnBase l tag p => exact ⟨_, rfl, s.request_keeps l _ tag p _ (State.bodyLearnBase_keeps p)⟩
  | setTableLock l tag p => exact ⟨_, rfl, s.request_keeps l _ tag p _ (State.bodySetTableLock_keeps p)⟩
  | commit l tag p => exact ⟨_, rfl, s.handled_keeps l _ tag p _ fun t => t.commitTaken_keeps l tag⟩
  | serviceClear l tag p =>
    exact ⟨_, rfl, s.request_keeps l _ tag p _ fun t => t.bodyServiceClear_keeps p ⟨l, tag, p, rfl⟩⟩
  | resetLampWear l tag p =>
    exact ⟨_, rfl, s.request_keeps l _ tag p _ fun t => t.bodyResetLampWear_keeps p ⟨l, tag, p, rfl⟩⟩
  | restartReset | supplyApplied | supplyDip | resetLine => exact absurd (by simp) other
  | keyPress k => exact ⟨_, rfl, State.keeps.trans .same (State.press_keeps _ k .panel)⟩
  | keyRelease k => exact ⟨_, rfl, .same⟩
  | keyRepeat k => exact s.keyRepeat_keeps k
  | remoteCode address command again => exact s.remoteCode_keeps address command again
  | confirmationWindowExpiry => exact ⟨_, rfl, s.closeWindow_keeps _⟩
  | holdExpiry => exact ⟨_, rfl, s.endHold_keeps _⟩
  | litSense x => exact s.litSense_keeps x
  | strikeWindowExpiry x => exact s.strikeWindowExpiry_keeps x
  | retryWaitExpiry x => exact s.retryWaitExpiry_keeps x
  | retryHoldReached x => exact s.retryHoldReached_keeps x
  | ballastFault x => exact s.ballastFault_keeps x
  | warmupExpiry x weak => exact s.warmupExpiry_keeps x weak
  | cooldownExpiry x => exact s.cooldownExpiry_keeps x
  | holdReached x => exact s.holdReached_keeps x
  | litSecond x => exact s.litSecond_keeps x
  | thermalAlarm => exact s.thermalAlarmCommand_keeps
  | thermalInputRelease => exact ⟨_, rfl, .same⟩
  | atLevel x | atLevelRelease x | ballastFaultRelease x => exact ⟨_, rfl, s.setLamp_keeps_same x _⟩
  | wakeTimerExpiry x => exact s.wakeTimerExpiry_keeps x
  | measurement i sync width height rate => exact s.measurement_keeps i sync width height rate
  | acquireTimeout i => exact s.acquireTimeout_keeps i
  | blankEnd => exact s.blankEnd_keeps
  | settleExpiry => exact s.settleExpiry_keeps
  | deferralExpiry => exact ⟨_, rfl, s.dropPending_keeps _⟩
  | sourceHoldExpiry => exact s.sourceHoldExpiry_keeps
  | lossGraceExpiry => exact s.lossGraceExpiry_keeps
  | idleExpiry => exact s.idleExpiry_keeps
  | autoOffExpiry => exact s.autoOffExpiry_keeps
  | scanInterval g samples => exact s.scanInterval_keeps g samples
  | minuteStart => exact s.minuteStart_keeps
  | clockEnd => exact s.clockEnd_keeps
  | settingsWriteEnd => exact s.settingsWriteEndCommand_keeps
  | lampWriteEnd => exact s.lampWriteEndCommand_keeps

/-- The bounds of a lamp hold its saturating counts within their tops. -/
theorem Lamp.bounded.countsWithin (h : m.bounded) : m.countsWithin := by
  obtain ⟨wear, strikes, _⟩ := h
  exact ⟨wear, strikes⟩

/-- Settles O53: every command but a reset keeps what is not its own (`exec_keeps`). -/
theorem onlyTheirOwnersUndoOrStore : Obligations.OnlyTheirOwnersUndoOrStore := by
  intro c s t bounded other ran
  obtain ⟨t', ran', keeps⟩ := exec_keeps c s other
  obtain rfl : t' = t := Host.Outcome.next.inj (ran'.symm.trans ran)
  refine ⟨fun x fell => ?_, fun x out left => ?_, ?_, fun l lost cleared => ?_, fun changed => ?_,
    fun changed => ?_⟩
  · exact ((keeps.lamps x).counts (bounded.1 x).countsWithin).resolve_left fun ⟨wear, strikes⟩ => by omega
  · rcases ((keeps.lamps x).out out).resolve_left left with ⟨l, tag, p, h⟩ | ⟨l, tag, p, h⟩
    · exact ⟨l, tag, p, .inr h⟩
    · exact ⟨l, tag, p, .inl h⟩
  · rintro (⟨shut, left⟩ | ⟨latched, cleared⟩)
    · exact (keeps.shutdown shut).resolve_left left
    · exact (keeps.latch latched).resolve_left (by simp [cleared])
  · exact (keeps.lost l lost).resolve_left (by simp [cleared])
  · exact keeps.settings.resolve_left changed
  · exact keeps.lampRecord.resolve_left changed

end Sys2Proof.Machine
end

section
/-! PROOFS. What the resets and an idle millisecond keep of the links, and so every step (O55). -/

set_option Elab.async false

namespace Sys2Proof.Machine

variable {c : Instr} {s t u : State} {l : Link} {x : LampId} {m n : Lamp}

/-! ## Steps: the command at the front of the queue, and one millisecond -/

/-- The queue of waiting commands is nobody's to keep. -/
theorem State.setPending_keeps (s : State) (cs : List Instr) : s.keeps c { s with pending := cs } := .same

theorem Timer.tick_eq_none (left : Timer) : left.tick = none ↔ left = none := by
  cases left <;> simp [Timer.tick]

theorem State.tick_linksSound (s : State) (h : s.linksSound) : s.tick.linksSound := by
  intro l
  have link : s.tick.link l = (s.link l).tick := by cases l <;> rfl
  obtain ⟨⟨assembler, stall, rest⟩, waits⟩ := h l
  rw [link]
  refine ⟨⟨assembler, stall.trans (Timer.tick_eq_none _).symm, rest⟩, waits.trans ?_⟩
  cases flight : s.settingsWrite <;> simp [State.tick, flight]

/-! ## The resets -/

theorem LinkState.fresh_sound : LinkState.fresh.sound := by
  refine ⟨trivial, ?_⟩
  decide

theorem State.cleared_linksSound (s : State) (cause : ResetCause) : (s.cleared cause).linksSound := by
  intro l
  have link : (s.cleared cause).link l = LinkState.fresh := by cases l <;> rfl
  rw [link]
  exact ⟨LinkState.fresh_sound, by simp [LinkState.fresh, State.cleared]⟩

theorem State.restored_keeps (s : State) (cause : ResetCause) :
    (s.cleared cause).keeps c (s.restored cause) := by
  have flagged : (s.cleared cause).keeps c
      { s.cleared cause with
        lampA := (s.cleared cause).flagged (s.cleared cause).lampA
        lampB := (s.cleared cause).flagged (s.cleared cause).lampB } :=
    ((s.cleared cause).setLamp_keeps .a ((s.cleared cause).flagged (s.cleared cause).lampA) .same).trans
      (State.setLamp_keeps _ .b ((s.cleared cause).flagged (s.cleared cause).lampB) .same)
  have purged := (flagged.trans (State.startScan_keeps _)).trans (State.purge_keeps _)
  unfold State.restored State.startGeometry
  dsimp only
  split
  · exact purged.trans (State.adoptGeometry_keeps _ _)
  · exact purged.trans (State.adoptGeometry_keeps _ _)

theorem State.announce_keeps (s : State) (r : Report) (k : GeoCause) : s.keeps c (s.announce r k) :=
  ((((((s.offer_keeps _).trans (State.offer_keeps _ _)).trans (State.reconstruct_keeps _)).trans
    (State.reportPower_keeps _ _ _ _)).trans (State.reportLamp_keeps _ _ _ _)).trans
    (State.reportLamp_keeps _ _ _ _)).trans (State.sendUpdate_keeps _ _ _)

theorem State.uncleanOff_keeps (s : State) (a b : Bool) : s.keeps c (s.uncleanOff a b) := by
  have told : s.keeps c ((s.conditionIf a .a .uncleanOff).conditionIf b .b .uncleanOff) :=
    (s.conditionIf_keeps _ _ _).trans (State.conditionIf_keeps _ _ _ _)
  unfold State.uncleanOff
  dsimp only
  split
  · exact told.trans (State.checkpoint_keeps _)
  · exact told

theorem State.resume_keeps (s : State) (cause : ResetCause) (lit : Bool) : s.keeps c (s.resume cause lit) := by
  unfold State.resume
  split
  · exact s.unlinked_keeps _ _
  · exact .refl s

/-- A start-up keeps what the cleared blocks hold. -/
theorem State.startUp_keeps (s : State) (cause : ResetCause) : (s.cleared cause).keeps c (s.startUp cause) := by
  have unclean := ((s.restored_keeps (c := c) cause).trans (State.announce_keeps _ (s.startReport cause)
    ((s.cleared cause).startGeoCause))).trans
    (State.uncleanOff_keeps _ (s.lampsFound.any (·.a.lit)) (s.lampsFound.any (·.b.lit)))
  unfold State.startUp
  dsimp only
  refine State.keeps.trans ?_ (State.resume_keeps _ _ _)
  split
  · exact unclean.trans (State.thermalAlarm_keeps _)
  · exact unclean

theorem State.startUp_linksSound (s : State) (cause : ResetCause) : (s.startUp cause).linksSound :=
  (s.startUp_keeps (c := .supplyApplied) cause).links (s.cleared_linksSound cause)

/-- Every command, the resets included, keeps the links sound. -/
theorem exec_linksSound (c : Instr) (s : State) (h : s.linksSound) : ∃ t, exec c s = .next t ∧ t.linksSound := by
  by_cases reset : c ∈ [Instr.supplyApplied, .supplyDip, .resetLine, .restartReset]
  · simp only [List.mem_cons, List.not_mem_nil, or_false] at reset
    rcases reset with rfl | rfl | rfl | rfl
    case inl | inr.inl | inr.inr.inl => exact ⟨_, rfl, s.startUp_linksSound _⟩
    refine ⟨_, rfl, ?_⟩
    split
    · exact s.startUp_linksSound _
    · exact h
  · obtain ⟨t, ran, keeps⟩ := exec_keeps c s reset
    exact ⟨t, ran, keeps.links h⟩

/-- Settles O55: an idle step lets the stall times run on, and every command keeps the links sound
(`exec_linksSound`). -/
theorem everyStepKeepsTheLinksSound : Obligations.EveryStepKeepsTheLinksSound := by
  intro s t sound ran
  unfold step at ran
  split at ran
  · obtain rfl := Host.Outcome.next.inj ran
    exact s.tick_linksSound sound
  · rename_i c rest _
    obtain ⟨t', ran', sound'⟩ := exec_linksSound c _ ((s.setPending_keeps (c := c) rest).links sound)
    obtain rfl : t' = t := Host.Outcome.next.inj (ran'.symm.trans ran)
    exact sound'

end Sys2Proof.Machine
end

section
/-! PROOFS. The message links: frames and their bytes, the frame assembler, the queues and the reply list, the reports
(O4, O5, O6, O10, O11, O12). -/

set_option Elab.async false

namespace Sys2Proof.Machine

variable {k : LinkState}

/-! ## The inbound queue and the reply list -/

theorem LinkState.offerRequest_of_room (r : Request) (room : k.inbound.length < 4) :
    k.offerRequest r = { k with inbound := k.inbound ++ [r] } := if_pos room

theorem LinkState.offerRequest_of_full (r : Request) (full : 4 ≤ k.inbound.length) :
    k.offerRequest r = if k.replies.length < 4 then k.reply ((Answer.bare .busy).toReply r.kind r.tag)
      else k.countError :=
  if_neg (Nat.not_lt.mpr full)

/-- Settles O6: the branches of `LinkState.offerRequest`. -/
theorem requestJoinsIsAnsweredBusyOrIsDropped : Obligations.RequestJoinsIsAnsweredBusyOrIsDropped := by
  refine fun k r => ⟨LinkState.offerRequest_of_room r, fun full room => ?_, fun full none_free => ?_⟩
  · rw [LinkState.offerRequest_of_full r full, if_pos room]
    rfl
  · rw [LinkState.offerRequest_of_full r full, if_neg (Nat.not_lt.mpr none_free)]
    rfl

theorem LinkState.addReply_of_room (r : Reply) (room : k.replies.length < 4) :
    k.addReply r = { k with replies := k.replies ++ [r] } := if_pos room

theorem LinkState.reply_of_idle (r : Reply) (idle : k.sending = none) (no_reply : k.replies = [])
    (not_owed : k.owed = none) : k.reply r = { k with sending := some (.reply r) } := by
  unfold LinkState.reply
  rw [LinkState.addReply_of_room r (by simp [no_reply]),
    LinkState.fillLine_of_reply (k := { k with replies := k.replies ++ [r] }) (r := r) (rest := []) idle
      (by simp [no_reply]) (by simp)]
  simp [no_reply, not_owed]

theorem LinkState.reply_of_sending (r : Reply) (busy : k.sending.isSome = true) (room : k.replies.length < 4) :
    k.reply r = { k with replies := k.replies ++ [r] } := by
  obtain ⟨f, sending⟩ := Option.isSome_iff_exists.mp busy
  unfold LinkState.reply
  rw [LinkState.addReply_of_room r room]
  exact LinkState.fillLine_of_sending sending

/-- Settles O10: an idle line takes the reply that has just joined, and a busy line is left. -/
theorem replyIsSentAtOnceOrJoinsTheList : Obligations.ReplyIsSentAtOnceOrJoinsTheList := fun s l r =>
  ⟨fun idle no_reply not_owed => congrArg (s.setLink l) (LinkState.reply_of_idle r idle no_reply not_owed),
    fun busy room => congrArg (s.setLink l) (LinkState.reply_of_sending r busy room)⟩

/-! ## Reports (R9, R11) -/

/-- What an offered report leaves of a sound link. -/
theorem LinkState.offer_of_sound (h : k.sound) (mask : Nat) (r : Report) :
    k.offer mask r =
      if r.index = 0 ∨ mask.testBit r.index = true then
        if k.reports.length = 16 then { k with sequence := k.sequence + 1, lost := true }
        else if k.sending = none then
          { k with sequence := k.sequence + 1, sending := some (.report (k.sequence + 1) r) }
        else
          { k with sequence := k.sequence + 1, reports := k.reports ++ [(k.sequence + 1, r)] }
      else k := by
  obtain ⟨-, -, -, -, places, -, -, line⟩ := h
  unfold LinkState.offer
  by_cases offered : r.index = 0 ∨ mask.testBit r.index = true
  · rw [if_pos offered, if_pos offered]
    unfold LinkState.takeReport
    by_cases full : k.reports.length = 16
    · obtain ⟨f, busy⟩ : ∃ f, k.sending = some f := by
        refine Option.ne_none_iff_exists'.mp fun idle => ?_
        simp [(line idle).2] at full
      rw [if_pos full, if_neg (by simp [full, Config.reportPlaces])]
      exact LinkState.fillLine_of_sending busy
    · rw [if_neg full, if_pos (show k.reports.length < Config.reportPlaces from
        Nat.lt_of_le_of_ne places full)]
      by_cases idle : k.sending = none
      · obtain ⟨no_reply, no_report⟩ := line idle
        rw [if_pos idle, LinkState.fillLine_of_report (n := k.sequence + 1) (r := r) (rest := [])
          (k := { k with sequence := k.sequence + 1, reports := k.reports ++ [(k.sequence + 1, r)] })
          idle no_reply (by simp [no_report])]
        simp [no_report]
      · obtain ⟨f, busy⟩ := Option.ne_none_iff_exists'.mp idle
        rw [if_neg idle]
        exact LinkState.fillLine_of_sending busy
  · rw [if_neg offered, if_neg offered]

/-- Settles O11: `State.offer` offers the report to each link under its own mask. -/
theorem reportsAreOfferedToEachLink : Obligations.ReportsAreOfferedToEachLink := fun s r l sound =>
  ⟨s.offer_frame r, (s.link_offer r l).trans (LinkState.offer_of_sound sound _ r)⟩

/-! ## The end of a frame (R12) -/

/-- A frame is the OK reply to a RESTART (R8, R195). -/
theorem OutFrame.isRestartReply_iff (f : OutFrame) :
    f.isRestartReply = true ↔ ∃ tag p, f = .reply ⟨0xBD, tag, .ok, p⟩ := by
  cases f with
  | report n r => simp [OutFrame.isRestartReply]
  | reply r =>
    obtain ⟨kind, tag, result, payload⟩ := r
    simp [OutFrame.isRestartReply]

/-- Settles O12: the line is free, and takes what `LinkState.fillLine` gives it. -/
theorem frameEndPicksRepliesBeforeReports : Obligations.FrameEndPicksRepliesBeforeReports := by
  intro s l f sending
  refine ⟨({ s.link l with sending := none } : LinkState).fillLine,
    { s.setLink l { s.link l with sending := none }.fillLine with
      restartDue := s.restartDue || (l == .control && f.isRestartReply) }, ?_, rfl, ?_, ?_⟩
  · show Host.Outcome.next _ = _
    simp only [sending]
  · simp only [Bool.or_eq_true, Bool.and_eq_true, beq_iff_eq, OutFrame.isRestartReply_iff]
  · split
    · rename_i r rest replies
      exact fun room => LinkState.fillLine_of_reply (k := { s.link l with sending := none }) rfl replies room
    · rename_i no_reply
      split
      · rename_i n r rest reports
        exact LinkState.fillLine_of_report (k := { s.link l with sending := none }) rfl no_reply reports
      · rename_i no_report
        exact LinkState.fillLine_of_nothing (k := { s.link l with sending := none }) no_reply no_report

/-! ## The frame assembler (R2, R3) -/

/-- Settles O5: the four arms of `LinkState.receive`, and the stall. -/
theorem assemblerTakesEachByteByItsState : Obligations.AssemblerTakesEachByteByItsState := by
  refine ⟨fun s l => ?_, fun s l b stop => ⟨(s.link l).receive b stop, rfl, ?_⟩⟩
  · show Host.Outcome.next _ = _
    split <;> rfl
  · cases phase : (s.link l).assembler with
    | hunt =>
      simp only [LinkState.receive, phase, Bool.and_eq_true, beq_iff_eq]
      split
      · rfl
      · rfl
    | length =>
      simp only [LinkState.receive, phase, Bool.and_eq_true, decide_eq_true_eq, and_assoc]
      split
      · rfl
      · rfl
    | body len got =>
      simp only [LinkState.receive, phase]
      cases stop with
      | false => rfl
      | true =>
        simp only [Bool.not_true, Bool.false_eq_true, Bool.true_eq_false, if_false]
        split
        · rename_i short
          rw [if_neg (by omega)]
          rfl
        · rename_i whole
          rw [if_pos (by omega)]
          rfl
    | check len got =>
      simp only [LinkState.receive, phase, Bool.and_eq_true, beq_iff_eq, List.cons_append]
      split
      · rfl
      · rfl

/-! ## Whole frames (R1, R2, R4) -/

/-- The check byte brings the sum to 0. -/
theorem byteSum_check (bs : List Byte) : byteSum (bs ++ [-byteSum bs]) = 0 := by
  have snoc : byteSum (bs ++ [-byteSum bs]) = byteSum bs + -byteSum bs := by simp [byteSum]
  rw [snoc]
  exact BitVec.add_right_neg _

/-- The assembler in BODY gathers the bytes that are missing, and then waits in CHECK. -/
theorem LinkState.receive_body (len : Nat) (bs got : List Byte) (some_missing : bs ≠ [])
    (whole : got.length + bs.length = len) :
    bs.foldl (fun k b => k.receive b true) (k.assemble (.body len got)) = k.assemble (.check len (got ++ bs)) := by
  induction bs generalizing got with
  | nil => exact absurd rfl some_missing
  | cons b rest ih =>
    rw [List.foldl_cons]
    cases rest with
    | nil =>
      have last : len ≤ got.length + 1 := by simp at whole; omega
      simp [LinkState.receive, LinkState.assemble, last]
    | cons b' rest' =>
      have more : ¬ len ≤ got.length + 1 := by simp at whole; omega
      have taken : (k.assemble (.body len got)).receive b true = k.assemble (.body len (got ++ [b])) := by
        simp [LinkState.receive, LinkState.assemble, more]
      rw [taken, ih (got ++ [b]) (by simp) (by simp at whole ⊢; omega)]
      simp

/-- The bytes of a whole frame take the assembler from HUNT back to HUNT, and hand on the body's request. -/
theorem LinkState.receive_frame (body : List Byte) (hunt : k.assembler = .hunt) (least : 2 ≤ body.length)
    (most : body.length ≤ 250) :
    (frameOf body).foldl (fun k b => k.receive b true) k
      = ({ k with stall := none } : LinkState).offerRequest (requestOf body) := by
  have width : (byte body.length).toNat = body.length := by simp [byte]; omega
  have sync : k.receive 0x5A true = k.assemble .length := by simp [LinkState.receive, hunt]
  have length : (k.assemble .length).receive (byte body.length) true = k.assemble (.body body.length []) := by
    simp [LinkState.receive, LinkState.assemble, width, least, most]
  have gathered := LinkState.receive_body (k := k) body.length body [] (by rintro rfl; simp at least) (by simp)
  have sum := byteSum_check (byte body.length :: body)
  have check : (k.assemble (.check body.length body)).receive (-byteSum (byte body.length :: body)) true
      = ({ k with stall := none } : LinkState).offerRequest (requestOf body) := by
    simp only [List.cons_append] at sum
    simp [LinkState.receive, LinkState.assemble, LinkState.hunt, sum, ← hunt]
  simp only [frameOf, List.cons_append, List.foldl_cons, List.foldl_append, List.foldl_nil, sync, length, gathered,
    List.nil_append, check]

/-- Settles O4: the layout of `frameOf`, and the assembler fed with it (`LinkState.receive_frame`). -/
theorem wholeFrameHandsOnItsRequest : Obligations.WholeFrameHandsOnItsRequest := by
  refine ⟨fun f => ⟨rfl, ?_, ?_, ?_⟩, fun k kind tag payload hunt fits => ?_⟩
  · simp [OutFrame.bytes, frameOf]
  · exact byteSum_check (byte f.body.length :: f.body)
  · simp [OutFrame.bytes, frameOf]
  · exact LinkState.receive_frame _ hunt (by simp) (by simp; omega)

end Sys2Proof.Machine
end

section
/-! PROOFS. How a link takes and checks a request, what the status and lamp reads answer, and the two store writes
(O7, O8, O9, O13, O23). -/

set_option Elab.async false

namespace Sys2Proof.Machine

variable {s t : State} {l : Link} {c : Instr} {r : Request}

/-! ## A link takes a request (R5, R8) -/

/-- Which link state `LinkState.takes` gives: the link is ready, and the request is the oldest of its queue or
finds the queue empty. -/
theorem LinkState.takes_eq_some_iff (k k' : LinkState) (r : Request) :
    k.takes r = some k' ↔ (k.awaiting = false ∧ k.owed = none ∧ k.replies.length < 4)
      ∧ ((∃ rest, k.inbound = r :: rest ∧ k' = { k with inbound := rest }) ∨ k.inbound = [] ∧ k' = k) := by
  have ready : k.ready = true ↔ k.awaiting = false ∧ k.owed = none ∧ k.replies.length < 4 := by
    simp only [LinkState.ready, Bool.and_eq_true, Bool.not_eq_true', Option.isNone_iff_eq_none, and_assoc]
    exact and_congr_right' (and_congr_right' decide_eq_true_iff)
  unfold LinkState.takes
  by_cases free : k.ready = true
  · rw [if_pos free]
    cases queue : k.inbound with
    | nil => simp [ready.mp free, eq_comm]
    | cons q rest =>
      by_cases oldest : q = r
      · simp [ready.mp free, oldest, eq_comm]
      · simp [oldest]
  · rw [if_neg free]
    simp [← ready, free]

theorem State.linkTakes_iff : s.linkTakes l r t ↔
    ((s.link l).awaiting = false ∧ (s.link l).owed = none ∧ (s.link l).replies.length < 4)
      ∧ ((∃ rest, (s.link l).inbound = r :: rest ∧ t = s.setLink l { s.link l with inbound := rest })
        ∨ (s.link l).inbound = [] ∧ t = s) := by
  simp only [State.linkTakes, LinkState.takes_eq_some_iff]
  constructor
  · rintro ⟨k, ⟨ready, ⟨rest, queue, rfl⟩ | ⟨queue, rfl⟩⟩, rfl⟩
    · exact ⟨ready, .inl ⟨rest, queue, rfl⟩⟩
    · exact ⟨ready, .inr ⟨queue, s.setLink_link l⟩⟩
  · rintro ⟨ready, ⟨rest, queue, rfl⟩ | ⟨queue, rfl⟩⟩
    · exact ⟨_, ⟨ready, .inl ⟨rest, queue, rfl⟩⟩, rfl⟩
    · exact ⟨_, ⟨ready, .inr ⟨queue, rfl⟩⟩, (t.setLink_link l).symm⟩

/-- `u` is what the link's checks leave of a request command: the state as it was where the link does not take
the request, and the answer of the check that refuses it. -/
def State.checks (s : State) (l : Link) (r : Request) (u : State) : Prop :=
  ((∀ t, ¬ s.linkTakes l r t) → u = s)
    ∧ ∀ t a, s.linkTakes l r t → t.linkRefusal l r.kind r.payload = some a → u = t.answer l r.kind r.tag a

theorem State.handled_checks (s : State) (l : Link) (kind tag : Byte) (payload : List Byte)
    (pass : State → State) : s.checks l ⟨kind, tag, payload⟩ (s.handled l kind tag payload pass) :=
  ⟨State.handled_untaken pass, fun _ _ takes refused => State.handled_refused pass takes refused⟩

theorem State.request_checks (s : State) (l : Link) (kind tag : Byte) (payload : List Byte)
    (body : State → Taken) : s.checks l ⟨kind, tag, payload⟩ (s.request l kind tag payload body) :=
  s.handled_checks l kind tag payload fun t => (body t).2.answer l kind tag (body t).1

theorem State.operational_checks (s : State) (l : Link) (kind tag : Byte) (payload : List Byte)
    (o : Option Operation) : s.checks l ⟨kind, tag, payload⟩ (s.operational l kind tag payload o) :=
  s.request_checks l kind tag payload fun t => match o with
    | none => t.refuse .badValue
    | some o => t.operate (ReqClass.ofLink l) o (some (l, tag)) none

/-- UNKNOWN_KIND of a kind that R10 lists does nothing, and cannot reach the part. -/
theorem requestLength_isSome_iff (kind : Byte) : (requestLength kind).isSome = true ↔ knownKind kind = true := by
  revert kind
  decide +kernel

/-- Every command of a request makes the link's checks. -/
theorem exec_checks (h : requestOfCommand c = some (l, r)) (s : State) :
    ∃ u, exec c s = .next u ∧ (s.checks l r u ∨ c.wellFormed = false ∧ u = s) := by
  cases c with
  | unknownKind j kind tag payload =>
    cases h
    by_cases known : (requestLength kind).isSome = true
    · refine ⟨s, congrArg Host.Outcome.next (if_pos known), .inr ⟨?_, rfl⟩⟩
      simp [Instr.wellFormed, (requestLength_isSome_iff kind).mp known]
    · exact ⟨_, congrArg Host.Outcome.next (if_neg known), .inl (s.request_checks _ _ _ _ _)⟩
  | powerOn | powerOff | selectInput | pictureMute | setKeystone | setCorner | recallGeometry | setLampLevel
  | setLampPlan | setLockout | presentCredential | endCredential =>
    cases h
    exact ⟨_, rfl, .inl (s.operational_checks _ _ _ _ _)⟩
  | readStatus | readLamp | readInput | readGeometry | storeGeometry | readRule | writeRule | readMatrix
  | writeMatrix | readCard | writeCard | readGroups | writeGroups | readEntry | writeEntry | readExceptions
  | writeException | readClock | setClock | readFormat | writeFormat | readSetting | writeSetting | learnBase
  | serviceClear | resetLampWear | readIncidents | setTableLock | restart =>
    cases h
    exact ⟨_, rfl, .inl (s.request_checks _ _ _ _ _)⟩
  | commit =>
    cases h
    exact ⟨_, rfl, .inl (s.handled_checks _ _ _ _ _)⟩
  | _ => cases h

/-- Settles O7: a request that the link does not take leaves the state (`exec_checks`), and `LinkState.takes` says
which it takes. -/
theorem linkTakesTheOldestRequest : Obligations.LinkTakesTheOldestRequest := by
  refine ⟨fun c l r s request untaken => ?_, fun s l r t => State.linkTakes_iff⟩
  obtain ⟨u, ran, checked | ⟨-, rfl⟩⟩ := exec_checks request s
  · rw [ran, checked.1 untaken]
  · exact ran

/-! ## The checks of R5 and R6 -/

/-- A command that can reach the part, and whose request a check refuses, is answered with the refusal. -/
theorem exec_of_refused {a : Answer} (formed : c.wellFormed = true) (request : requestOfCommand c = some (l, r))
    (takes : s.linkTakes l r t) (refused : t.linkRefusal l r.kind r.payload = some a) :
    exec c s = .next (t.reply l ⟨replyKind r.kind, r.tag, a.result, a.payload⟩) := by
  obtain ⟨u, ran, checked | ⟨malformed, -⟩⟩ := exec_checks request s
  · rw [ran, checked.2 t a takes refused]
    rfl
  · exact absurd formed (by simp [malformed])

/-- Settles O8: the first two checks of `State.linkRefusal`. -/
theorem unknownKindsAndWrongLengthsAreRefused : Obligations.UnknownKindsAndWrongLengthsAreRefused := by
  refine ⟨fun s l kind tag payload t takes unknown => ?_,
    fun c l r s t n formed request takes length wrong => ?_⟩
  · have none_of_42 : requestLength kind = none := by
      rw [← Option.not_isSome_iff_eq_none, requestLength_isSome_iff, unknown]
      exact Bool.false_ne_true
    show Host.Outcome.next (if _ then _ else _) = _
    rw [if_neg (by simp [none_of_42])]
    exact congrArg Host.Outcome.next (State.handled_refused (a := Answer.bare .unknownKind) _ takes
      (by simp [State.linkRefusal, none_of_42]))
  · rw [← replyKind_known (kind := r.kind) (by simp [length])]
    exact exec_of_refused (a := Answer.bare .badLength) formed request takes
      (by simp [State.linkRefusal, length, wrong])

/-- The kinds from 0x20 up that R10 lists are the management kinds. -/
theorem isManagement_of_length {kind : Byte} (h : 0x20 ≤ kind.toNat) (known : requestLength kind ≠ none) :
    isManagement kind = true := by
  revert kind
  decide +kernel

/-- The access checks decide a request of the right length. -/
theorem State.linkRefusal_of_length {kind : Byte} {payload : List Byte}
    (length : requestLength kind = some payload.length) :
    t.linkRefusal l kind payload = t.access l kind payload := by
  simp [State.linkRefusal, length]

/-- RESTART is refused on the lectern link alone. -/
theorem State.access_restart (t : State) (l : Link) (payload : List Byte) :
    t.access l 0x3D payload = if l = .lectern then some ⟨.denied, [0xFE]⟩ else none := by
  cases l <;> rfl

/-- Under a TECH hold a management request other than RESTART passes on either link. -/
theorem State.access_of_tech {kind : Byte} {payload : List Byte} (other : kind ≠ 0x3D) (tech : t.techHold = true) :
    t.access l kind payload = none := by
  unfold State.access
  rw [if_neg other, if_pos tech, ite_self]

/-- Without a TECH hold the lectern link manages nothing, and the control link not what needs TECH. -/
theorem State.access_without_tech {kind : Byte} {payload : List Byte} (management : isManagement kind = true)
    (other : kind ≠ 0x3D) (tech : t.techHold = false) :
    t.access l kind payload
      = if l = .lectern ∨ needsTech kind payload = true then some (Answer.bare .needsTech) else none := by
  unfold State.access
  rw [if_neg (by simp [management]), if_neg other, if_neg (by simp [tech])]
  cases l <;> simp

theorem needsTech_iff (kind : Byte) (payload : List Byte) :
    needsTech kind payload = true ↔ kind = 0x39 ∨ kind = 0x3A ∨ kind = 0x3C ∧ payload.getD 0 0 = 0 := by
  simp [needsTech, argByte, or_assoc]

theorem State.techHold_iff : t.techHold = true ↔ t.holdClass = .tech := by simp [State.techHold]

/-- Settles O9: the rows of `State.access`. -/
theorem accessChecksDecideManagementRequests : Obligations.AccessChecksDecideManagementRequests := by
  intro c l r s t formed request takes management length
  have known : requestLength r.kind ≠ none := by simp [length]
  have refused : ∀ a, t.access l r.kind r.payload = some a →
      exec c s = .next (t.reply l ⟨r.kind + 0x80, r.tag, a.result, a.payload⟩) := fun a row => by
    rw [← replyKind_known known]
    exact exec_of_refused formed request takes ((State.linkRefusal_of_length length).trans row)
  rw [State.linkRefusal_of_length length]
  split
  · rename_i restart
    rw [restart, State.access_restart] at refused ⊢
    split
    · rename_i lectern
      exact refused _ (if_pos lectern)
    · rfl
  · rename_i other
    split
    · rename_i tech
      exact State.access_of_tech other (State.techHold_iff.mpr tech)
    · rename_i no_tech
      have row := State.access_without_tech (l := l) (payload := r.payload)
        (isManagement_of_length management known) other
        (Bool.eq_false_iff.mpr fun tech => no_tech (State.techHold_iff.mp tech))
      simp only [needsTech_iff] at row
      split
      · rename_i needs
        exact refused _ (row.trans (if_pos needs))
      · rename_i free
        exact row.trans (if_neg free)

/-! ## What the status and lamp reads answer (R14, R17, R20, R21, R99, R109) -/

/-- A management request of its length that passes is decided by its body. -/
theorem State.request_managed {kind tag : Byte} {payload : List Byte} (takes : s.linkTakes l ⟨kind, tag, payload⟩ t)
    (manages : t.mayManage l) (body : State → Taken) (n : requestLength kind = some payload.length)
    (other : kind ≠ 0x3D) (free : needsTech kind payload = false) :
    s.request l kind tag payload body
      = (body t).2.reply l ⟨replyKind kind, tag, (body t).1.result, (body t).1.payload⟩ :=
  State.request_served body takes (State.management_passes n other manages (.inl free))

theorem State.holdMinutes_eq (s : State) :
    s.holdMinutes = s.hold.elim 0 fun h => max 1 ((h.left + 59999) / 60000) := by
  unfold State.holdMinutes
  cases s.hold <;> rfl

theorem SwitchUnit.phaseCode_eq (u : SwitchUnit) :
    u.phaseCode = u.inFlight.elim 0 fun w => match w.phase with
      | .blank => 1
      | .settle => 2
      | .awaitSignal => 3 := by
  unfold SwitchUnit.phaseCode
  cases u.inFlight <;> rfl

theorem inputByte_map {α : Type} (o : Option α) (f : α → InputId) :
    inputByte (o.map f) = o.elim 0xFF fun a => byte (f a).val := by
  cases o <;> rfl

theorem lampOf_eq_some_iff (n : Nat) (x : LampId) : lampOf n = some x ↔ n = lampCode x := by
  rcases n with _ | _ | n <;> cases x <;> simp [lampOf, lampCode]

/-- The code of the lamp that a byte names is that byte. -/
theorem byte_lampCode {b : Byte} {x : LampId} (h : lampOf b.toNat = some x) : byte (lampCode x) = b := by
  rw [← (lampOf_eq_some_iff _ _).mp h, byte, BitVec.ofNat_toNat, BitVec.setWidth_eq]

/-- The bytes of an incident, a missing time as eight zeros (R21). -/
theorem Incident.bytes_eq (r : Incident) :
    r.bytes = [byte r.kind.code, byte r.cls.code, byte r.lampState.code] ++ be32 r.wear
      ++ r.time.elim (List.replicate 8 0) fun d =>
        1 :: be16 d.date.year ++ [byte d.date.month, byte d.date.day, byte d.hour, byte d.minute, byte d.second] := by
  unfold Incident.bytes
  cases r.time <;> rfl

/-- Settles O13: each read passes the checks, and its body answers the record field by field. -/
theorem statusAndLampReadsAnswerTheirRecords : Obligations.StatusAndLampReadsAnswerTheirRecords := by
  intro s l tag x t manages
  refine ⟨fun takes => ?_, fun takes => ?_, fun takes => ?_⟩
  · refine (congrArg Host.Outcome.next (State.request_managed takes manages _ rfl (by decide) rfl)).trans ?_
    simp only [State.bodyReadStatus, State.statusRecord, State.holdMinutes_eq, SwitchUnit.phaseCode_eq,
      SwitchUnit.target, inputByte_map]
    rfl
  · refine (congrArg Host.Outcome.next (State.request_managed takes manages _ rfl (by decide) rfl)).trans ?_
    unfold State.bodyReadLamp
    rw [show arg [x] 0 = x.toNat from rfl]
    cases named : lampOf x.toNat with
    | none => rfl
    | some y => simp only [State.lampRecordBytes, byte_lampCode named]; rfl
  · refine (congrArg Host.Outcome.next (State.request_managed takes manages _ rfl (by decide) rfl)).trans ?_
    unfold State.bodyReadIncidents
    rw [show arg [x] 0 = x.toNat from rfl]
    cases named : lampOf x.toNat with
    | none => rfl
    | some y => simp only [byte_lampCode named, funext Incident.bytes_eq]; rfl

/-! ## The store (R8, R100, R191 to R193) -/

/-- Settles O23: COMMIT passes the checks, and the rest are the branches of the two write ends and of
`State.checkpoint`. -/
theorem storeWritesKeepTheirRecords : Obligations.StoreWritesKeepTheirRecords := by
  refine ⟨fun s l tag t manages takes => ?_, fun s w flight => ?_, fun s free => ?_, fun s => ?_, fun s => ?_⟩
  · refine (congrArg Host.Outcome.next (State.handled_passed _ takes
      (State.management_passes rfl (by decide) manages (.inl rfl)))).trans ?_
    cases flight : t.settingsWrite <;> simp only [State.commitTaken, flight] <;> rfl
  · simp only [exec, execSettingsWriteEnd, flight]
    rfl
  · simp only [exec, execSettingsWriteEnd, free]
  · simp only [exec, execLampWriteEnd]
    cases s.lampWrite <;> rfl
  · unfold State.checkpoint
    cases s.lampWrite <;> rfl

end Sys2Proof.Machine
end

section
/-! PROOFS. The invariants right after reset (O54). -/

set_option Elab.async false

namespace Sys2Proof.Machine

/-! ## The part right after reset, invariant by invariant -/

theorem State.reset_linksSound : State.reset.linksSound := by
  have started : LinkState.started.sound := ⟨trivial, by decide⟩
  intro l
  have link : State.reset.link l = LinkState.started := by cases l <;> rfl
  rw [link]
  exact ⟨started, by simp [LinkState.started, LinkState.fresh, State.reset]⟩

/-- Both lamps are new. -/
theorem State.reset_lamp (x : LampId) : State.reset.lamp x = Lamp.fresh := by cases x <;> rfl

theorem State.reset_linesDriven : State.reset.linesDriven :=
  ⟨fun x => by rw [State.reset_lamp]; rfl, by decide +kernel, by decide +kernel,
    fun x _ => by rw [State.reset_lamp]; rfl⟩

theorem State.reset_lampsBounded : State.reset.lampsBounded := by
  refine ⟨fun x => ?_, nofun, nofun⟩
  rw [State.reset_lamp]
  unfold Lamp.bounded
  decide

theorem State.reset_lampsInPlay : State.reset.lampsInPlay := fun x => by
  rw [State.reset_lamp]
  exact ⟨rfl, rfl, rfl, rfl⟩

theorem State.reset_flagsFollowWear : State.reset.flagsFollowWear := fun x => by
  rw [State.reset_lamp]
  decide +kernel

theorem State.reset_pictureSound : State.reset.pictureSound := by
  unfold State.pictureSound
  decide +kernel

theorem State.reset_powerSound : State.reset.powerSound := by
  unfold State.powerSound
  decide +kernel

theorem State.reset_watchSound : State.reset.watchSound := by
  unfold State.watchSound
  decide +kernel

theorem State.reset_protectionSound : State.reset.protectionSound := fun x => by
  rw [State.reset_lamp]
  decide +kernel

theorem State.reset_countersWithin : State.reset.countersWithin := by
  unfold State.countersWithin
  decide +kernel

/-! ### The default tables -/

/-- Every default of a setting item stands in its form (R194). -/
theorem defaultItems_inForm (n : Fin 104) (f : ItemForm) (h : itemForm n.val = some f) :
    f.apply (defaultItems.get n) = defaultItems.get n := by
  have all : ∀ n : Fin 104, (itemForm n.val).all
      (fun f => f.apply (defaultItems.get n) == defaultItems.get n) = true := by decide +kernel
  simpa [h] using all n

/-- A number that the item table names names itself. -/
theorem itemOf_eq_some {n : Nat} {f : Fin 104 × ItemForm} (h : itemOf n = some f) : itemForm f.1.val = some f.2 := by
  unfold itemOf at h
  split at h
  · obtain ⟨g, form, rfl⟩ := Option.map_eq_some_iff.mp h
    exact form
  · cases h

/-- Every default format is in range, without an aspect override (R125). -/
theorem defaultFormats_inRange (i : Fin 16) :
    (1 ≤ (defaultFormats.get i).width ∧ (defaultFormats.get i).width ≤ 4096
      ∧ 1 ≤ (defaultFormats.get i).height ∧ (defaultFormats.get i).height ≤ 2160
      ∧ 1 ≤ (defaultFormats.get i).rateMin ∧ (defaultFormats.get i).rateMin ≤ (defaultFormats.get i).rateMax
      ∧ (defaultFormats.get i).rateMax ≤ 65535) ∧ (defaultFormats.get i).aspect = none := by
  revert i
  decide +kernel

theorem zeroGeo_inRange : zeroGeo.inRange := by
  unfold GeoValues.inRange
  decide

/-- The tables that a failed settings record leaves are in range. -/
theorem Stored.defaults_inRange : Stored.defaults.inRange := by
  have presets : ∀ p : Fin 4, Stored.defaults.presets.get p = zeroGeo := by decide +kernel
  have cards : ∀ i : Fin 8, (Stored.defaults.cards.get i).enabled = false := by decide +kernel
  refine ⟨fun n f h => defaultItems_inForm _ _ (itemOf_eq_some h), ?_, ?_, ?_, fun i => ?_, fun i on => ?_, ?_,
    zeroGeo_inRange, fun p => presets p ▸ zeroGeo_inRange, ?_, nofun, List.Pairwise.nil⟩
  case refine_4 =>
    obtain ⟨⟨w, w', h, h', r, r', r''⟩, no_override⟩ := defaultFormats_inRange i
    exact ⟨w, w', h, h', r, r', r'', fun a override => absurd (no_override.symm.trans override) nofun⟩
  case refine_5 => exact absurd ((cards i).symm.trans on) Bool.false_ne_true
  all_goals decide +kernel

theorem State.reset_tablesInRange : State.reset.tablesInRange :=
  ⟨Stored.defaults_inRange, fun w flight => absurd flight.symm (Option.some_ne_none w),
    fun c stored => absurd stored.symm (Option.some_ne_none c), by decide +kernel⟩

/-- Settles O54. -/
theorem invariantsHoldAtReset : Obligations.InvariantsHoldAtReset :=
  ⟨State.reset_linksSound, State.reset_linesDriven, State.reset_lampsBounded, State.reset_lampsInPlay,
    State.reset_flagsFollowWear, State.reset_pictureSound, State.reset_powerSound, State.reset_watchSound,
    State.reset_tablesInRange, State.reset_protectionSound, State.reset_countersWithin⟩

end Sys2Proof.Machine
end

section
/-! PROOFS. What a start-up runs on (O26): reports alone, links that START has opened, the source path and the lamps
at rest, the geometry without a picture format, and the level that the week table gives. -/

set_option Elab.async false

namespace Sys2Proof.Machine

variable {s t : State} {l : Link} {x : LampId}

/-! ## Reports, one after the other -/

/-- Reports offered in their order. -/
def State.offers (s : State) (rs : List Report) : State := rs.foldl State.offer s

theorem State.offers_append (s : State) (rs qs : List Report) : s.offers (rs ++ qs) = (s.offers rs).offers qs :=
  List.foldl_append

theorem State.offers_concat (s : State) (rs : List Report) (r : Report) :
    s.offers (rs ++ [r]) = (s.offers rs).offer r := s.offers_append rs [r]

theorem State.offers_frame (s : State) (rs : List Report) : s.linksOnly (s.offers rs) := by
  induction rs generalizing s with
  | nil => exact .refl s
  | cons r rs ih => exact (s.offer_frame r).trans (ih _)

@[simp] theorem State.offers_conf (s : State) (rs : List Report) : (s.offers rs).conf = s.conf := by
  rw [s.offers_frame rs]
@[simp] theorem State.offers_window (s : State) (rs : List Report) : (s.offers rs).window = s.window := by
  rw [s.offers_frame rs]
@[simp] theorem State.offers_level (s : State) (rs : List Report) : (s.offers rs).level = s.level := by
  rw [s.offers_frame rs]
@[simp] theorem State.offers_counters (s : State) (rs : List Report) : (s.offers rs).counters = s.counters := by
  rw [s.offers_frame rs]
@[simp] theorem State.offers_lampA (s : State) (rs : List Report) : (s.offers rs).lampA = s.lampA := by
  rw [s.offers_frame rs]
@[simp] theorem State.offers_lampB (s : State) (rs : List Report) : (s.offers rs).lampB = s.lampB := by
  rw [s.offers_frame rs]
@[simp] theorem State.offers_lastStruck (s : State) (rs : List Report) : (s.offers rs).lastStruck = s.lastStruck := by
  rw [s.offers_frame rs]
@[simp] theorem State.offers_fan (s : State) (rs : List Report) : (s.offers rs).fan = s.fan := by
  rw [s.offers_frame rs]
@[simp] theorem State.offers_recovery (s : State) (rs : List Report) : (s.offers rs).recovery = s.recovery := by
  rw [s.offers_frame rs]
@[simp] theorem State.offers_thermalInput (s : State) (rs : List Report) :
    (s.offers rs).thermalInput = s.thermalInput := by
  rw [s.offers_frame rs]
@[simp] theorem State.offers_inputs (s : State) (rs : List Report) : (s.offers rs).inputs = s.inputs := by
  rw [s.offers_frame rs]
@[simp] theorem State.offers_sw (s : State) (rs : List Report) : (s.offers rs).sw = s.sw := by
  rw [s.offers_frame rs]
@[simp] theorem State.offers_geo (s : State) (rs : List Report) : (s.offers rs).geo = s.geo := by
  rw [s.offers_frame rs]
@[simp] theorem State.offers_scaler (s : State) (rs : List Report) : (s.offers rs).scaler = s.scaler := by
  rw [s.offers_frame rs]
@[simp] theorem State.offers_power (s : State) (rs : List Report) : (s.offers rs).power = s.power := by
  rw [s.offers_frame rs]
@[simp] theorem State.offers_scan (s : State) (rs : List Report) : (s.offers rs).scan = s.scan := by
  rw [s.offers_frame rs]
@[simp] theorem State.offers_clock (s : State) (rs : List Report) : (s.offers rs).clock = s.clock := by
  rw [s.offers_frame rs]
@[simp] theorem State.offers_lampWrite (s : State) (rs : List Report) : (s.offers rs).lampWrite = s.lampWrite := by
  rw [s.offers_frame rs]
@[simp] theorem State.lamp_offers (s : State) (rs : List Report) (x : LampId) : (s.offers rs).lamp x = s.lamp x := by
  cases x
  · exact s.offers_lampA rs
  · exact s.offers_lampB rs
@[simp] theorem State.input_offers (s : State) (rs : List Report) (i : InputId) : (s.offers rs).input i = s.input i :=
  congrArg (·.get i) (s.offers_inputs rs)
@[simp] theorem State.item_offers (s : State) (rs : List Report) (n : Fin 104) : (s.offers rs).item n = s.item n :=
  congrArg (·.items.get n) (s.offers_conf rs)

/-- An update that commutes with one report commutes with any. -/
theorem State.offers_map (f : State → State) (commutes : ∀ (u : State) r, f (u.offer r) = (f u).offer r) (s : State)
    (rs : List Report) : f (s.offers rs) = (f s).offers rs := by
  induction rs generalizing s with
  | nil => rfl
  | cons r rs ih => exact (ih _).trans (congrArg (State.offers · rs) (commutes s r))

/-! ## A link that START has opened -/

/-- A fresh link but for its first frame, which its line carries, and the reports that wait behind it. -/
structure LinkState.opened (f : OutFrame) (k : LinkState) : Prop where
  assembler : k.assembler = .hunt
  inbound : k.inbound = []
  replies : k.replies = []
  errors : k.errors = 0
  stall : k.stall = none
  awaiting : k.awaiting = false
  owed : k.owed = none
  sending : k.sending = some f

/-- A report that is offered to a busy line joins the queue or is lost. -/
theorem LinkState.offer_of_sending {f : OutFrame} {k : LinkState} (busy : k.sending = some f) (mask : Nat)
    (r : Report) : k.offer mask r = if r.index = 0 ∨ mask.testBit r.index then k.takeReport r else k := by
  have taken : (k.takeReport r).sending = some f := by
    unfold LinkState.takeReport
    split <;> exact busy
  unfold LinkState.offer
  rw [LinkState.fillLine_of_sending taken]

theorem LinkState.opened.offer {f : OutFrame} {k : LinkState} (h : k.opened f) (mask : Nat) (r : Report) :
    (k.offer mask r).opened f := by
  rw [LinkState.offer_of_sending h.sending]
  unfold LinkState.takeReport
  split
  · split <;> exact { h with }
  · exact h

/-- START is offered whatever the mask holds, and an idle line takes it (R9, R12). -/
theorem LinkState.fresh_offer_start (mask : Nat) (r : StartReport) :
    LinkState.fresh.offer mask (.start r)
      = { LinkState.fresh with sequence := 1, sending := some (.report 1 (.start r)) } := by
  simp [LinkState.offer, LinkState.takeReport, LinkState.fillLine, LinkState.fresh, Report.index,
    Config.reportPlaces]

/-- A link with a frame on its line that has lost nothing and has places for `n` more reports. -/
def LinkState.hasPlaces (n : Nat) (k : LinkState) : Prop :=
  k.sending.isSome = true ∧ k.lost = false ∧ k.reports.length + n ≤ 16

theorem LinkState.hasPlaces.offer {n : Nat} {k : LinkState} (h : k.hasPlaces (n + 1)) (mask : Nat) (r : Report) :
    (k.offer mask r).hasPlaces n := by
  obtain ⟨busy, lost, places⟩ := h
  obtain ⟨f, sending⟩ := Option.isSome_iff_exists.mp busy
  rw [LinkState.offer_of_sending sending]
  split
  · rw [LinkState.takeReport, if_pos (by simp only [Config.reportPlaces]; omega)]
    exact ⟨busy, lost, by simp; omega⟩
  · exact ⟨busy, lost, by omega⟩

theorem State.link_offers_opened {f : OutFrame} (rs : List Report) (h : (s.link l).opened f) :
    ((s.offers rs).link l).opened f := by
  induction rs generalizing s with
  | nil => exact h
  | cons r rs ih =>
    refine ih (s := s.offer r) ?_
    rw [State.link_offer]
    exact h.offer _ _

theorem State.link_offers_hasPlaces {n : Nat} (rs : List Report) (fit : rs.length ≤ n)
    (h : (s.link l).hasPlaces n) : ((s.offers rs).link l).lost = false := by
  induction rs generalizing s n with
  | nil => exact h.2.1
  | cons r rs ih =>
    obtain ⟨m, rfl⟩ : ∃ m, n = m + 1 := ⟨n - 1, by simp at fit; omega⟩
    refine ih (s := s.offer r) (n := m) (by simpa using fit) ?_
    rw [State.link_offer]
    exact h.offer _ _

/-! ## The geometry where no input is STABLE (R148, R150, R151) -/

/-- The crosses at two opposite corners add up to the doubled area. -/
theorem Quad.area2_eq_crosses (q : Quad) :
    q.area2 = cross (q.bl.edgeTo q.tl) (q.tl.edgeTo q.tr) + cross (q.tr.edgeTo q.br) (q.br.edgeTo q.bl) := by
  simp only [Quad.area2, Point.shoelace, cross, Point.edgeTo]
  ring

theorem Quad.area2_pos_of_convex {q : Quad} (h : q.convex = true) : 0 < q.area2 := by
  simp only [Quad.convex, Bool.and_eq_true, decide_eq_true_eq] at h
  obtain ⟨⟨⟨tl, -⟩, br⟩, -⟩ := h
  rw [q.area2_eq_crosses]
  omega

/-- The corners of the panel frame map to the corners of the quad. -/
theorem Quad.mapRect_fullRect (q : Quad) : q.mapRect fullRect = q := by
  have whole : ∀ n : Int, (n * 2304000 + 1152000) / 2304000 = n := fun n => by omega
  simp [Quad.mapRect, Quad.mapPoint, weighted, fullRect, whole]

theorem pictureAreaOf_convex {q : Quad} (h : q.convex = true) : pictureAreaOf q = q.area :=
  if_pos (Quad.area2_pos_of_convex h).le

theorem State.pictureRect_of_no_signal (h : s.selectedStable = false) : s.pictureRect = (fullRect, .fill) := by
  have none_stable : (s.input s.sw.selected).signal ≠ .stable := by simpa [State.selectedStable] using h
  simp [State.pictureRect, State.stableFormat, State.formatIndex, none_stable]

end Sys2Proof.Machine
end

section
/-! PROOFS. The source path and the power unit at rest, as a start-up leaves them: the signal changes of a start-up
reach the inputs alone (O26). -/

set_option Elab.async false

namespace Sys2Proof.Machine

variable {s t : State} {i : InputId} {x : LampId}

/-! ## The source path at rest -/

/-- A geometry unit whose picture fills the panel, as where no format stands, its update sent (R150, R151). -/
def GeometryUnit.filled (g : GeometryUnit) (i : InputId) : GeometryUnit :=
  { g with
    rect := fullRect, fit := .fill, pictureQuad := g.quad.mapRect fullRect
    pictureArea := pictureAreaOf (g.quad.mapRect fullRect), input := i, deferred := false }

theorem State.runPicture_of_no_signal (h : s.selectedStable = false) (sent : s.geo.deferred = false) :
    s.runPicture = { s with geo := s.geo.filled s.sw.selected } := by
  simp [State.runPicture, State.pictureRect_of_no_signal h, GeometryUnit.filled, sent]

/-- No switch is under way, no input is STABLE, the loss watch watches, the figures of the picture are in force
and at the scaler, and the power unit is in no state in which idle could hold. -/
structure State.quiet (s : State) : Prop where
  steady : s.sw.inFlight = none
  driven : s.sw.drive = s.sw
  watch : s.sw.watch = .watching
  grace : s.sw.grace = none
  signals : ∀ i, (s.input i).signal ≠ .stable
  picture : s.geo.filled s.sw.selected = s.geo
  scaler : s.scaler = s.geo.update
  idle : s.power.idle = none
  dark : s.power.state ≠ .on ∧ s.power.state ≠ .dimmed

theorem State.quiet.no_signal (h : s.quiet) : s.selectedStable = false := by
  simpa [State.selectedStable] using h.signals s.sw.selected

theorem State.quiet.retestWatch (h : s.quiet) : s.retestWatch = s := by
  obtain ⟨not_on, not_dimmed⟩ := h.dark
  have sw : ({ s.sw with watch := .watching, grace := none } : SwitchUnit) = s.sw := by
    rw [← h.watch, ← h.grace]
  unfold State.retestWatch
  rw [if_neg (by simp [State.watchActs, not_on, not_dimmed]), sw]
  unfold State.putSwitch
  rw [h.driven]

theorem State.quiet.retestIdle (h : s.quiet) : s.retestIdle = s := by
  have idle : s.idleHolds = false := by simp [State.idleHolds, h.dark.1]
  have power : ({ s.power with idle := none } : PowerUnit) = s.power := by rw [← h.idle]
  unfold State.retestIdle State.setPower
  rw [idle, if_neg (by decide), power]

theorem State.quiet.sourceSeen (h : s.quiet) (before : Bool) : s.sourceSeen before = s := by
  unfold State.sourceSeen
  rw [h.no_signal, if_neg (by simp), h.retestIdle]

theorem State.quiet.awaitedSignal (h : s.quiet) (i : InputId) : s.awaitedSignal i = s := by
  simp [State.awaitedSignal, h.steady]

theorem State.quiet.sent (h : s.quiet) : s.geo.deferred = false := by
  rw [← h.picture]
  rfl

theorem State.quiet.runPicture (h : s.quiet) : s.runPicture = s := by
  rw [State.runPicture_of_no_signal h.no_signal h.sent, h.picture]

/-- A source event at rest sends the scaler the figures that it holds already (R152, R154). -/
theorem State.quiet.sourceEvent (h : s.quiet) : ∃ r, s.sourceEvent = s.offer r := by
  have geo : ({ s.geo with deferred := false } : GeometryUnit) = s.geo := by rw [← h.sent]
  unfold State.sourceEvent State.dueUpdate
  rw [h.runPicture, h.steady, if_neg (by simp)]
  unfold State.sendUpdate
  rw [geo, ← h.scaler]
  exact ⟨_, rfl⟩

/-- Rest lasts through what changes neither the switch unit, the geometry, the scaler nor the power unit and makes no
input STABLE. -/
theorem State.quiet.of_same (h : s.quiet) (signals : ∀ i, (t.input i).signal ≠ .stable)
    (sw : t.sw = s.sw := by rfl) (geo : t.geo = s.geo := by rfl) (scaler : t.scaler = s.scaler := by rfl)
    (power : t.power = s.power := by rfl) : t.quiet := by
  obtain ⟨steady, driven, watch, grace, -, picture, sent, idle, dark⟩ := h
  constructor
  case signals => exact signals
  all_goals simpa only [sw, geo, scaler, power]

/-! ## The inputs -/

/-- At rest, an input that does not become STABLE changes alone, with its reports. -/
theorem State.quiet.signalChange (h : s.quiet) (r : InputRecord) (c : InputCause) (unstable : r.signal ≠ .stable) :
    (s.setInput i r).quiet ∧ ∃ rs, s.signalChange i r c = (s.setInput i r).offers rs := by
  have changed : (s.setInput i r).quiet := by
    refine h.of_same fun j => ?_
    by_cases same : j = i
    · rw [same, State.input_setInput_same]
      exact unstable
    · rw [s.input_setInput_other same]
      exact h.signals j
  refine ⟨changed, ?_⟩
  let told := (s.setInput i r).reportInput i (s.input i).signal c
  have quiet : told.quiet := changed.of_same changed.signals
  obtain ⟨update, sourced⟩ := quiet.sourceEvent
  have seen : told.sourceEvent.sourceSeen s.selectedStable = told.offer update := by
    rw [sourced]
    exact State.quiet.sourceSeen (s := told.offer update) (quiet.of_same quiet.signals) _
  have switched : (told.awaitedSignal i).retestWatch = told := by rw [quiet.awaitedSignal, quiet.retestWatch]
  show ∃ rs, (if i = s.sw.selected then (told.awaitedSignal i).retestWatch.sourceEvent.sourceSeen s.selectedStable
    else (told.awaitedSignal i).retestWatch) = _
  rw [switched, seen]
  split
  · exact ⟨[_, update], rfl⟩
  · exact ⟨[_], rfl⟩

/-- Inputs that are DORMANT are left as they are. -/
theorem State.sleepInputs_of_dormant (h : ∀ i, (s.input i).signal = .dormant) : s.sleepInputs = s := by
  unfold State.sleepInputs
  induction List.finRange 8 with
  | nil => rfl
  | cons i is ih => rw [List.foldl_cons, State.sleepInput, if_pos (h i), ih]

theorem InputRecord.acquiring_acquiring (r : InputRecord) : (r.acquiring none).acquiring none = r.acquiring none := rfl

/-- All records of the monitor are replaced. -/
def State.setInputs (s : State) (v : Vector InputRecord 8) : State := { s with inputs := v }

/-- The monitor resumes one input. -/
def State.wakeInput (s : State) (i : InputId) : State := s.signalChange i ((s.input i).acquiring none) .power

/-- At rest the inputs that the monitor resumes go into ACQUIRING. -/
theorem State.quiet.foldl_wakeInput (h : s.quiet) (is : List InputId) :
    ∃ rs v, is.foldl State.wakeInput s = (s.setInputs v).offers rs
      ∧ ∀ j, v.get j = if j ∈ is then (s.input j).acquiring none else s.input j := by
  induction is generalizing s with
  | nil => exact ⟨[], s.inputs, rfl, fun j => rfl⟩
  | cons i is ih =>
    obtain ⟨quiet, rs, changed⟩ := h.signalChange (i := i) ((s.input i).acquiring none) .power nofun
    let woken := s.setInput i ((s.input i).acquiring none)
    obtain ⟨qs, v, rest, acquired⟩ := ih (quiet.of_same (t := woken.offers rs) (by simpa [woken] using quiet.signals)
      (by simp [woken]) (by simp [woken]) (by simp [woken]) (by simp [woken]))
    refine ⟨rs ++ qs, v, ?_, fun j => ?_⟩
    · rw [List.foldl_cons, State.wakeInput, changed, rest, State.offers_append]
      exact congrArg (State.offers · qs) (State.offers_map (·.setInputs v) (fun _ _ => rfl) woken rs)
    · rw [acquired, State.input_offers]
      by_cases same : j = i
      · rw [same, State.input_setInput_same]
        simp [InputRecord.acquiring_acquiring]
      · rw [s.input_setInput_other same]
        simp [same]

/-- At rest every input goes into ACQUIRING (R120, R122). -/
theorem State.quiet.wakeInputs (h : s.quiet) :
    ∃ rs v, s.wakeInputs = (s.setInputs v).offers rs ∧ ∀ i, v.get i = (s.input i).acquiring none := by
  obtain ⟨rs, v, woken, acquired⟩ := h.foldl_wakeInput (List.finRange 8)
  exact ⟨rs, v, woken, fun i => by rw [acquired, if_pos (List.mem_finRange i)]⟩

/-! ## The lamps of a start-up: in HOT or OUT, with their lines at rest -/

/-- A lamp in HOT or OUT, its demand off and its wake timer stopped. -/
def Lamp.cold (m : Lamp) : Prop := (m.state = .hot ∨ m.state = .out) ∧ m.demand = .off ∧ m.wakeTimer = none

/-- Both lamps are cold, and the fan runs for recovery alone. -/
def State.cold (s : State) : Prop := (∀ x, (s.lamp x).cold) ∧ s.fan = s.recovery

/-- What a call makes of a lamp in HOT or OUT: one in HOT that is available and does not wait begins to wait. -/
def Lamp.answering (m : Lamp) (limit cap : Nat) : Lamp :=
  if m.available = true ∧ m.state = .hot ∧ m.waiting = false then
    { m with called := true, waiting := true, attempts := 0, limit := limit, cap := cap }
  else m

theorem Lamp.cold.answering {m : Lamp} (h : m.cold) (limit cap : Nat) : (m.answering limit cap).cold := by
  unfold Lamp.answering
  split <;> exact h

theorem Lamp.answering_answering (m : Lamp) (limit cap : Nat) :
    (m.answering limit cap).answering limit cap = m.answering limit cap := by
  unfold Lamp.answering
  split <;> simp_all

theorem Lamp.cold.not_cooling {m : Lamp} (h : m.cold) : (m.state == .cooldown) = false := by
  obtain ⟨hot | out, -⟩ := h
  · rw [hot]
    rfl
  · rw [out]
    rfl

theorem State.driveFan_of_cold (h : s.cold) : s.driveFan = s := by
  have a : (s.lampA.state == .cooldown) = false := (h.1 .a).not_cooling
  have b : (s.lampB.state == .cooldown) = false := (h.1 .b).not_cooling
  have still : (s.lampA.state == .cooldown || s.lampB.state == .cooldown || s.recovery) = s.fan := by
    rw [a, b, h.2]
    rfl
  unfold State.driveFan
  rw [still]

theorem State.setLamp_lamp (s : State) (x : LampId) : s.setLamp x (s.lamp x) = s := by cases x <;> rfl

theorem State.cold.setLamp (h : s.cold) (x : LampId) {m : Lamp} (cold : m.cold) : (s.setLamp x m).cold := by
  refine ⟨fun y => ?_, by simpa using h.2⟩
  rw [State.lamp_setLamp]
  split
  · exact cold
  · exact h.1 y

/-- A cold lamp that stays cold moves with a report alone. -/
theorem State.cold.moveLamp (h : s.cold) (x : LampId) (f : Lamp → Lamp) (c : LampCause)
    (cold : (f (s.lamp x)).cold) :
    ∃ r, s.moveLamp x f false c = (s.setLamp x (f (s.lamp x))).offer r := by
  have driven : ({ f (s.lamp x) with
      demand := demandOf (f (s.lamp x)).state s.conf.lampLevel
      wakeTimer := if (f (s.lamp x)).state = .lit then (f (s.lamp x)).wakeTimer else none } : Lamp)
      = f (s.lamp x) := by
    obtain ⟨state, demand, wake⟩ := cold
    have off : demandOf (f (s.lamp x)).state s.conf.lampLevel = (f (s.lamp x)).demand := by
      rcases state with hot | out <;> simp [*, demandOf]
    rw [off, ← wake, ite_self]
  unfold State.moveLamp State.putLamp
  rw [driven, State.driveFan_of_cold (h.setLamp x cold)]
  exact ⟨_, rfl⟩

/-- A call of a cold lamp strikes nothing (R70). -/
theorem State.cold.callLamp (h : s.cold) (x : LampId) :
    ∃ rs, s.callLamp x
      = ((s.setLamp x ((s.lamp x).answering (s.item 9) (s.item 10))).offers rs, false) := by
  have unanswered (no : ¬((s.lamp x).available = true ∧ (s.lamp x).state = .hot ∧ (s.lamp x).waiting = false)) :
      s.setLamp x ((s.lamp x).answering (s.item 9) (s.item 10)) = s := by
    rw [Lamp.answering, if_neg no, State.setLamp_lamp]
  unfold State.callLamp
  dsimp only
  split
  · rename_i barred
    exact ⟨[], by rw [unanswered (by simp_all)]; rfl⟩
  · rename_i available
    rw [Bool.not_eq_true, Bool.not_eq_false'] at available
    obtain ⟨hot | out, -⟩ := h.1 x
    · rw [hot]
      dsimp only
      split
      · rename_i waits
        exact ⟨[], by rw [unanswered (by simp [waits])]; rfl⟩
      · rename_i idle
        have answered : (s.lamp x).answering (s.item 9) (s.item 10)
            = { s.newPowerOn (s.lamp x) with waiting := true } := if_pos ⟨available, hot, by simpa using idle⟩
        obtain ⟨r, moved⟩ := h.moveLamp x (fun m => { s.newPowerOn m with waiting := true }) .call (h.1 x)
        exact ⟨[r], by rw [moved, answered]; rfl⟩
    · rw [out]
      exact ⟨[], by rw [unanswered (by simp [out])]; rfl⟩

/-- Lamps that are called in HOT or OUT. -/
def State.called (s : State) (xs : List LampId) : State :=
  { s with
    lampA := if .a ∈ xs then s.lampA.answering (s.item 9) (s.item 10) else s.lampA
    lampB := if .b ∈ xs then s.lampB.answering (s.item 9) (s.item 10) else s.lampB }

theorem State.cold.callLamps (h : s.cold) (xs : List LampId) :
    ∃ rs, s.callLamps xs = (s.called xs).offers rs := by
  induction xs generalizing s with
  | nil => exact ⟨[], rfl⟩
  | cons x xs ih =>
    obtain ⟨rs, call⟩ := h.callLamp x
    let u := s.setLamp x ((s.lamp x).answering (s.item 9) (s.item 10))
    have cold : (u.offers rs).cold := by
      obtain ⟨lamps, fan⟩ := h.setLamp x ((h.1 x).answering (s.item 9) (s.item 10))
      exact ⟨fun y => by rw [State.lamp_offers]; exact lamps y, by simpa [u] using fan⟩
    obtain ⟨qs, rest⟩ := ih cold
    refine ⟨rs ++ qs, ?_⟩
    have settled : State.callLamps s (x :: xs) = (u.offers rs).callLamps xs := by
      rw [State.callLamps, call]
      rfl
    have answered : u.called xs = s.called (x :: xs) := by
      cases x <;>
        simp [u, State.called, State.setLamp, State.lamp, State.item, Lamp.answering_answering]
    rw [settled, rest, State.offers_append, ← answered]
    exact congrArg (State.offers · qs) (State.offers_map (·.called xs) (fun _ _ => rfl) u rs)

/-! ## POWER_ON from STANDBY at rest (R85, R162, R165) -/

@[simp] theorem State.calledSignal_offers (s : State) (rs : List Report) :
    (s.offers rs).calledSignal = s.calledSignal := by
  unfold State.calledSignal State.calledCount
  rw [State.offers_lampA, State.offers_lampB, State.offers_conf]

theorem State.quiet.offers (h : s.quiet) (rs : List Report) : (s.offers rs).quiet :=
  h.of_same (by simpa using h.signals) (by simp) (by simp) (by simp) (by simp)

theorem State.quiet.setPower (h : s.quiet) (p : PowerUnit) (idle : p.idle = none)
    (dark : p.state ≠ .on ∧ p.state ≠ .dimmed) : (s.setPower p).quiet :=
  { h with idle := idle, dark := dark }

/-- The part as POWER_ON leaves it STARTING: the scan groups stopped, the inputs at `v`. -/
def State.starting (s : State) (v : Vector InputRecord 8) : State :=
  { s with
    power := { s.power with state := .starting }, inputs := v
    scan := Vector.replicate 2 ⟨none, Vector.replicate 8 0⟩ }

/-- STARTING is entered from STANDBY with every input in ACQUIRING (R165). -/
theorem State.quiet.enterStarting (h : s.quiet) (standby : s.power.state = .standby) (c : PowerCause)
    (o : PowerOutcome) :
    ∃ rs v, s.enterStarting c o = (s.starting v).offers rs ∧ ∀ i, v.get i = (s.input i).acquiring none := by
  have entered := h.setPower { s.power with state := .starting } h.idle (by simp)
  have stopped : (s.setPower { s.power with state := .starting }).stopScan.quiet := entered.of_same entered.signals
  obtain ⟨rs, v, woken, acquired⟩ := stopped.wakeInputs
  obtain ⟨r, reported⟩ : ∃ r, s.enterStarting c o
      = (s.setPower { s.power with state := .starting }).stopScan.wakeInputs.offer r := by
    unfold State.enterStarting
    rw [standby]
    exact ⟨_, rfl⟩
  exact ⟨rs ++ [r], v, by rw [reported, woken, State.offers_concat]; rfl, acquired⟩

/-- Who asks is recorded, with the degraded mark as the called set is handed over (R161, R162). -/
def State.handed (s : State) (a : Asker) (degraded : Bool) : State :=
  s.setPower { s.power with
    intent := true, intentClass := some a.cls, intentPriority := a.priority, degraded := degraded }

/-- In STANDBY without the degraded mark a lamp event reaches nothing of the power unit (R164). -/
theorem State.lampEvent_of_standby (standby : s.power.state = .standby) (sound : s.power.degraded = false) :
    s.lampEvent .none = s := by
  have power : ({ s.power with degraded := false } : PowerUnit) = s.power := by rw [← sound]
  unfold State.lampEvent State.settleDegraded State.setPower
  rw [standby, sound]
  dsimp only
  rw [Bool.false_and, Bool.false_and, power]

/-- POWER_ON in STANDBY at rest: without a lamp in play nothing but the calls remains; otherwise the projector is
STARTING. -/
theorem State.quiet.startUpLamps (h : s.quiet) (cold : s.cold) (standby : s.power.state = .standby)
    (sound : s.power.degraded = false) (a : Asker) :
    ∃ rs, if (s.called s.planLamps).calledSignal = .noLamp then
        (s.startUpLamps a).2 = (s.called s.planLamps).offers rs
      else ∃ v, (s.startUpLamps a).2
          = (((s.called s.planLamps).handed a
              (decide ((s.called s.planLamps).calledSignal = .degraded))).starting v).offers rs
        ∧ ∀ i, v.get i = (s.input i).acquiring none := by
  obtain ⟨rs, called⟩ := cold.callLamps s.planLamps
  let u := s.called s.planLamps
  have quiet : u.quiet := h.of_same h.signals
  have begun (degraded : Bool) (o : PowerOutcome) :
      ∃ qs v, ((u.offers rs).handed a degraded).enterStarting .request o
          = ((u.handed a degraded).starting v).offers qs
        ∧ ∀ i, v.get i = (s.input i).acquiring none := by
    have handed : (u.handed a degraded).quiet := quiet.setPower _ quiet.idle quiet.dark
    obtain ⟨qs, v, started, acquired⟩ :=
      (handed.offers rs).enterStarting (by rw [State.offers_power]; exact standby) .request o
    refine ⟨rs ++ qs, v, ?_, fun i => by rw [acquired, State.input_offers]; rfl⟩
    rw [State.offers_map (·.handed a degraded) (fun _ _ => rfl) u rs, started, State.offers_append]
    exact congrArg (State.offers · qs) (State.offers_map (·.starting v) (fun _ _ => rfl) _ rs)
  unfold State.startUpLamps
  rw [called]
  dsimp only
  rw [State.calledSignal_offers]
  cases signal : u.calledSignal with
  | noLamp =>
    obtain ⟨r, reported⟩ : ∃ r, (u.offers rs).reportPower (u.offers rs).power.state .request .startFailed
        = (u.offers rs).offer r := ⟨_, rfl⟩
    refine ⟨rs ++ [r], ?_⟩
    rw [if_pos rfl, State.offers_concat]
    dsimp only
    rw [reported]
    exact State.lampEvent_of_standby (by rw [State.offer_power, State.offers_power]; exact standby)
      (by rw [State.offer_power, State.offers_power]; exact sound)
  | degraded =>
    obtain ⟨qs, started⟩ := begun true .degraded
    exact ⟨qs, started⟩
  | none =>
    have handed : (u.offers rs).recordIntent true a = (u.offers rs).handed a false := by
      have degraded : (u.offers rs).power.degraded = false := by rw [State.offers_power]; exact sound
      unfold State.recordIntent State.handed
      rw [← degraded]
    obtain ⟨qs, started⟩ := begun false .none
    exact ⟨qs, by rw [handed]; exact started⟩

end Sys2Proof.Machine
end

section
/-! PROOFS. What an evaluation and a resume after power loss make of a part at rest (R49, R51, R162, R176; O26). -/

set_option Elab.async false

namespace Sys2Proof.Machine

variable {s t : State} {x : LampId}

/-! ## An evaluation reaches the level and the counters, and reports -/

/-- The lockout level and the counters are replaced. -/
def State.counted (s : State) (v : Level) (c : Vector Counter 16) : State := { s with level := v, counters := c }

theorem State.counted_offers (s : State) (rs : List Report) (v : Level) (c : Vector Counter 16) :
    (s.offers rs).counted v c = (s.counted v c).offers rs :=
  State.offers_map (·.counted v c) (fun _ _ => rfl) s rs

theorem State.limitReached_offers (s : State) (i : RuleId) (cls : ReqClass) (kind : Byte) :
    ∃ v c rs, s.limitReached i cls kind = (s.counted v c).offers rs := by
  let counters := s.counters.set i.val { s.counters.get i with value := 0 } i.isLt
  unfold State.limitReached
  split
  · rename_i raised _
    exact ⟨raised, counters,
      [.ruleEvent ⟨i, .limitReached, some (cls, kind), true, raised⟩,
        .lockout ⟨.escalation, raised, s.level, byte i.val⟩], rfl⟩
  · exact ⟨s.level, counters, [.ruleEvent ⟨i, .limitReached, some (cls, kind), false, s.level⟩], rfl⟩

theorem State.count_offers (s : State) (i : RuleId) (cls : ReqClass) (kind : Byte) :
    ∃ v c rs, s.count i cls kind = (s.counted v c).offers rs := by
  unfold State.count
  dsimp only
  split
  · split
    · exact s.limitReached_offers i cls kind
    · exact ⟨_, _, [], rfl⟩
  all_goals exact ⟨s.level, s.counters, [], rfl⟩

theorem Working.takeRule_offers (q : Question) (w : Working) (i : RuleId) :
    ∃ v c rs, (w.takeRule q i).s = (w.s.counted v c).offers rs := by
  unfold Working.takeRule
  dsimp only
  split
  · exact State.count_offers _ _ _ _
  · exact ⟨w.s.level, w.s.counters, [], rfl⟩

theorem Working.foldRules_offers (q : Question) (is : List RuleId) (w : Working) :
    ∃ v c rs, (is.foldl (Working.takeRule q) w).s = (w.s.counted v c).offers rs := by
  induction is generalizing w with
  | nil => exact ⟨w.s.level, w.s.counters, [], rfl⟩
  | cons i is ih =>
    obtain ⟨v, c, rs, taken⟩ := w.takeRule_offers q i
    obtain ⟨v', c', qs, rest⟩ := ih (w.takeRule q i)
    refine ⟨v', c', rs ++ qs, ?_⟩
    rw [List.foldl_cons, rest, taken, State.counted_offers, State.offers_append]
    rfl

theorem State.evaluate_offers (s : State) (cls : ReqClass) (o : Operation) (p : Option Nat) :
    ∃ v c rs, (s.evaluate cls o p).2 = (s.counted v c).offers rs := Working.foldRules_offers _ _ _

/-- With an empty rule set no rule is taken. -/
theorem State.takeRules_of_no_rules {cls : ReqClass} (none_set : s.conf.ruleSet cls = 0) (o : Operation) (p : Nat) :
    s.takeRules cls o p
      = { s := s, priority := p, map := (s.conf.cell s.level cls).map, lastMap := none, decided := none } := by
  unfold State.takeRules
  induction List.finRange 16 with
  | nil => rfl
  | cons i is ih =>
    rw [List.foldl_cons, Working.takeRule, if_neg (by simp [none_set])]
    exact ih

/-- With an empty rule set the matrix decides POWER_ON, at its own priority. -/
theorem State.evaluate_powerOn_of_no_rules {cls : ReqClass} (none_set : s.conf.ruleSet cls = 0) :
    (s.evaluate cls .powerOn none).1.permit = (s.conf.cell s.level cls).permit
      ∧ (s.evaluate cls .powerOn none).1.priority = (s.conf.cell s.level cls).priority
      ∧ (s.evaluate cls .powerOn none).2 = s := by
  unfold State.evaluate
  dsimp only
  rw [State.takeRules_of_no_rules none_set]
  cases permit : (s.conf.cell s.level cls).permit <;> simp [Operation.outside]

/-! ## The resume (R176) -/

/-- A resume may change the level and the counters, call the lamps, and start the projector. -/
structure State.resumed (s t : State) : Prop where
  frame : ∃ rs, t = ({ s with
    level := t.level, counters := t.counters, lampA := t.lampA, lampB := t.lampB, inputs := t.inputs
    power := t.power, scan := t.scan } : State).offers rs
  lamps : ∀ x, t.lamp x = s.lamp x ∨ t.lamp x = (s.lamp x).answering (s.item 9) (s.item 10)
  timers : t.power.idle = s.power.idle ∧ t.power.autoOff = s.power.autoOff
    ∧ t.power.idleExpired = s.power.idleExpired

/-- Whatever a resume does, the rest is as it was. -/
theorem State.resumed.rest (h : s.resumed t) : t = { s with
    control := t.control, lectern := t.lectern, level := t.level, counters := t.counters, lampA := t.lampA
    lampB := t.lampB, inputs := t.inputs, power := t.power, scan := t.scan } := by
  obtain ⟨rs, frame⟩ := h.frame
  have whole := frame.trans (State.offers_frame _ rs)
  generalize (State.offers _ rs).control = k, (State.offers _ rs).lectern = j at whole
  obtain rfl : t.control = k := congrArg State.control whole
  obtain rfl : t.lectern = j := congrArg State.lectern whole
  exact whole

theorem State.resumed.of_offers {u : State} (rs : List Report) (frame : u = { s with
      level := u.level, counters := u.counters, lampA := u.lampA, lampB := u.lampB, inputs := u.inputs
      power := u.power, scan := u.scan })
    (lamps : ∀ x, u.lamp x = s.lamp x ∨ u.lamp x = (s.lamp x).answering (s.item 9) (s.item 10))
    (timers : u.power.idle = s.power.idle ∧ u.power.autoOff = s.power.autoOff
      ∧ u.power.idleExpired = s.power.idleExpired) : s.resumed (u.offers rs) where
  frame := by
    refine ⟨rs, congrArg (State.offers · rs) ?_⟩
    rw [State.offers_level, State.offers_counters, State.offers_lampA, State.offers_lampB, State.offers_inputs,
      State.offers_power, State.offers_scan]
    exact frame
  lamps := by simpa using lamps
  timers := by simpa using timers

theorem State.resumed.of_counted (v : Level) (c : Vector Counter 16) (rs : List Report) :
    s.resumed ((s.counted v c).offers rs) :=
  .of_offers rs rfl (fun x => .inl (by cases x <;> rfl)) ⟨rfl, rfl, rfl⟩

theorem State.resume_of_not_due {cause : ResetCause} {lit : Bool}
    (not_due : ¬(lit = true ∧ ¬cause.keepsClock = true ∧ s.item 32 ≠ 0)) : s.resume cause lit = s := if_neg not_due

/-- A resume in SHUTDOWN is refused by the power unit. -/
theorem State.unlinked_powerOn_of_shutdown (shutdown : s.power.state = .shutdown) :
    ∃ v c rs, s.unlinked .auto .powerOn = (s.counted v c).offers rs := by
  obtain ⟨v, c, rs, evaluated⟩ := s.evaluate_offers .auto .powerOn none
  refine ⟨v, c, rs, ?_⟩
  unfold State.unlinked State.operate
  dsimp only
  split
  · rw [if_neg (by decide), evaluated]
    have still : ((s.counted v c).offers rs).power.state = .shutdown := by rw [State.offers_power]; exact shutdown
    unfold State.take State.takePowerOn
    dsimp only
    rw [still]
    rfl
  · exact evaluated

theorem State.takePowerOn_of_standby (standby : s.power.state = .standby) (cool : s.recovery = false) (a : Asker) :
    s.takePowerOn a = s.startUpLamps a := by
  unfold State.takePowerOn
  rw [standby]
  dsimp only
  rw [if_neg (by simp [cool])]

theorem State.lamp_called (s : State) (xs : List LampId) (x : LampId) :
    (s.called xs).lamp x = if x ∈ xs then (s.lamp x).answering (s.item 9) (s.item 10) else s.lamp x := by
  cases x <;> rfl

/-- POWER_ON in STANDBY at rest changes no more than a resume may. -/
theorem State.quiet.startUpLamps_resumed (h : s.quiet) (cold : s.cold) (standby : s.power.state = .standby)
    (sound : s.power.degraded = false) (a : Asker) : s.resumed (s.startUpLamps a).2 := by
  have lamps (x : LampId) : (s.called s.planLamps).lamp x = s.lamp x
      ∨ (s.called s.planLamps).lamp x = (s.lamp x).answering (s.item 9) (s.item 10) := by
    rw [State.lamp_called]
    split
    · exact .inr rfl
    · exact .inl rfl
  obtain ⟨rs, outcome⟩ := h.startUpLamps cold standby sound a
  split at outcome
  · rw [outcome]
    exact .of_offers rs rfl lamps ⟨rfl, rfl, rfl⟩
  · obtain ⟨v, started, -⟩ := outcome
    rw [started]
    exact .of_offers rs rfl lamps ⟨rfl, rfl, rfl⟩

/-- What follows an evaluation adds to what the evaluation has changed. -/
theorem State.resumed.after_counted {v : Level} {c : Vector Counter 16} {rs : List Report}
    (h : ((s.counted v c).offers rs).resumed t) : s.resumed t where
  frame := by
    obtain ⟨qs, frame⟩ := h.frame
    refine ⟨rs ++ qs, frame.trans ?_⟩
    rw [State.offers_append]
    exact congrArg (State.offers · qs) (State.offers_map (fun u => { u with
      level := t.level, counters := t.counters, lampA := t.lampA, lampB := t.lampB, inputs := t.inputs
      power := t.power, scan := t.scan }) (fun _ _ => rfl) (s.counted v c) rs)
  lamps x := by
    have lamps := h.lamps x
    rw [State.lamp_offers, State.item_offers, State.item_offers] at lamps
    cases x <;> exact lamps
  timers := by
    have timers := h.timers
    rw [State.offers_power] at timers
    exact timers

/-- A resume from STANDBY at rest. -/
theorem State.quiet.unlinked_powerOn (h : s.quiet) (cold : s.cold) (standby : s.power.state = .standby)
    (sound : s.power.degraded = false) (cool : s.recovery = false) : s.resumed (s.unlinked .auto .powerOn) := by
  obtain ⟨v, c, rs, evaluated⟩ := s.evaluate_offers .auto .powerOn none
  unfold State.unlinked State.operate
  dsimp only
  split
  · have quiet : (s.counted v c).quiet := h.of_same h.signals
    have lamps : ((s.counted v c).offers rs).cold :=
      ⟨fun x => by rw [State.lamp_offers]; cases x; exacts [cold.1 .a, cold.1 .b],
        by rw [State.offers_fan, State.offers_recovery]; exact cold.2⟩
    have state : ((s.counted v c).offers rs).power = s.power := State.offers_power _ _
    rw [if_neg (by decide), evaluated]
    unfold State.take
    dsimp only
    rw [State.takePowerOn_of_standby (by rw [state, standby]) (by rw [State.offers_recovery]; exact cool)]
    exact ((quiet.offers rs).startUpLamps_resumed lamps (by rw [state, standby])
      (by rw [state, sound]) _).after_counted
  · rw [evaluated]
    exact .of_counted v c rs

theorem State.resumed.refl (s : State) : s.resumed s := .of_counted s.level s.counters []

/-- A resume at rest, in STANDBY or in SHUTDOWN. -/
theorem State.quiet.resume (h : s.quiet) (cold : s.cold) (sound : s.power.degraded = false)
    (state : s.power.state = .standby ∧ s.recovery = false ∨ s.power.state = .shutdown) (cause : ResetCause)
    (lit : Bool) : s.resumed (s.resume cause lit) := by
  unfold State.resume
  split
  · rcases state with ⟨standby, cool⟩ | shutdown
    · exact h.unlinked_powerOn cold standby sound cool
    · obtain ⟨v, c, rs, refused⟩ := State.unlinked_powerOn_of_shutdown shutdown
      rw [refused]
      exact .of_counted v c rs
  · exact .refl s

/-- With an empty rule set of class AUTO a resume that the matrix denies changes nothing. -/
theorem State.resume_of_denied {cause : ResetCause} {lit : Bool} (none_set : s.conf.ruleSet .auto = 0)
    (denied : (s.conf.cell s.level .auto).permit = false) : s.resume cause lit = s := by
  obtain ⟨permit, -, same⟩ := State.evaluate_powerOn_of_no_rules none_set
  unfold State.resume State.unlinked State.operate
  split
  · dsimp only
    rw [permit, denied, if_neg (by decide)]
    exact same
  · rfl

/-- With an empty rule set of class AUTO a resume that the matrix permits is taken as POWER_ON (R162). -/
theorem State.resume_of_permitted {cause : ResetCause} {lit : Bool}
    (due : lit = true ∧ ¬cause.keepsClock = true ∧ s.item 32 ≠ 0) (none_set : s.conf.ruleSet .auto = 0)
    (permitted : (s.conf.cell s.level .auto).permit = true) (standby : s.power.state = .standby)
    (cool : s.recovery = false) :
    s.resume cause lit = (s.startUpLamps ⟨.auto, (s.conf.cell s.level .auto).priority, none⟩).2 := by
  obtain ⟨permit, priority, same⟩ := State.evaluate_powerOn_of_no_rules none_set
  unfold State.resume State.unlinked State.operate
  rw [if_pos due]
  dsimp only
  rw [permit, permitted, if_pos rfl, if_neg (by decide), same, priority]
  exact congrArg Prod.snd (State.takePowerOn_of_standby standby cool _)

end Sys2Proof.Machine
end

section
/-! PROOFS. The level that the week table gives at a date-time: the fold over the entries finds the least distance
back, and the highest index where several entries fall there (R189; O26). -/

set_option Elab.async false

namespace Sys2Proof.Machine

/-! ## The least distance of one entry -/

/-- Whether today's exception record strikes out SET_LOCKOUT (R186). -/
def Stored.strikesToday (c : Stored) (t : DateTime) : Bool :=
  (suppressedOn c.exceptions t.date).getLsbD Action.setLockout.code

theorem Stored.strikesToday_eq (c : Stored) (t : DateTime) :
    c.strikesToday t = (c.exceptions.find? fun r : ExceptionRecord => decide (r.date = t.date)).any fun r =>
      r.actions.getLsbD 3 := by
  have same : (fun e : ExceptionRecord => e.date == t.date) = fun r => decide (r.date = t.date) := by
    funext r
    exact Bool.eq_iff_iff.mpr (by simp)
  unfold Stored.strikesToday suppressedOn
  rw [same]
  cases c.exceptions.find? fun r : ExceptionRecord => decide (r.date = t.date) <;> simp [Action.code]

/-- The distances back to an entry that today's record leaves standing. -/
def Stored.distances (c : Stored) (t : DateTime) (e : Entry) : List Nat :=
  (e.candidates t.minuteOfWeek).filter fun d => !(c.strikesToday t && decide (d ≤ t.minuteOfDay))

/-- The distances back to an entry are those of the days of its set (R189). -/
theorem Entry.mem_candidates (e : Entry) (now back : Nat) :
    back ∈ e.candidates now ↔ e.enabled = true ∧ e.action = .setLockout
      ∧ ∃ day : Fin 7, e.days.getLsbD day.val = true ∧ back = distanceBack now (day.val * 1440 + e.minute) := by
  unfold Entry.candidates
  split
  · rename_i lockout
    simp only [Bool.and_eq_true, beq_iff_eq] at lockout
    simp only [lockout, true_and, List.mem_map, List.mem_filter, List.mem_range]
    constructor
    · rintro ⟨day, ⟨bound, held⟩, rfl⟩
      exact ⟨⟨day, bound⟩, held, rfl⟩
    · rintro ⟨day, held, rfl⟩
      exact ⟨day.val, ⟨day.isLt, held⟩, rfl⟩
  · rename_i other
    simp only [Bool.and_eq_true, beq_iff_eq] at other
    simp only [List.not_mem_nil, false_iff]
    exact fun ⟨enabled, action, _⟩ => other ⟨enabled, action⟩

theorem Stored.timetabled_iff (c : Stored) (t : DateTime) (n : Fin 48) (back : Nat) :
    c.timetabled t n back ↔ back ∈ c.distances t (c.week.get n) := by
  unfold Stored.timetabled Stored.distances
  rw [← c.strikesToday_eq, List.mem_filter, Entry.mem_candidates]
  have standing : (!(c.strikesToday t && decide (back ≤ t.minuteOfDay))) = true
      ↔ ¬(back ≤ t.hour * 60 + t.minute ∧ c.strikesToday t = true) := by
    rw [show t.hour * 60 + t.minute = t.minuteOfDay from rfl]
    cases c.strikesToday t <;> simp
  rw [standing, and_assoc, and_assoc]
  rfl

/-! ## The fold over the entries -/

/-- The fold over entries has chosen `best`: the least distance of any entry, and the level argument of the last entry
at that distance. -/
def choosesLeast (least : Entry → Option Nat) (es : List Entry) : Option (Nat × Nat) → Prop
  | none => ∀ e ∈ es, least e = none
  | some (d, v) => ∃ (i : Nat) (e : Entry), es[i]? = some e ∧ least e = some d ∧ v = e.arg1
      ∧ ∀ j f o, es[j]? = some f → least f = some o → d < o ∨ d = o ∧ j ≤ i

/-- The entries of a list that has grown by one. -/
theorem getElem?_concat_eq_some {es : List Entry} {e f : Entry} {j : Nat} :
    (es ++ [e])[j]? = some f ↔ es[j]? = some f ∨ j = es.length ∧ e = f := by
  rw [List.getElem?_append]
  split
  · rename_i inside
    simp [inside.ne]
  · rename_i beyond
    rw [List.getElem?_singleton, List.getElem?_eq_none (Nat.le_of_not_lt beyond)]
    have last : j - es.length = 0 ↔ j = es.length := by omega
    simp [last]

/-- An entry that gives no level leaves the choice. -/
theorem choosesLeast.skip {least : Entry → Option Nat} {es : List Entry} {best : Option (Nat × Nat)}
    (h : choosesLeast least es best) {e : Entry} (nothing : least e = none) : choosesLeast least (es ++ [e]) best := by
  match best, h with
  | none, h =>
    intro f mem
    rcases List.mem_append.mp mem with old | new
    · exact h f old
    · rw [List.mem_singleton.mp new, nothing]
  | some (d, v), ⟨i, g, place, distance, level, first⟩ =>
    refine ⟨i, g, getElem?_concat_eq_some.mpr (.inl place), distance, level, fun j f o at_j far => ?_⟩
    rcases getElem?_concat_eq_some.mp at_j with old | ⟨-, rfl⟩
    · exact first j f o old far
    · cases nothing.symm.trans far

/-- An entry that is no farther than the choice is chosen. -/
theorem choosesLeast.take {least : Entry → Option Nat} {es : List Entry} {e : Entry} {d : Nat}
    (near : least e = some d) (least_so_far : ∀ f ∈ es, ∀ o, least f = some o → d ≤ o) :
    choosesLeast least (es ++ [e]) (some (d, e.arg1)) := by
  refine ⟨es.length, e, getElem?_concat_eq_some.mpr (.inr ⟨rfl, rfl⟩), near, rfl, fun j f o at_j far => ?_⟩
  rcases getElem?_concat_eq_some.mp at_j with old | ⟨rfl, rfl⟩
  · have bound : j < es.length := (List.getElem?_eq_some_iff.mp old).1
    have := least_so_far f (List.mem_of_getElem? old) o far
    omega
  · exact .inr ⟨Option.some.inj (near.symm.trans far), le_rfl⟩

theorem foldl_betterEntry_choosesLeast (now day : Nat) (struck : Bool) (es : List Entry) :
    choosesLeast (·.leastDistance now day struck) es (es.foldl (betterEntry now day struck) none) := by
  induction es using List.reverseRecOn with
  | nil => exact fun e mem => absurd mem List.not_mem_nil
  | append_singleton es e ih =>
    rw [List.foldl_append, List.foldl_cons, List.foldl_nil]
    generalize es.foldl (betterEntry now day struck) none = best at ih ⊢
    unfold betterEntry
    cases near : e.leastDistance now day struck with
    | none => exact ih.skip near
    | some d =>
      match best, ih with
      | none, ih => exact .take near fun f mem o far => absurd ((ih f mem).symm.trans far) nofun
      | some (b, v), ⟨i, g, place, distance, level, first⟩ =>
        dsimp only
        split
        · rename_i nearer
          refine .take near fun f mem o far => ?_
          obtain ⟨j, at_j⟩ := List.mem_iff_getElem?.mp mem
          have := first j f o at_j far
          omega
        · rename_i farther
          refine ⟨i, g, getElem?_concat_eq_some.mpr (.inl place), distance, level, fun j f o at_j far => ?_⟩
          rcases getElem?_concat_eq_some.mp at_j with old | ⟨-, rfl⟩
          · exact first j f o old far
          · have : d = o := Option.some.inj (near.symm.trans far)
            omega

/-! ## The level of the week table -/

/-- A distance is the least of an entry when the entry has it and none shorter. -/
theorem Stored.leastDistance_eq_some (c : Stored) (t : DateTime) (e : Entry) (d : Nat) :
    e.leastDistance t.minuteOfWeek t.minuteOfDay (c.strikesToday t) = some d
      ↔ d ∈ c.distances t e ∧ ∀ o ∈ c.distances t e, d ≤ o :=
  List.min?_eq_some_iff

theorem Stored.leastDistance_eq_none (c : Stored) (t : DateTime) (e : Entry) :
    e.leastDistance t.minuteOfWeek t.minuteOfDay (c.strikesToday t) = none ↔ c.distances t e = [] :=
  List.min?_eq_none_iff

/-- The choice that the week table makes. -/
def Stored.choice (c : Stored) (t : DateTime) : Option (Nat × Nat) :=
  c.week.toList.foldl (betterEntry t.minuteOfWeek t.minuteOfDay (c.strikesToday t)) none

theorem Stored.levelAt_eq (c : Stored) (t : DateTime) :
    c.levelAt t = ((c.choice t).map (·.2)).bind Level.ofCode := rfl

/-- A place of the week table. -/
theorem Stored.week_getElem? (c : Stored) (n : Fin 48) : c.week.toList[n.val]? = some (c.week.get n) := by
  rw [Vector.getElem?_toList]
  exact Vector.getElem?_eq_getElem n.isLt

/-- The choice is none without a candidate, and otherwise the nearest candidate of the highest index. -/
theorem Stored.choice_spec (c : Stored) (t : DateTime) :
    match c.choice t with
    | none => ∀ n back, ¬c.timetabled t n back
    | some (d, v) => ∃ n, c.timetabled t n d ∧ v = (c.week.get n).arg1
        ∧ ∀ m other, c.timetabled t m other → d < other ∨ d = other ∧ m ≤ n := by
  have chosen := foldl_betterEntry_choosesLeast t.minuteOfWeek t.minuteOfDay (c.strikesToday t) c.week.toList
  change choosesLeast _ _ (c.choice t) at chosen
  match c.choice t, chosen with
  | none, nothing =>
    intro n back candidate
    have none_left := (c.leastDistance_eq_none t _).mp (nothing _ (List.mem_of_getElem? (c.week_getElem? n)))
    rw [c.timetabled_iff, none_left] at candidate
    exact absurd candidate List.not_mem_nil
  | some (d, v), ⟨i, e, place, near, level, first⟩ =>
    have bound : i < 48 := by simpa using (List.getElem?_eq_some_iff.mp place).1
    obtain rfl : c.week.get ⟨i, bound⟩ = e := Option.some.inj ((c.week_getElem? ⟨i, bound⟩).symm.trans place)
    obtain ⟨held, -⟩ := (c.leastDistance_eq_some t _ d).mp near
    refine ⟨⟨i, bound⟩, (c.timetabled_iff t _ d).mpr held, level, fun m other candidate => ?_⟩
    rw [c.timetabled_iff] at candidate
    obtain ⟨o, least⟩ : ∃ o, (c.week.get m).leastDistance t.minuteOfWeek t.minuteOfDay (c.strikesToday t) = some o :=
      Option.ne_none_iff_exists'.mp fun nothing =>
        List.ne_nil_of_mem candidate ((c.leastDistance_eq_none t _).mp nothing)
    have nearest := ((c.leastDistance_eq_some t _ o).mp least).2 other candidate
    have earlier := first m.val _ o (c.week_getElem? m) least
    show d < other ∨ d = other ∧ m.val ≤ i
    omega

/-- Without a candidate the week table gives no level (R189). -/
theorem Stored.levelAt_of_none (c : Stored) (t : DateTime) (h : ∀ n back, ¬c.timetabled t n back) :
    c.levelAt t = none := by
  have spec := c.choice_spec t
  rw [c.levelAt_eq]
  match c.choice t, spec with
  | none, _ => rfl
  | some (d, v), ⟨n, candidate, _⟩ => exact absurd candidate (h n d)

theorem Level.ofCode_code (v : Level) : Level.ofCode v.code = some v := by cases v <;> rfl

/-- The nearest candidate of the highest index gives the level (R189). -/
theorem Stored.levelAt_of_restores (c : Stored) (t : DateTime) (v : Level) (h : c.restores t v) :
    c.levelAt t = some v := by
  obtain ⟨n, back, candidate, code, least⟩ := h
  have spec := c.choice_spec t
  rw [c.levelAt_eq]
  match c.choice t, spec with
  | none, none_left => exact absurd candidate (none_left n back)
  | some (d, w), ⟨m, chosen, level, first⟩ =>
    have there := least m d chosen
    have here := first n back candidate
    obtain rfl : m = n := Fin.ext (by simp only [Fin.le_def] at there here; omega)
    show Level.ofCode w = some v
    rw [level, ← code, Level.ofCode_code]

end Sys2Proof.Machine
end

section
/-! PROOFS. The stages of a start-up, each as the state that it leaves and the reports that it offers (O26). -/

set_option Elab.async false

namespace Sys2Proof.Machine

variable {s t : State} {x : LampId}

/-! ## The restored blocks (R102, R160, R177, R190) -/

/-- The geometry values that a start-up puts in force (R160). -/
def State.startValues (s : State) : GeoValues :=
  if s.geometryOk s.conf.geometry then s.conf.geometry else zeroGeo

theorem State.startGeometry_eq (s : State) : s.startGeometry = s.adoptGeometry s.startValues := by
  unfold State.startGeometry State.startValues
  split <;> rfl

theorem State.startValues_convex (s : State) : s.startValues.quad.convex = true := by
  unfold State.startValues
  split
  · rename_i valid
    simp only [State.geometryOk, Quad.valid, Bool.and_eq_true] at valid
    obtain ⟨⟨-, convex⟩, -⟩ := valid
    exact convex
  · decide

/-- The exception list without the past dates of a set clock (R185). -/
def State.exceptionsLeft (s : State) : List ExceptionRecord :=
  match s.clock with
  | none => s.conf.exceptions
  | some d => purged d.now.date s.conf.exceptions

theorem State.purge_eq (s : State) : s.purge = s.setExceptions s.exceptionsLeft := by
  unfold State.purge State.exceptionsLeft
  cases s.clock <;> rfl

/-- The geometry unit with convex values in force and no format on the selected input. -/
def GeoValues.inForce (g : GeoValues) (i : InputId) : GeometryUnit :=
  { quad := g.quad, area := g.quad.area, rect := fullRect, fit := .fill, pictureQuad := g.quad
    pictureArea := g.quad.area, input := i, deferred := false }

theorem GeoValues.filled_inForce {g : GeoValues} (convex : g.quad.convex = true) (i : InputId) :
    (g.inForce i).filled i = g.inForce i := by
  simp [GeometryUnit.filled, GeoValues.inForce, Quad.mapRect_fullRect, pictureAreaOf_convex convex]

theorem State.adoptGeometry_of_convex {g : GeoValues} (convex : g.quad.convex = true)
    (no_signal : s.selectedStable = false) (sent : s.geo.deferred = false) :
    s.adoptGeometry g
      = { s with conf := { s.conf with geometry := g }, geo := g.inForce s.sw.selected } := by
  let adopted : State := { s with
    conf := { s.conf with geometry := g }, geo := { s.geo with quad := g.quad, area := g.quad.area } }
  have filled : adopted.geo.filled s.sw.selected = g.inForce s.sw.selected := by
    simp [adopted, GeometryUnit.filled, GeoValues.inForce, Quad.mapRect_fullRect, pictureAreaOf_convex convex]
  have run := State.runPicture_of_no_signal (s := adopted) no_signal sent
  rw [show adopted.geo.filled adopted.sw.selected = _ from filled] at run
  exact run

/-- Every entry of a vector of one value. -/
theorem vector_get_replicate {α : Type} {n : Nat} (v : α) (i : Fin n) : (Vector.replicate n v).get i = v :=
  Vector.getElem_replicate i.isLt

/-- The cleared blocks have no signal. -/
theorem State.cleared_input (s : State) (cause : ResetCause) (i : InputId) :
    (s.cleared cause).input i = InputRecord.fresh := vector_get_replicate _ i

theorem State.restored_eq (s : State) (cause : ResetCause) :
    s.restored cause = { s.cleared cause with
      conf := { (s.cleared cause).conf with
        geometry := (s.cleared cause).startValues, exceptions := (s.cleared cause).exceptionsLeft }
      lampA := (s.cleared cause).flagged (s.cleared cause).lampA
      lampB := (s.cleared cause).flagged (s.cleared cause).lampB
      scan := (s.cleared cause).startScan.scan
      geo := (s.cleared cause).startValues.inForce (s.cleared cause).sw.selected } := by
  have no_signal (u : State) (inputs : u.inputs = (s.cleared cause).inputs) : u.selectedStable = false := by
    have fresh : u.input u.sw.selected = InputRecord.fresh := by
      rw [State.input, inputs]
      exact s.cleared_input cause _
    simp [State.selectedStable, fresh, InputRecord.fresh]
  unfold State.restored
  dsimp only
  rw [State.startGeometry_eq, State.purge_eq]
  exact State.adoptGeometry_of_convex (State.startValues_convex _) (no_signal _ rfl) rfl

/-! ## The level at a start-up (R189) -/

/-- The lockout level once it is reconstructed. -/
def State.levelNow (s : State) : Level :=
  if s.item 39 = 0 then s.level else (s.clock.bind fun c => s.conf.levelAt c.now).getD s.level

theorem State.reconstruct_offers (s : State) :
    ∃ rs, s.reconstruct = (s.counted s.levelNow s.counters).offers rs ∧ rs.length ≤ 1 := by
  unfold State.reconstruct State.levelNow
  split
  · exact ⟨[], rfl, Nat.zero_le _⟩
  · cases s.clock.bind fun c => s.conf.levelAt c.now with
    | none => exact ⟨[], rfl, Nat.zero_le _⟩
    | some v =>
      dsimp only
      unfold State.setLevel
      split
      · rename_i same
        exact ⟨[], by rw [same]; rfl, Nat.zero_le _⟩
      · exact ⟨[.lockout ⟨.scheduleRestore, v, s.level, 0xFF⟩], rfl, le_rfl⟩

/-! ## The reports of the start-up (R195) -/

/-- The scaler holds the figures in force. -/
def State.updated (s : State) : State := { s with scaler := s.geo.update }

theorem State.sendUpdate_of_sent (sent : s.geo.deferred = false) (k : GeoCause) :
    ∃ r, s.sendUpdate k false = s.updated.offer r := by
  have geo : ({ s.geo with deferred := false } : GeometryUnit) = s.geo := by rw [← sent]
  unfold State.sendUpdate
  rw [geo]
  exact ⟨_, rfl⟩

theorem State.announce_offers (sent : s.geo.deferred = false) (start : Report) (k : GeoCause) :
    ∃ rs, s.announce start k = (s.counted s.levelNow s.counters).updated.offers (start :: rs) ∧ rs.length ≤ 6 := by
  let begun := [start, .lockout ⟨.start, s.level, s.level, 0xFF⟩]
  obtain ⟨rs, level, few⟩ := (s.offers begun).reconstruct_offers
  have now : (s.offers begun).levelNow = s.levelNow := by
    simp [State.levelNow]
  rw [now, State.offers_counters, State.counted_offers, ← State.offers_append] at level
  let w := s.counted s.levelNow s.counters
  obtain ⟨p, a, b, told⟩ : ∃ p a b, s.announce start k
      = ((((s.offers begun).reconstruct.offer p).offer a).offer b).sendUpdate k false := ⟨_, _, _, rfl⟩
  obtain ⟨g, update⟩ := State.sendUpdate_of_sent (s := w.offers (begun ++ rs ++ [p, a, b]))
    (by rw [State.offers_geo]; exact sent) k
  have reported : (((w.offers (begun ++ rs)).offer p).offer a).offer b = w.offers (begun ++ rs ++ [p, a, b]) :=
    (w.offers_append _ [p, a, b]).symm
  refine ⟨.lockout ⟨.start, s.level, s.level, 0xFF⟩ :: (rs ++ [p, a, b, g]), ?_, by simp; omega⟩
  rw [told, level, reported, update, State.offers_map State.updated (fun _ _ => rfl), ← State.offers_concat]
  simp [begun, w]

/-! ## Incidents -/

/-- A lamp with one incident more in its history (R106, R107). -/
def Lamp.noted (m : Lamp) (k : IncidentKind) (time : Option DateTime) : Lamp :=
  { m with history := (⟨k, k.classIn m.state, m.state, m.wear, time⟩ :: m.history).take 4 }

/-- The lamps with UNCLEAN_OFF noted where the stored flag was set (R110). -/
def State.uncleanLamps (s : State) (a b : Bool) : State :=
  { s with
    lampA := if a then s.lampA.noted .uncleanOff s.dateTime else s.lampA
    lampB := if b then s.lampB.noted .uncleanOff s.dateTime else s.lampB }

/-- The lamps after UNCLEAN_OFF, with the lamp write that its checkpoint begins. -/
def State.uncleaned (s : State) (a b : Bool) : State :=
  { s.uncleanLamps a b with
    lampWrite := if a || b then some ⟨(s.uncleanLamps a b).lampRecord, some 200⟩ else none }

theorem State.uncleanOff_offers (free : s.lampWrite = none) (a b : Bool) :
    ∃ rs, s.uncleanOff a b = (s.uncleaned a b).offers rs ∧ rs.length ≤ 2 := by
  obtain ⟨rs, told, few⟩ : ∃ rs, (s.conditionIf a .a .uncleanOff).conditionIf b .b .uncleanOff
      = (s.uncleanLamps a b).offers rs ∧ rs.length ≤ 2 := by
    cases a <;> cases b
    · exact ⟨[], rfl, by simp⟩
    · exact ⟨[_], rfl, by simp⟩
    · exact ⟨[_], rfl, by simp⟩
    · exact ⟨[_, _], rfl, by simp⟩
  refine ⟨rs, ?_, few⟩
  unfold State.uncleanOff State.uncleaned
  dsimp only
  rw [told]
  split
  · unfold State.checkpoint
    rw [State.offers_lampWrite, show (s.uncleanLamps a b).lampWrite = none from free]
    exact State.offers_map State.beginLampWrite (fun _ _ => rfl) _ rs
  · exact congrArg (State.offers · rs) (by rw [← free]; rfl)

/-! ## The thermal alarm of a start-up (R111, R112, R115, R119) -/

/-- The power unit at its start values, in a power state (R160). -/
def PowerUnit.begun (p : PowerState) : PowerUnit := ⟨p, false, none, 0, false, false, none, none⟩

/-- The power unit in SHUTDOWN, the scan groups stopped (assumption 25). -/
def State.shut (s : State) : State :=
  { s with power := .begun .shutdown, scan := Vector.replicate 2 ⟨none, Vector.replicate 8 0⟩ }

/-- Both lamps have noted a thermal alarm, and recovery is on. -/
def State.alarmed (s : State) : State :=
  { s with
    lampA := s.lampA.noted .thermal s.dateTime, lampB := s.lampB.noted .thermal s.dateTime
    recovery := true, fan := true }

/-- A lamp in HOT that does not wait, or in OUT, has no call to end (R84). -/
theorem State.thermalLamp_of_still (cold : (s.lamp x).cold) (still : (s.lamp x).waiting = false) :
    s.thermalLamp x = s := by
  unfold State.thermalLamp
  obtain ⟨hot | out, -⟩ := cold
  · rw [hot, still]
    rfl
  · rw [out]

/-- In STANDBY with the wake timers stopped, the inputs DORMANT and no window open, SHUTDOWN stops the scan groups. -/
theorem State.enterShutdown_of_still (power : s.power = .begun .standby) (wake : ∀ x, (s.lamp x).wakeTimer = none)
    (dormant : ∀ i, (s.input i).signal = .dormant) (window : s.window = none) (c : PowerCause) :
    ∃ r, s.enterShutdown c = s.shut.offer r := by
  have entered : ((s.setPower { s.power.stopTimers with state := .shutdown, degraded := false }).stopWake).stopScan
      = s.shut := by
    have a : ({ s.lampA with wakeTimer := none } : Lamp) = s.lampA := by
      rw [← show s.lampA.wakeTimer = none from wake .a]
    have b : ({ s.lampB with wakeTimer := none } : Lamp) = s.lampB := by
      rw [← show s.lampB.wakeTimer = none from wake .b]
    unfold State.stopWake State.stopScan State.setPower
    dsimp only
    rw [a, b, power]
    rfl
  have asleep : s.shut.sleepInputs = s.shut := State.sleepInputs_of_dormant dormant
  have closed : s.shut.closeWindow .cancelledState = s.shut := by
    unfold State.closeWindow
    rw [show s.shut.window = none from window]
  unfold State.enterShutdown
  dsimp only
  rw [entered, asleep, closed]
  exact ⟨_, rfl⟩

theorem Lamp.cold.noted {m : Lamp} (h : m.cold) (k : IncidentKind) (time : Option DateTime) : (m.noted k time).cold := h

theorem State.setRecovery_true (s : State) : s.setRecovery true = { s with recovery := true, fan := true } := by
  simp [State.setRecovery, State.driveFan]

/-- With the input asserted and no lamp in COOLDOWN the end of recovery is SHUTDOWN, at once (R114, R115). -/
theorem State.cold.thermalAlarm (cold : s.cold) (still : ∀ x, (s.lamp x).waiting = false)
    (input : s.thermalInput = true) (power : s.power = .begun .standby)
    (dormant : ∀ i, (s.input i).signal = .dormant) (window : s.window = none) :
    ∃ rs, s.thermalAlarm = s.alarmed.shut.offers rs := by
  let w := s.alarmed
  obtain ⟨rs, told⟩ : ∃ rs, (((s.offer (.thermal
      { event := .alarm, input := s.thermalInput, recovery := true, latch := s.latch })).condition .a .thermal
        ).condition .b .thermal).setRecovery true = w.offers rs := ⟨[_, _, _], State.setRecovery_true _⟩
  have lamps : ∀ x, ((w.offers rs).lamp x).cold := fun x => by
    rw [State.lamp_offers]
    cases x
    · exact (cold.1 .a).noted _ _
    · exact (cold.1 .b).noted _ _
  have waiting : ∀ x, ((w.offers rs).lamp x).waiting = false := fun x => by
    rw [State.lamp_offers]
    cases x
    · exact still .a
    · exact still .b
  have off (qs : List Report) : (w.offers qs).power = .begun .standby := (State.offers_power _ _).trans power
  have calm : (w.offers rs).alarmPower = w.offers rs := by
    unfold State.alarmPower
    rw [off]
    show (w.offers rs).setPower (.begun .standby) = _
    rw [← off rs]
    rfl
  have cooling : (w.offers rs).cooling = false := by
    unfold State.cooling
    rw [show ((w.offers rs).lampA.state == .cooldown) = false from (lamps .a).not_cooling,
      show ((w.offers rs).lampB.state == .cooldown) = false from (lamps .b).not_cooling]
    rfl
  have asserted : (w.offers rs).thermalInput = true := (State.offers_thermalInput _ _).trans input
  have recovering : (w.offers rs).recovery = true := State.offers_recovery _ _
  obtain ⟨r, reported⟩ : ∃ r, (w.offers rs).reportThermal .shutdown = w.offers (rs ++ [r]) :=
    ⟨_, (State.offers_concat _ _ _).symm⟩
  have idle : (w.offers (rs ++ [r])).setPower { (w.offers (rs ++ [r])).power with intent := false }
      = w.offers (rs ++ [r]) := by
    have power : ({ (w.offers (rs ++ [r])).power with intent := false } : PowerUnit)
        = (w.offers (rs ++ [r])).power := by
      rw [off]
      rfl
    rw [power]
    rfl
  obtain ⟨q, shut⟩ := State.enterShutdown_of_still (off (rs ++ [r]))
    (fun x => by
      have cold := (lamps x).2.2
      rw [State.lamp_offers] at cold ⊢
      exact cold)
    (fun i => by rw [State.input_offers]; exact dormant i) ((State.offers_window _ _).trans window) .thermal
  refine ⟨rs ++ [r] ++ [q], ?_⟩
  unfold State.thermalAlarm
  dsimp only
  rw [told, State.thermalLamp_of_still (lamps .a) (waiting .a), State.thermalLamp_of_still (lamps .b) (waiting .b),
    calm]
  unfold State.tryEndRecovery State.endRecovery
  rw [if_pos ⟨recovering, by rw [cooling]; decide, by rw [off]; decide⟩, asserted, Bool.or_true, if_pos rfl]
  dsimp only
  rw [reported, idle, shut, State.offers_map State.shut (fun _ _ => rfl) w (rs ++ [r])]
  exact (State.offers_concat _ _ _).symm

end Sys2Proof.Machine
end

section
/-! PROOFS. A whole start-up, and the settlement of O26. -/

set_option Elab.async false

namespace Sys2Proof.Machine

variable {s t : State} {x : LampId} {cause : ResetCause}

/-! ## The blocks before an alarm or a resume -/

/-- The stored lit flag of a lamp (R110). -/
def State.litBefore (s : State) : LampId → Bool
  | .a => s.lampsFound.any (·.a.lit)
  | .b => s.lampsFound.any (·.b.lit)

/-- A lamp as it stands before an alarm or a resume. -/
def State.lampRestarted (s : State) (cause : ResetCause) (x : LampId) : Lamp :=
  let flagged := (s.cleared cause).flagged ((s.cleared cause).lamp x)
  if s.litBefore x then flagged.noted .uncleanOff (s.cleared cause).dateTime else flagged

/-- The blocks once the geometry has been reported and an unclean off has been noted. -/
def State.restarted (s : State) (cause : ResetCause) : State :=
  { s.cleared cause with
    conf := { (s.cleared cause).conf with
      geometry := (s.cleared cause).startValues, exceptions := (s.cleared cause).exceptionsLeft }
    level := (s.restored cause).levelNow
    lampA := s.lampRestarted cause .a
    lampB := s.lampRestarted cause .b
    scan := (s.cleared cause).startScan.scan
    geo := (s.cleared cause).startValues.inForce (s.cleared cause).sw.selected
    scaler := ((s.cleared cause).startValues.inForce (s.cleared cause).sw.selected).update
    lampWrite := if s.litBefore .a || s.litBefore .b then
        some ⟨⟨(s.lampRestarted cause .a).entry, (s.lampRestarted cause .b).entry⟩, some 200⟩
      else none }

/-- The start-up as far as UNCLEAN_OFF (R195). -/
theorem State.restarted_offers (s : State) (cause : ResetCause) :
    ∃ rs, ((s.restored cause).announce (s.startReport cause) (s.cleared cause).startGeoCause).uncleanOff
          (s.litBefore .a) (s.litBefore .b)
        = (s.restarted cause).offers (s.startReport cause :: rs) ∧ rs.length ≤ 8 := by
  have restored := s.restored_eq cause
  obtain ⟨rs, announced, six⟩ := State.announce_offers (s := s.restored cause) (by rw [restored]; rfl)
    (s.startReport cause) (s.cleared cause).startGeoCause
  obtain ⟨qs, noted, two⟩ := State.uncleanOff_offers (s := (s.restored cause).announce (s.startReport cause)
    (s.cleared cause).startGeoCause) (by rw [announced, State.offers_lampWrite, restored]; rfl) (s.litBefore .a)
    (s.litBefore .b)
  refine ⟨rs ++ qs, ?_, by simp; omega⟩
  have restarted : ((s.restored cause).counted (s.restored cause).levelNow (s.restored cause).counters
      ).updated.uncleaned (s.litBefore .a) (s.litBefore .b) = s.restarted cause := by
    unfold State.restarted
    rw [restored]
    rfl
  rw [noted, announced, State.offers_map (·.uncleaned (s.litBefore .a) (s.litBefore .b)) (fun _ _ => rfl), restarted,
    ← State.offers_append]
  rfl

/-- The blocks before a resume: SHUTDOWN where the thermal alarm input stands asserted (R119). -/
def State.resettled (s : State) (cause : ResetCause) : State :=
  if s.thermalInput then (s.restarted cause).alarmed.shut else s.restarted cause

theorem State.lamp_restarted (s : State) (cause : ResetCause) (x : LampId) :
    (s.restarted cause).lamp x = s.lampRestarted cause x := by cases x <;> rfl

theorem Lamp.started_cold (m : Lamp) (found : Option LampEntry) : (m.started found).cold := by
  refine ⟨?_, rfl, rfl⟩
  unfold Lamp.started
  dsimp only
  split
  · exact .inr rfl
  · exact .inl rfl

theorem State.lampRestarted_cold (s : State) (cause : ResetCause) (x : LampId) : (s.lampRestarted cause x).cold := by
  have started : ((s.cleared cause).lamp x).cold := by
    cases x
    · exact Lamp.started_cold _ _
    · exact Lamp.started_cold _ _
  unfold State.lampRestarted
  dsimp only
  split <;> exact started

theorem State.lampRestarted_waiting (s : State) (cause : ResetCause) (x : LampId) :
    (s.lampRestarted cause x).waiting = false := by
  unfold State.lampRestarted
  cases x <;> (dsimp only; split <;> rfl)

theorem State.restarted_cold (s : State) (cause : ResetCause) : (s.restarted cause).cold :=
  ⟨fun x => by rw [State.lamp_restarted]; exact s.lampRestarted_cold cause x, rfl⟩

theorem State.restarted_input (s : State) (cause : ResetCause) (i : InputId) :
    (s.restarted cause).input i = InputRecord.fresh := s.cleared_input cause i

theorem State.restarted_quiet (s : State) (cause : ResetCause) : (s.restarted cause).quiet where
  steady := rfl
  driven := rfl
  watch := rfl
  grace := rfl
  signals i := by
    rw [s.restarted_input]
    decide
  picture := GeoValues.filled_inForce (State.startValues_convex _) _
  scaler := rfl
  idle := rfl
  dark := ⟨nofun, nofun⟩

theorem State.offers_cold (rs : List Report) (h : s.cold) : (s.offers rs).cold :=
  ⟨fun x => by rw [State.lamp_offers]; exact h.1 x, by rw [State.offers_fan, State.offers_recovery]; exact h.2⟩

theorem State.startUp_eq (s : State) (cause : ResetCause) :
    ∃ rs, s.startUp cause
        = ((s.resettled cause).offers (s.startReport cause :: rs)).resume cause (s.litBefore .a || s.litBefore .b)
      ∧ (s.thermalInput = false → rs.length ≤ 8) := by
  obtain ⟨rs, told, few⟩ := s.restarted_offers cause
  have input (qs : List Report) : ((s.restarted cause).offers qs).thermalInput = s.thermalInput :=
    State.offers_thermalInput _ _
  change (s.restored cause |>.announce _ _ |>.uncleanOff (s.lampsFound.any (·.a.lit)) (s.lampsFound.any (·.b.lit)))
    = _ at told
  unfold State.startUp State.resettled
  dsimp only
  rw [told, input]
  cases alarm : s.thermalInput with
  | false => exact ⟨rs, rfl, fun _ => few⟩
  | true =>
    obtain ⟨qs, alarmed⟩ := State.cold.thermalAlarm
      (State.offers_cold (s.startReport cause :: rs) (s.restarted_cold cause))
      (fun x => by rw [State.lamp_offers, State.lamp_restarted]; exact s.lampRestarted_waiting cause x)
      ((input _).trans alarm) (State.offers_power _ _)
      (fun i => by rw [State.input_offers, State.restarted_input]; rfl) (State.offers_window _ _)
    refine ⟨rs ++ qs, ?_, nofun⟩
    rw [if_pos rfl, if_pos rfl, alarmed, State.offers_map (·.alarmed.shut) (fun _ _ => rfl), ← State.offers_append]
    rfl

/-! ## The blocks before a resume -/

/-- The power state before a resume (R119). -/
def State.stateBefore (s : State) : PowerState := if s.thermalInput then .shutdown else .standby

theorem State.resettled_frame (s : State) (cause : ResetCause) :
    s.resettled cause = { s.restarted cause with
      lampA := (s.resettled cause).lampA, lampB := (s.resettled cause).lampB, recovery := s.thermalInput
      fan := s.thermalInput, power := .begun s.stateBefore, scan := (s.resettled cause).scan } := by
  unfold State.resettled State.stateBefore
  cases s.thermalInput <;> rfl

theorem State.resettled_power (s : State) (cause : ResetCause) :
    (s.resettled cause).power = .begun s.stateBefore := by rw [State.resettled_frame]

/-- A lamp before a resume: an alarm is noted where the thermal alarm input stands asserted. -/
theorem State.lamp_resettled (s : State) (cause : ResetCause) (x : LampId) :
    (s.resettled cause).lamp x
      = if s.thermalInput then (s.lampRestarted cause x).noted .thermal (s.restarted cause).dateTime
        else s.lampRestarted cause x := by
  unfold State.resettled
  cases s.thermalInput <;> cases x <;> rfl

theorem State.resettled_quiet (s : State) (cause : ResetCause) : (s.resettled cause).quiet := by
  have quiet := s.restarted_quiet cause
  unfold State.resettled
  split
  · have noted : (s.restarted cause).alarmed.quiet := quiet.of_same quiet.signals
    exact { noted with idle := rfl, dark := ⟨nofun, nofun⟩ }
  · exact quiet

theorem State.resettled_cold (s : State) (cause : ResetCause) : (s.resettled cause).cold := by
  have cold := s.restarted_cold cause
  unfold State.resettled
  split
  · refine ⟨fun x => ?_, rfl⟩
    cases x
    · exact (cold.1 .a).noted _ _
    · exact (cold.1 .b).noted _ _
  · exact cold

/-- A resume is the last stage of a start-up, and changes no more than it may. -/
theorem State.startUp_resumed (s : State) (cause : ResetCause) :
    ∃ rs, ((s.resettled cause).offers (s.startReport cause :: rs)).resumed (s.startUp cause) := by
  obtain ⟨rs, stages, -⟩ := s.startUp_eq cause
  let begun := s.startReport cause :: rs
  have power : ((s.resettled cause).offers begun).power = .begun s.stateBefore := by
    rw [State.offers_power, State.resettled_power]
  refine ⟨rs, ?_⟩
  rw [stages]
  refine ((s.resettled_quiet cause).offers begun).resume (State.offers_cold begun (s.resettled_cold cause))
    (by rw [power]; rfl) ?_ cause _
  rw [power, State.offers_recovery, State.resettled_frame]
  unfold State.stateBefore
  cases s.thermalInput
  · exact .inl ⟨rfl, rfl⟩
  · exact .inr rfl

/-- What a start-up puts in place whatever a resume does. -/
theorem State.startUp_frame (s : State) (cause : ResetCause) :
    s.startUp cause = { s.restarted cause with
      control := (s.startUp cause).control, lectern := (s.startUp cause).lectern, level := (s.startUp cause).level
      counters := (s.startUp cause).counters, lampA := (s.startUp cause).lampA, lampB := (s.startUp cause).lampB
      recovery := s.thermalInput, fan := s.thermalInput, inputs := (s.startUp cause).inputs
      power := (s.startUp cause).power, scan := (s.startUp cause).scan } := by
  obtain ⟨rs, resumed⟩ := s.startUp_resumed cause
  have rest := resumed.rest
  rw [State.offers_frame, s.resettled_frame] at rest
  exact rest

/-! ## The links after a start-up (R15, R195, R196) -/

/-- The START report of a start-up. -/
def State.startOf (s : State) (cause : ResetCause) : StartReport :=
  { cause := cause, settingsDefaulted := s.settingsFound.isNone, lampDefaulted := s.lampsFound.isNone
    clockKept := cause.keepsClock && s.clock.isSome, litA := s.litBefore .a, litB := s.litBefore .b }

/-- A link right after START has been offered. -/
def LinkState.begun (r : StartReport) : LinkState :=
  { LinkState.fresh with sequence := 1, sending := some (.report 1 (.start r)) }

theorem State.link_offer_start (s : State) (cause : ResetCause) (l : Link) :
    ((s.resettled cause).offer (s.startReport cause)).link l = .begun (s.startOf cause) := by
  have fresh : (s.resettled cause).link l = LinkState.fresh := by
    rw [s.resettled_frame]
    cases l <;> rfl
  rw [State.link_offer, fresh]
  exact LinkState.fresh_offer_start _ (s.startOf cause)

theorem State.startUp_opened (s : State) (cause : ResetCause) (l : Link) :
    ((s.startUp cause).link l).opened (.report 1 (.start (s.startOf cause))) := by
  obtain ⟨rs, resumed⟩ := s.startUp_resumed cause
  obtain ⟨qs, frame⟩ := resumed.frame
  rw [frame]
  refine State.link_offers_opened qs ?_
  have before : (((s.resettled cause).offers (s.startReport cause :: rs)).link l).opened
      (.report 1 (.start (s.startOf cause))) := by
    refine State.link_offers_opened (s := (s.resettled cause).offer (s.startReport cause)) rs ?_
    rw [s.link_offer_start]
    exact ⟨rfl, rfl, rfl, rfl, rfl, rfl, rfl, rfl⟩
  cases l <;> exact before

/-- A resume is due after a supply that failed with a lamp lit, while item 32 asks for it (R176). -/
def State.resumeDue (s : State) (cause : ResetCause) : Prop :=
  (s.litBefore .a || s.litBefore .b) = true ∧ ¬cause.keepsClock = true ∧ (s.cleared cause).item 32 ≠ 0

/-- Without a resume a start-up ends with its reports, eight at most after START where no alarm is taken. -/
theorem State.startUp_of_not_due (not_due : ¬s.resumeDue cause) :
    ∃ rs, s.startUp cause = (s.resettled cause).offers (s.startReport cause :: rs)
      ∧ (s.thermalInput = false → rs.length ≤ 8) := by
  obtain ⟨rs, stages, few⟩ := s.startUp_eq cause
  refine ⟨rs, stages.trans (State.resume_of_not_due ?_), few⟩
  rw [State.item_offers, s.resettled_frame]
  exact not_due

theorem State.startUp_lost_nothing (not_due : ¬s.resumeDue cause) (cool : s.thermalInput = false) (l : Link) :
    ((s.startUp cause).link l).lost = false := by
  obtain ⟨rs, stages, few⟩ := State.startUp_of_not_due not_due
  rw [stages]
  refine State.link_offers_hasPlaces (s := (s.resettled cause).offer (s.startReport cause)) rs (few cool) ?_
  rw [s.link_offer_start]
  exact ⟨rfl, rfl, show 0 + 8 ≤ 16 by decide⟩

/-! ## The lamps after a start-up (R92, R102, R104, R110) -/

/-- A lamp that has perhaps been called, from one that was not. -/
theorem Lamp.eq_of_answering {m n : Lamp} {limit cap : Nat} (h : n = m ∨ n = m.answering limit cap)
    (still : m.called = false ∧ m.waiting = false) (unset : m.attempts = 0 ∧ m.limit = 0 ∧ m.cap = 0) :
    n = { m with
      called := n.called, waiting := n.called, limit := if n.called = true then limit else 0
      cap := if n.called = true then cap else 0 } := by
  obtain ⟨called, waiting⟩ := still
  obtain ⟨attempts, no_limit, no_cap⟩ := unset
  have left : m = { m with
      called := m.called, waiting := m.called, limit := if m.called = true then limit else 0
      cap := if m.called = true then cap else 0 } := by
    cases m
    simp_all
  rcases h with rfl | answered
  · exact left
  · unfold Lamp.answering at answered
    split at answered
    · rw [answered]
      simp [attempts]
    · rw [answered]
      exact left

/-- What the lamp record holds for a lamp, as a start-up finds it (R191). -/
def State.entryFound (s : State) : LampId → Option LampEntry
  | .a => s.lampsFound.map (·.a)
  | .b => s.lampsFound.map (·.b)

theorem State.litBefore_eq (s : State) (x : LampId) : s.litBefore x = (s.entryFound x).elim false (·.lit) := by
  cases x <;> (unfold State.litBefore State.entryFound; cases s.lampsFound <;> rfl)

theorem State.lamp_cleared (s : State) (cause : ResetCause) (x : LampId) :
    (s.cleared cause).lamp x = (s.lamp x).started (s.entryFound x) := by cases x <;> rfl

/-- A lamp before an alarm or a resume, field by field but for its history. -/
theorem State.lampRestarted_eq (s : State) (cause : ResetCause) (x : LampId) :
    s.lampRestarted cause x =
      { state := if (s.entryFound x).elim false (·.out) = true then .out else .hot
        demand := .off, called := false, pendingOff := false, waiting := false
        out := (s.entryFound x).elim false (·.out), attempts := 0, limit := 0, cap := 0, since := 0, timer := none
        strikeCount := (s.entryFound x).elim 0 (·.strikeCount), wear := (s.entryFound x).elim 0 (·.wear)
        fraction := 0, litSeconds := 0
        warning := decide (((s.cleared cause).conf.items.get 11 - (s.cleared cause).conf.items.get 12) * 43200
          ≤ (s.entryFound x).elim 0 (·.wear))
        endOfLife := decide ((s.cleared cause).conf.items.get 11 * 43200 ≤ (s.entryFound x).elim 0 (·.wear))
        expired := decide (((s.cleared cause).conf.items.get 11 + (s.cleared cause).conf.items.get 13) * 43200
          ≤ (s.entryFound x).elim 0 (·.wear))
        wearUnknown := (s.entryFound x).elim true (·.wearUnknown), wakeLate := (s.entryFound x).elim 0 (·.wakeLate)
        wakeTimer := none, history := (s.lampRestarted cause x).history, faultLine := (s.lamp x).faultLine
        atLevelLine := (s.lamp x).atLevelLine } := by
  unfold State.lampRestarted
  rw [State.lamp_cleared]
  dsimp only
  split <;> cases s.entryFound x <;> rfl

theorem State.lampRestarted_history (s : State) (cause : ResetCause) (x : LampId) :
    (s.lampRestarted cause x).history
      = if s.litBefore x = true then
          ((⟨.uncleanOff, .note, (s.lampRestarted cause x).state, (s.entryFound x).elim 0 (·.wear),
            (s.clockFound cause).map (·.now)⟩ : Incident) :: (s.entryFound x).elim [] (·.history)).take 4
        else (s.entryFound x).elim [] (·.history) := by
  unfold State.lampRestarted
  rw [State.lamp_cleared]
  dsimp only
  split <;> rfl

/-- A lamp after a start-up: as it stood before the resume, but for the call. -/
theorem State.lamp_startUp (s : State) (cause : ResetCause) (x : LampId) :
    (s.startUp cause).lamp x = { (s.resettled cause).lamp x with
      called := ((s.startUp cause).lamp x).called, waiting := ((s.startUp cause).lamp x).called
      limit := if ((s.startUp cause).lamp x).called = true then (s.cleared cause).conf.items.get 9 else 0
      cap := if ((s.startUp cause).lamp x).called = true then (s.cleared cause).conf.items.get 10 else 0 } := by
  obtain ⟨rs, resumed⟩ := s.startUp_resumed cause
  have called := resumed.lamps x
  rw [State.lamp_offers, State.item_offers, State.item_offers, State.item, State.item] at called
  have items : (s.resettled cause).conf.items = (s.cleared cause).conf.items := by rw [s.resettled_frame]; rfl
  rw [items] at called
  refine Lamp.eq_of_answering called ?_ ?_
  · rw [s.lamp_resettled, s.lampRestarted_eq]
    split <;> exact ⟨rfl, rfl⟩
  · rw [s.lamp_resettled, s.lampRestarted_eq]
    split <;> exact ⟨rfl, rfl, rfl⟩

/-! ## Level, counters, inputs and scan groups (R55, R119, R160, R177, R189) -/

theorem State.restored_levelNow (s : State) (cause : ResetCause) :
    (s.restored cause).levelNow
      = if (s.cleared cause).conf.items.get 39 = 0 then (s.cleared cause).level
        else ((s.clockFound cause).bind fun d => (s.restarted cause).conf.levelAt d.now).getD
          (s.cleared cause).level := by
  rw [s.restored_eq]
  rfl

/-- Without a kept clock the level is the start level. -/
theorem State.level_of_no_clock (no_clock : s.clockFound cause = none) :
    (s.restored cause).levelNow = (s.cleared cause).level := by
  rw [s.restored_levelNow, no_clock]
  exact ite_self _

theorem State.resettled_level (s : State) (cause : ResetCause) :
    (s.resettled cause).level = (s.restored cause).levelNow := by
  rw [s.resettled_frame]
  rfl

theorem State.resettled_counter (s : State) (cause : ResetCause) (i : RuleId) :
    (s.resettled cause).counters.get i = ((s.cleared cause).conf.rules.get i).loaded := by
  rw [s.resettled_frame]
  show ((s.cleared cause).conf.rules.map Rule.loaded)[i.val] = _
  exact Vector.getElem_map ..

theorem State.resettled_input (s : State) (cause : ResetCause) (i : InputId) :
    (s.resettled cause).input i = InputRecord.fresh := by
  rw [s.resettled_frame]
  exact s.restarted_input cause i

/-- Both scan groups run from their intervals (R172, R177). -/
theorem State.startScan_get (s : State) (g : GroupId) :
    s.startScan.scan.get g = ⟨some (s.scanIntervalMs g), Vector.replicate 8 0⟩ := by
  unfold State.startScan State.startGroup
  obtain rfl | rfl : g = 1 ∨ g = 0 := by
    revert g
    decide
  · exact vector_get_set_same _ 1 _
  · exact (vector_get_set_other _ (i := 1) (j := 0) (by decide) _).trans (vector_get_set_same _ 0 _)

theorem State.lamp_resettled_called (s : State) (cause : ResetCause) (x : LampId) :
    ((s.resettled cause).lamp x).called = false := by
  rw [s.lamp_resettled, s.lampRestarted_eq]
  split <;> rfl

/-- In STANDBY without an alarm (R160). -/
theorem State.startUp_standby (not_due : ¬s.resumeDue cause) (cool : s.thermalInput = false) :
    (s.startUp cause).power = .begun .standby
      ∧ (∀ i, (s.startUp cause).input i = InputRecord.fresh)
      ∧ (∀ g, (s.startUp cause).scan.get g = ⟨some ((s.startUp cause).scanIntervalMs g), Vector.replicate 8 0⟩)
      ∧ ∀ x, ((s.startUp cause).lamp x).called = false := by
  obtain ⟨rs, stages, -⟩ := State.startUp_of_not_due not_due
  rw [stages]
  refine ⟨?_, fun i => ?_, fun g => ?_, fun x => ?_⟩
  · rw [State.offers_power, s.resettled_power, State.stateBefore, cool]
    rfl
  · rw [State.input_offers, s.resettled_input]
  · have resettled : s.resettled cause = s.restarted cause := by rw [State.resettled, cool, if_neg (by decide)]
    rw [State.offers_scan, resettled, State.scanIntervalMs, State.item_offers]
    exact (s.cleared cause).startScan_get g
  · rw [State.lamp_offers, s.lamp_resettled_called]

/-- In SHUTDOWN after an alarm, whatever a resume asks for (R119). -/
theorem State.startUp_shutdown (s : State) (cause : ResetCause) (alarm : s.thermalInput = true) :
    (s.startUp cause).power = .begun .shutdown
      ∧ (∀ i, (s.startUp cause).input i = InputRecord.fresh)
      ∧ (∀ g, (s.startUp cause).scan.get g = ⟨none, Vector.replicate 8 0⟩)
      ∧ ∀ x, ((s.startUp cause).lamp x).called = false := by
  obtain ⟨rs, stages, -⟩ := s.startUp_eq cause
  have shutdown : ((s.resettled cause).offers (s.startReport cause :: rs)).power.state = .shutdown := by
    rw [State.offers_power, s.resettled_power, State.stateBefore, alarm]
    rfl
  obtain ⟨v, c, qs, last⟩ : ∃ v c qs, s.startUp cause
      = (((s.resettled cause).offers (s.startReport cause :: rs)).counted v c).offers qs := by
    rw [stages]
    unfold State.resume
    split
    · exact State.unlinked_powerOn_of_shutdown shutdown
    · exact ⟨_, _, [], rfl⟩
  rw [last, State.counted_offers, ← State.offers_append]
  have resettled : s.resettled cause = (s.restarted cause).alarmed.shut := by rw [State.resettled, alarm, if_pos rfl]
  refine ⟨?_, fun i => ?_, fun g => ?_, fun x => ?_⟩
  · rw [State.offers_power, resettled]
    rfl
  · rw [State.input_offers]
    exact s.resettled_input cause i
  · rw [State.offers_scan, resettled]
    exact vector_get_replicate _ g
  · rw [State.lamp_offers]
    have called := s.lamp_resettled_called cause x
    cases x <;> exact called

/-! ## A resume with both lamps available (R85, R86, R162, R176) -/

/-- Both lamps are in HOT, available, uncalled and not waiting. -/
def State.ready (s : State) : Prop :=
  ∀ x, (s.lamp x).available = true ∧ (s.lamp x).state = .hot ∧ (s.lamp x).waiting = false ∧ (s.lamp x).called = false

theorem State.ready.lamp_called (h : s.ready) (xs : List LampId) (x : LampId) :
    (s.called xs).lamp x = if x ∈ xs then { s.lamp x with
        called := true, waiting := true, attempts := 0, limit := s.item 9, cap := s.item 10 }
      else s.lamp x := by
  obtain ⟨available, hot, still, -⟩ := h x
  have answered : (s.lamp x).answering (s.item 9) (s.item 10) = { s.lamp x with
      called := true, waiting := true, attempts := 0, limit := s.item 9, cap := s.item 10 } :=
    if_pos ⟨available, hot, still⟩
  rw [State.lamp_called, answered]

theorem State.ready.called_called (h : s.ready) (xs : List LampId) (x : LampId) :
    ((s.called xs).lamp x).called = decide (x ∈ xs) := by
  obtain ⟨-, -, -, uncalled⟩ := h x
  rw [h.lamp_called]
  split <;> simp [*]

/-- A criterion that does not separate the lamps leaves the choice to the rest (R86). -/
theorem prefer_of_same {c : LampId → Bool} (same : c .a = c .b) (rest : LampId) : prefer c rest = rest := by
  unfold prefer
  rw [same]
  cases c .b <;> rfl

/-- Of two lamps that are ready ALTERNATE calls the one of lower wear, lamp A where they are equal (R86). -/
theorem State.ready.lampToCall (h : s.ready) (unstruck : s.lastStruck = none) :
    s.lampToCall = if (s.lamp .b).wear < (s.lamp .a).wear then .b else .a := by
  obtain ⟨available, hot, -⟩ := h .a
  obtain ⟨available', hot', -⟩ := h .b
  have last : prefer (fun x => s.lastStruck != some x) .a = .a := prefer_of_same (by rw [unstruck]; rfl) _
  unfold State.lampToCall State.preferByWear
  rw [prefer_of_same (available.trans available'.symm), prefer_of_same (by rw [hot, hot']; rfl),
    prefer_of_same (by rw [hot, hot']), last]
  unfold prefer
  by_cases worn : (s.lamp .b).wear < (s.lamp .a).wear
  · simp [otherLamp, worn, worn.asymm]
  · simp [otherLamp, worn]

/-- The lamps that a plan calls where both are ready (R85). -/
def Plan.callsOf (p : Plan) (wearA wearB : Nat) : LampId → Bool := fun x =>
  match p with
  | .dual => true
  | .fixedA => decide (x = .a)
  | .fixedB => decide (x = .b)
  | .alternate => decide (x = if wearB < wearA then LampId.b else .a)

theorem State.ready.mem_planLamps (h : s.ready) (unstruck : s.lastStruck = none) (x : LampId) :
    decide (x ∈ s.planLamps) = s.conf.plan.callsOf (s.lamp .a).wear (s.lamp .b).wear x := by
  unfold State.planLamps Plan.callsOf
  cases s.conf.plan with
  | dual => cases x <;> rfl
  | alternate =>
    dsimp only
    rw [h.lampToCall unstruck]
    simp
  | fixedA | fixedB => cases x <;> rfl

theorem State.ready.calledSignal (h : s.ready) : (s.called s.planLamps).calledSignal = .none := by
  have a : (s.called s.planLamps).lampA.called = decide (.a ∈ s.planLamps) := h.called_called _ .a
  have b : (s.called s.planLamps).lampB.called = decide (.b ∈ s.planLamps) := h.called_called _ .b
  unfold State.calledSignal State.calledCount
  rw [a, b, show (s.called s.planLamps).conf = s.conf from rfl]
  unfold State.planLamps
  cases plan : s.conf.plan with
  | alternate => cases s.lampToCall <;> rfl
  | dual | fixedA | fixedB => rfl

/-! ## A resume that the matrix decides (R176) -/

theorem State.clockFound_of_due (due : s.resumeDue cause) : s.clockFound cause = none := if_neg due.2.1

/-- A due resume under the matrix alone: denied, nothing follows; permitted, POWER_ON is taken. -/
theorem State.startUp_of_due (due : s.resumeDue cause) (cool : s.thermalInput = false)
    (none_set : (s.cleared cause).conf.ruleSet .auto = 0) :
    ∃ rs, s.startUp cause =
      if ((s.cleared cause).conf.cell (s.cleared cause).level .auto).permit = true then
        (((s.resettled cause).offers (s.startReport cause :: rs)).startUpLamps
          ⟨.auto, ((s.cleared cause).conf.cell (s.cleared cause).level .auto).priority, none⟩).2
      else (s.resettled cause).offers (s.startReport cause :: rs) := by
  obtain ⟨rs, stages, -⟩ := s.startUp_eq cause
  refine ⟨rs, stages.trans ?_⟩
  let u := (s.resettled cause).offers (s.startReport cause :: rs)
  have level : u.level = (s.cleared cause).level := by
    rw [State.offers_level, s.resettled_level, State.level_of_no_clock (State.clockFound_of_due due)]
  have cell : u.conf.cell u.level .auto = (s.cleared cause).conf.cell (s.cleared cause).level .auto := by
    rw [level, State.offers_conf, s.resettled_frame]
    rfl
  have rules : u.conf.ruleSet .auto = 0 := by
    rw [State.offers_conf, s.resettled_frame]
    exact none_set
  have item : u.item 32 = (s.cleared cause).item 32 := by
    rw [State.item_offers, s.resettled_frame]
    rfl
  have recovery : u.recovery = false := by
    rw [State.offers_recovery, s.resettled_frame]
    exact cool
  have standby : u.power.state = .standby := by
    rw [State.offers_power, s.resettled_power, State.stateBefore, cool]
    rfl
  rw [← cell]
  split
  · rename_i permitted
    exact State.resume_of_permitted ⟨due.1, due.2.1, by rw [item]; exact due.2.2⟩ rules permitted standby recovery
  · rename_i denied
    exact State.resume_of_denied rules (Bool.eq_false_iff.mpr denied)

/-- POWER_ON from STANDBY at rest evaluates nothing. -/
theorem State.quiet.startUpLamps_policy (h : s.quiet) (cold : s.cold) (standby : s.power.state = .standby)
    (sound : s.power.degraded = false) (a : Asker) :
    (s.startUpLamps a).2.level = s.level ∧ (s.startUpLamps a).2.counters = s.counters := by
  obtain ⟨rs, outcome⟩ := h.startUpLamps cold standby sound a
  split at outcome
  · rw [outcome]
    exact ⟨State.offers_level _ _, State.offers_counters _ _⟩
  · obtain ⟨v, started, -⟩ := outcome
    rw [started]
    exact ⟨State.offers_level _ _, State.offers_counters _ _⟩

/-- The blocks before a resume, with the reports so far, are at rest in STANDBY where no alarm is taken. -/
theorem State.resettled_rest (s : State) (cause : ResetCause) (cool : s.thermalInput = false) (rs : List Report) :
    ((s.resettled cause).offers rs).quiet ∧ ((s.resettled cause).offers rs).cold
      ∧ ((s.resettled cause).offers rs).power = .begun .standby := by
  refine ⟨(s.resettled_quiet cause).offers rs, State.offers_cold rs (s.resettled_cold cause), ?_⟩
  rw [State.offers_power, s.resettled_power, State.stateBefore, cool]
  rfl

/-- The level and the counters after a due resume under the matrix alone. -/
theorem State.startUp_policy_of_due (due : s.resumeDue cause) (cool : s.thermalInput = false)
    (none_set : (s.cleared cause).conf.ruleSet .auto = 0) :
    (s.startUp cause).level = (s.cleared cause).level
      ∧ ∀ i, (s.startUp cause).counters.get i = ((s.cleared cause).conf.rules.get i).loaded := by
  obtain ⟨rs, stages⟩ := State.startUp_of_due due cool none_set
  obtain ⟨quiet, cold, power⟩ := s.resettled_rest cause cool (s.startReport cause :: rs)
  have kept : (s.startUp cause).level = (s.resettled cause).level
      ∧ (s.startUp cause).counters = (s.resettled cause).counters := by
    rw [stages]
    split
    · obtain ⟨level, counters⟩ := quiet.startUpLamps_policy cold (by rw [power]; rfl) (by rw [power]; rfl) _
      exact ⟨level.trans (State.offers_level _ _), counters.trans (State.offers_counters _ _)⟩
    · exact ⟨State.offers_level _ _, State.offers_counters _ _⟩
  obtain ⟨level, counters⟩ := kept
  refine ⟨?_, fun i => by rw [counters, s.resettled_counter]⟩
  rw [level, s.resettled_level, State.level_of_no_clock (State.clockFound_of_due due)]

/-- A due resume that the matrix denies leaves the projector in STANDBY. -/
theorem State.startUp_of_denied (due : s.resumeDue cause) (cool : s.thermalInput = false)
    (none_set : (s.cleared cause).conf.ruleSet .auto = 0)
    (denied : ((s.cleared cause).conf.cell (s.cleared cause).level .auto).permit = false) :
    (s.startUp cause).power.state = .standby ∧ (s.startUp cause).power.intent = false
      ∧ ∀ x, ((s.startUp cause).lamp x).called = false := by
  obtain ⟨rs, stages⟩ := State.startUp_of_due due cool none_set
  obtain ⟨-, -, power⟩ := s.resettled_rest cause cool (s.startReport cause :: rs)
  rw [stages, denied, if_neg (by decide), power]
  exact ⟨rfl, rfl, fun x => by rw [State.lamp_offers, s.lamp_resettled_called]⟩

/-- A due resume that the matrix permits, with both lamps available, starts the projector (R162, R165). -/
theorem State.startUp_of_permitted (due : s.resumeDue cause) (cool : s.thermalInput = false)
    (none_set : (s.cleared cause).conf.ruleSet .auto = 0)
    (permitted : ((s.cleared cause).conf.cell (s.cleared cause).level .auto).permit = true)
    (ready : (s.resettled cause).ready) :
    (s.startUp cause).power.state = .starting ∧ (s.startUp cause).power.intent = true
      ∧ (s.startUp cause).power.intentClass = some .auto
      ∧ (s.startUp cause).power.intentPriority
        = ((s.cleared cause).conf.cell (s.cleared cause).level .auto).priority
      ∧ (s.startUp cause).power.degraded = false
      ∧ (∀ i, (s.startUp cause).input i = { InputRecord.fresh with signal := .acquiring, acquire := some 4000 })
      ∧ (∀ g, (s.startUp cause).scan.get g = ⟨none, Vector.replicate 8 0⟩)
      ∧ ∀ x, ((s.startUp cause).lamp x).called
          = (s.cleared cause).conf.plan.callsOf ((s.startUp cause).lamp .a).wear ((s.startUp cause).lamp .b).wear x
        ∧ ((s.cleared cause).conf.plan.callsOf ((s.startUp cause).lamp .a).wear
            ((s.startUp cause).lamp .b).wear x = true →
          ((s.startUp cause).lamp x).attempts = 0
          ∧ ((s.startUp cause).lamp x).limit = (s.cleared cause).conf.items.get 9
          ∧ ((s.startUp cause).lamp x).cap = (s.cleared cause).conf.items.get 10) := by
  obtain ⟨rs, stages⟩ := State.startUp_of_due due cool none_set
  obtain ⟨quiet, cold, power⟩ := s.resettled_rest cause cool (s.startReport cause :: rs)
  let u := (s.resettled cause).offers (s.startReport cause :: rs)
  have ready' : u.ready := fun x => by
    have lamp : u.lamp x = (s.resettled cause).lamp x := State.lamp_offers _ _ _
    rw [lamp]
    exact ready x
  obtain ⟨qs, outcome⟩ := quiet.startUpLamps cold (by rw [power]; rfl) (by rw [power]; rfl)
    ⟨.auto, ((s.cleared cause).conf.cell (s.cleared cause).level .auto).priority, none⟩
  have signal := ready'.calledSignal
  rw [signal, if_neg (by decide)] at outcome
  obtain ⟨v, started, acquired⟩ := outcome
  rw [if_pos permitted, started] at stages
  have lamp (x : LampId) : (s.startUp cause).lamp x = (u.called u.planLamps).lamp x := by
    rw [stages, State.lamp_offers]
    cases x <;> rfl
  have wear (x : LampId) : ((s.startUp cause).lamp x).wear = (u.lamp x).wear := by
    rw [lamp, ready'.lamp_called]
    split <;> rfl
  have conf : u.conf.plan = (s.cleared cause).conf.plan ∧ u.conf.items = (s.cleared cause).conf.items := by
    rw [State.offers_conf, s.resettled_frame]
    exact ⟨rfl, rfl⟩
  have unstruck : u.lastStruck = none := by
    rw [State.offers_lastStruck, s.resettled_frame]
    rfl
  refine ⟨?_, ?_, ?_, ?_, ?_, fun i => ?_, fun g => ?_, fun x => ⟨?_, fun called => ?_⟩⟩
  iterate 5
    rw [stages, State.offers_power]
    rfl
  · rw [stages, State.input_offers, show (State.starting _ v).input i = v.get i from rfl, acquired, State.input_offers,
      s.resettled_input]
    rfl
  · rw [stages, State.offers_scan]
    exact vector_get_replicate _ g
  · rw [wear, wear, lamp, ready'.called_called, ready'.mem_planLamps unstruck, conf.1]
  · rw [wear, wear, ← conf.1, ← ready'.mem_planLamps unstruck, decide_eq_true_eq] at called
    rw [lamp, ready'.lamp_called, if_pos called, State.item, State.item, conf.2]
    exact ⟨rfl, rfl, rfl⟩

/-! ## What the statement reads of a start-up -/

theorem State.state_startUp (s : State) (cause : ResetCause) (x : LampId) :
    ((s.startUp cause).lamp x).state = (s.lampRestarted cause x).state := by
  rw [s.lamp_startUp, s.lamp_resettled]
  split <;> rfl

theorem State.wear_startUp (s : State) (cause : ResetCause) (x : LampId) :
    ((s.startUp cause).lamp x).wear = (s.entryFound x).elim 0 (·.wear) := by
  rw [s.lamp_startUp, s.lamp_resettled, s.lampRestarted_eq]
  split <;> rfl

theorem State.out_startUp (s : State) (cause : ResetCause) (x : LampId) :
    ((s.startUp cause).lamp x).out = (s.entryFound x).elim false (·.out) := by
  rw [s.lamp_startUp, s.lamp_resettled, s.lampRestarted_eq]
  split <;> rfl

/-- Both lamps are ready before a resume when neither is out or worn to its expiry. -/
theorem State.resettled_ready (s : State) (cause : ResetCause) (cool : s.thermalInput = false)
    (available : ∀ x, ((s.startUp cause).lamp x).out = false ∧ ((s.startUp cause).lamp x).wear
      < ((s.cleared cause).conf.items.get 11 + (s.cleared cause).conf.items.get 13) * 43200) :
    (s.resettled cause).ready := by
  intro x
  obtain ⟨not_out, unexpired⟩ := available x
  rw [s.out_startUp] at not_out
  rw [s.wear_startUp] at unexpired
  rw [s.lamp_resettled, cool, if_neg (by decide), s.lampRestarted_eq]
  dsimp only [Lamp.available]
  rw [not_out, decide_eq_false (Nat.not_le_of_lt unexpired), if_neg (by decide)]
  exact ⟨rfl, rfl, rfl, rfl⟩

theorem State.clock_startUp (s : State) (cause : ResetCause) : (s.startUp cause).clock = s.clockFound cause :=
  congrArg State.clock (s.startUp_frame cause)

/-- A lamp write of a start-up carries the lamps as they stand but for what an alarm notes later. -/
theorem State.entry_startUp (s : State) (cause : ResetCause) (x : LampId) :
    { ((s.startUp cause).lamp x).entry with history := (s.lampRestarted cause x).history }
      = (s.lampRestarted cause x).entry := by
  rw [s.lamp_startUp, s.lamp_resettled]
  split <;> rfl

theorem State.conf_startUp (s : State) (cause : ResetCause) :
    (s.startUp cause).conf = { (s.cleared cause).conf with
      geometry := (s.cleared cause).startValues
      exceptions := match (s.startUp cause).clock with
        | none => (s.cleared cause).conf.exceptions
        | some d => (s.cleared cause).conf.exceptions.filter fun e => !e.date.before d.now.date } := by
  have conf : (s.startUp cause).conf = (s.restarted cause).conf := by rw [s.startUp_frame]
  rw [conf, s.clock_startUp]
  unfold State.restarted State.exceptionsLeft
  rw [State.cleared_clock]
  cases s.clockFound cause <;> rfl

theorem State.timers_startUp (s : State) (cause : ResetCause) :
    (s.startUp cause).power.idleExpired = false ∧ (s.startUp cause).power.idle = none
      ∧ (s.startUp cause).power.autoOff = none := by
  obtain ⟨rs, resumed⟩ := s.startUp_resumed cause
  obtain ⟨idle, autoOff, expired⟩ := resumed.timers
  rw [expired, idle, autoOff, State.offers_power, s.resettled_power]
  exact ⟨rfl, rfl, rfl⟩

theorem State.cleared_conf (s : State) (cause : ResetCause) :
    (s.cleared cause).conf
      = if s.settingsWrite.isSome then Stored.defaults else s.nvSettings.getD Stored.defaults := by
  show s.settingsFound.getD Stored.defaults = _
  unfold State.settingsFound
  split <;> rfl

theorem State.settingsFound_isNone (s : State) :
    s.settingsFound.isNone = (s.settingsWrite.isSome || s.nvSettings.isNone) := by
  unfold State.settingsFound
  cases s.settingsWrite <;> simp

theorem ResetCause.keepsClock_eq (cause : ResetCause) :
    decide (cause = .resetLine ∨ cause = .restart) = cause.keepsClock := by cases cause <;> rfl

theorem State.resumeDue_iff (s : State) (cause : ResetCause) :
    ((s.litBefore .a || s.litBefore .b) && !cause.keepsClock && decide ((s.cleared cause).conf.items.get 32 ≠ 0)) = true
      ↔ s.resumeDue cause := by
  simp only [State.resumeDue, State.item, Bool.and_eq_true, Bool.not_eq_true', decide_eq_true_eq, and_assoc,
    Bool.not_eq_true]

/-- A millisecond of a clock that counts with no minute start taken (R178). -/
theorem Clock.nextMs_eq (d : Clock) :
    d.nextMs = if d.ms < 999 then some { d with ms := d.ms + 1 }
      else if d.now.second < 59 then some ⟨{ d.now with second := d.now.second + 1 }, 0⟩
      else if d.now.date = ⟨2099, 12, 31⟩ ∧ d.now.hour = 23 ∧ d.now.minute = 59 then none
      else some ⟨d.now.nextMinute, 0⟩ := by
  unfold Clock.nextMs Clock.tick
  by_cases within : d.ms < 999
  · simp [within]
  · by_cases minute : d.now.second < 59
    · simp [within, minute]
    · simp [within, minute, DateTime.lastMinute, and_assoc]

theorem Rule.loaded_eq (r : Rule) :
    r.loaded =
      { value := if r.counterMode = .countDown then r.limit else 0
        unit := if r.enabled = true ∧ r.counterMode = .countDown then
            some (if r.unit = .seconds then 1000 else 60000)
          else none } := by
  unfold Rule.loaded Rule.unitMs
  cases r.unit <;> simp

end Sys2Proof.Machine
end

section
/-! PROOFS. The settlement of O26 from the lemmas about a start-up. -/

set_option Elab.async false

namespace Sys2Proof.Machine

variable {s : State} {cause : ResetCause}

/-- A RESTART on the control link is answered, and nothing else comes of it (R6, R8). -/
theorem exec_restart_control {s t : State} {tag : Byte} (h : s.linkTakes .control ⟨0x3D, tag, []⟩ t) :
    exec (.restart .control tag []) s = .next (t.reply .control ⟨0xBD, tag, .ok, []⟩) :=
  congrArg Host.Outcome.next (State.request_served _ h (t.access_restart .control []))

/-- Each of the four resets is the start-up of its cause. -/
theorem exec_reset {c : Instr}
    (reset : (c, cause) ∈ [(Instr.supplyApplied, ResetCause.powerOn), (.supplyDip, .supplyDip),
      (.resetLine, .resetLine), (.restartReset, .restart)])
    (due : c = .restartReset → s.restartDue = true) : exec c s = .next (s.startUp cause) := by
  simp only [List.mem_cons, Prod.mk.injEq, List.not_mem_nil, or_false] at reset
  rcases reset with ⟨rfl, rfl⟩ | ⟨rfl, rfl⟩ | ⟨rfl, rfl⟩ | ⟨rfl, rfl⟩
  case inr.inr.inr => exact congrArg Host.Outcome.next (if_pos (due rfl))
  all_goals rfl

/-- The level after a start-up without a resume (R189). -/
theorem State.level_startUp (not_due : ¬s.resumeDue cause) :
    ((s.startUp cause).clock = none ∨ (s.cleared cause).conf.items.get 39 = 0 →
        (s.startUp cause).level = (s.cleared cause).level)
      ∧ ∀ d, (s.startUp cause).clock = some d → (s.cleared cause).conf.items.get 39 ≠ 0 →
        ((∀ n back, ¬(s.startUp cause).conf.timetabled d.now n back) →
            (s.startUp cause).level = (s.cleared cause).level)
          ∧ ∀ v, (s.startUp cause).conf.restores d.now v → (s.startUp cause).level = v := by
  obtain ⟨rs, stages, -⟩ := State.startUp_of_not_due not_due
  have level : (s.startUp cause).level = (s.restored cause).levelNow := by
    rw [stages, State.offers_level, s.resettled_level]
  have conf : (s.startUp cause).conf = (s.restarted cause).conf := by rw [s.startUp_frame]
  rw [level, conf, s.clock_startUp]
  refine ⟨?_, fun d clock on => ?_⟩
  · rintro (no_clock | off)
    · exact State.level_of_no_clock no_clock
    · rw [s.restored_levelNow, if_pos off]
  · rw [s.restored_levelNow, if_neg on, clock, Option.bind_some]
    exact ⟨fun nothing => by rw [Stored.levelAt_of_none _ _ nothing]; rfl,
      fun v restores => by rw [Stored.levelAt_of_restores _ _ v restores]; rfl⟩

/-- Settles O26: `State.startUp_frame` for what a start-up puts in place, `State.lamp_startUp` for the lamps,
`State.startUp_opened` for the links, and the stages of a resume for the rest. -/
theorem everyResetRestoresTheStartValues : Obligations.EveryResetRestoresTheStartValues := by
  refine ⟨fun s tag t h => exec_restart_control h, fun s no => ?_, Rule.loaded_eq, fun c => ⟨rfl, fun n => ?_⟩, ?_⟩
  · exact congrArg Host.Outcome.next (if_neg (by simp [no]))
  · rw [c.passed_succ]
    exact congrArg _ (funext Clock.nextMs_eq)
  intro s c cause stored lamps level reset restart_due stored_eq lamps_eq level_eq
  obtain rfl : stored = (s.cleared cause).conf := stored_eq.trans (s.cleared_conf cause).symm
  obtain rfl : lamps = s.lampsFound := lamps_eq
  obtain rfl : level = (s.cleared cause).level := level_eq
  intro kept entry lit due calls values input
  have entry_eq : entry = s.entryFound := funext fun x => by cases x <;> rfl
  have lit_eq : lit = s.litBefore := funext fun x => by
    rw [s.litBefore_eq, ← entry_eq]
  have due_iff : due = true ↔ s.resumeDue cause := by
    rw [← s.resumeDue_iff, ← lit_eq, ← cause.keepsClock_eq]
  have calls_eq : calls = (s.cleared cause).conf.plan.callsOf ((s.startUp cause).lamp .a).wear
      ((s.startUp cause).lamp .b).wear := by
    rw [s.wear_startUp, s.wear_startUp, ← entry_eq]
    rfl
  have kept_eq : kept = cause.keepsClock := cause.keepsClock_eq
  have values_eq : values = (s.cleared cause).startValues := rfl
  have input_eq : input = (s.cleared cause).sw.selected := rfl
  clear_value kept entry lit due calls values input
  subst kept_eq entry_eq lit_eq calls_eq values_eq input_eq
  have frame := s.startUp_frame cause
  obtain ⟨expired, idle, auto_off⟩ := s.timers_startUp cause
  refine ⟨s.startUp cause, fun x => (s.lampRestarted cause x).history, exec_reset reset restart_due, ?unclean, ?_,
    by rw [frame], by rw [frame], ?_, ?_, ?_, ?_, ?_, ?_, ?_, ?_, ?_, expired, idle, auto_off, ?_, ?_, ?_,
    s.clock_startUp cause, s.conf_startUp cause, ?_, ?_, ?_, ?lampWrite, ?lamps, ?links, ?not_due, ?standby,
    ?shutdown, ?due⟩
  case unclean =>
    intro x
    rw [s.state_startUp, s.wear_startUp, s.clock_startUp]
    exact s.lampRestarted_history cause x
  case lampWrite =>
    have written : (s.startUp cause).lampWrite = (s.restarted cause).lampWrite := by rw [frame]
    rw [written, show (s.startUp cause).lampA = (s.startUp cause).lamp .a from rfl,
      show (s.startUp cause).lampB = (s.startUp cause).lamp .b from rfl, s.entry_startUp, s.entry_startUp]
    rfl
  case lamps =>
    intro x
    rw [s.state_startUp, s.clock_startUp]
    refine (s.lamp_startUp cause x).trans ?_
    generalize ((s.startUp cause).lamp x).called = called
    rw [s.lamp_resettled, s.lampRestarted_eq]
    split <;> rfl
  case links =>
    intro l
    obtain ⟨assembler, inbound, replies, errors, stall, awaiting, owed, sending⟩ := s.startUp_opened cause l
    rw [State.startOf, s.settingsFound_isNone] at sending
    exact ⟨assembler, inbound, replies, errors, stall, awaiting, owed, sending⟩
  case not_due =>
    intro no
    have not_due : ¬s.resumeDue cause := fun resume => by simp [due_iff.mpr resume] at no
    obtain ⟨rs, stages, -⟩ := State.startUp_of_not_due not_due
    exact ⟨fun i => by rw [stages, State.offers_counters, s.resettled_counter], State.level_startUp not_due⟩
  case standby =>
    intro cool no
    have not_due : ¬s.resumeDue cause := fun resume => by simp [due_iff.mpr resume] at no
    obtain ⟨power, inputs, scan, calls⟩ := State.startUp_standby not_due cool
    exact ⟨power, inputs, scan, calls, State.startUp_lost_nothing not_due cool⟩
  case shutdown => exact s.startUp_shutdown cause
  case due =>
    intro cool yes none_set
    have resume := due_iff.mp yes
    obtain ⟨level, counters⟩ := State.startUp_policy_of_due resume cool none_set
    exact ⟨level, counters, State.startUp_of_denied resume cool none_set, fun permitted available =>
      State.startUp_of_permitted resume cool none_set permitted (s.resettled_ready cause cool available)⟩
  all_goals
    rw [frame]
    rfl

end Sys2Proof.Machine
end

section
/-! PROOFS. What runs by the power state (O59): the invariants cut as the operations keep them, and what idle, the ways
out of DIMMED, the switch unit and the input monitor keep of them (R120, R122, R130, R131, R138, R140, R167). -/

set_option Elab.async false

namespace Sys2Proof.Machine

variable {s t u : State} {i : InputId} {x : LampId}

/-! ## The invariants in parts -/

/-- An input's format stands exactly while it is STABLE, its acquire timer runs exactly while it is ACQUIRING (R122). -/
def InputRecord.monitored (r : InputRecord) : Prop :=
  (r.signal = .stable ↔ r.format.isSome = true) ∧ (r.signal = .acquiring ↔ r.acquire.isSome = true)

/-- What the switch unit, idle and the monitor keep even where idle and the loss watch have still to be tested again and
a pending select has still to start. -/
structure State.coherent (s : State) : Prop where
  monitored : ∀ i, (s.input i).monitored
  grace : s.sw.grace.isSome = true ↔ s.sw.watch = .grace
  idle : s.power.idle.isSome = true → s.power.state = .on
  mark : s.power.idleExpired = true → s.power.state = .on
  autoOff : s.power.autoOff.isSome = true → s.power.state = .dimmed ∨ s.power.idleExpired = true
  flight : s.sw.inFlight.isSome = true → s.power.state.running = true
  hold : s.sw.hold.isSome = true → s.power.state.running = true
  target : s.sw.inFlight.map (·.target) ≠ some s.sw.selected

/-- The idle timer runs exactly while idle holds (R167). -/
def State.idleTested (s : State) : Prop := s.power.idle.isSome = true ↔ s.idleHolds = true

/-- The loss watch is out of WATCHING exactly while it acts on a selected input that is not STABLE (R140). -/
def State.watchTested (s : State) : Prop := s.sw.watch ≠ .watching ↔ s.watchActs = true ∧ s.selectedStable = false

/-- A pending select stands beside a switch in flight to another input (R131, R137). -/
def State.slotted (s : State) : Prop :=
  s.sw.slot.isSome = true →
    s.sw.inFlight.isSome = true ∧ s.sw.slot.map (·.input) ≠ s.sw.inFlight.map (·.target)

/-- What a change of source keeps, whatever the power state runs beside it. -/
structure State.steady (s : State) : Prop extends coherent : s.coherent where
  idleTested : s.idleTested
  watchTested : s.watchTested
  slotted : s.slotted

/-- What each power state keeps running, and what the monitor and the loss watch keep: `powerSound` and `watchSound`
with the part that a change of source keeps set apart. -/
structure State.sound (s : State) : Prop extends steady : s.steady where
  dormant : ∀ i, (s.input i).signal = .dormant ↔ s.power.state = .standby ∨ s.power.state = .shutdown
  scans : ∀ g : GroupId, (s.scan.get g).interval.isSome = true ↔ s.power.state = .standby
  intent : s.power.intent = true ↔ s.power.state.running = true
  recovers : s.recovery = true → s.power.state.running = false
  shut : s.power.state = .shutdown → s.recovery = true

theorem State.sound_iff : s.sound ↔ s.powerSound ∧ s.watchSound := by
  constructor
  · intro h
    exact ⟨⟨h.dormant, h.scans, h.idleTested, h.mark, h.autoOff, h.intent, h.recovers, h.shut, h.flight,
      fun some => (h.slotted some).1, h.hold, h.target, fun some => (h.slotted some).2⟩,
      h.monitored, h.watchTested, h.grace⟩
  · rintro ⟨⟨dormant, scans, idle, mark, autoOff, intent, recovers, shut, flight, slot, hold, target, other⟩,
      monitored, watch, grace⟩
    refine ⟨⟨⟨monitored, grace, fun runs => ?_, mark, autoOff, flight, hold, target⟩, idle, watch,
      fun some => ⟨slot some, other some⟩⟩, dormant, scans, intent, recovers, shut⟩
    have holds := idle.mp runs
    simp only [State.idleHolds, Bool.and_eq_true, beq_iff_eq] at holds
    exact holds.1.1

/-- A lamp without a call that nothing of its own will light (R84). -/
def Lamp.still (m : Lamp) : Prop :=
  m.state ∈ [LampState.dark, .cooldown, .hot, .out] ∧ m.called = false ∧ m.waiting = false

/-- Both lamps are still. -/
def State.atRest (s : State) : Prop := ∀ x, (s.lamp x).still

/-- The lamps are at rest while thermal recovery is active (R84, R113, R115). -/
def State.guarded (s : State) : Prop := s.recovery = true → s.atRest

/-! ## What a change of source keeps -/

/-- What idle, the ways out of DIMMED, the switch unit and the monitor leave: all that a change of source cannot reach,
the power state but for the way out of DIMMED, the intent, and lamps at rest. -/
structure State.drawn (s t : State) : Prop where
  frame : s.sourceOnly t
  state : t.power.state = s.power.state ∨ s.power.state = .dimmed ∧ t.power.state = .on
  intent : t.power.intent = s.power.intent
  lamps : s.atRest → t.atRest

/-- A change that leaves the inputs alone and keeps what a change of source keeps. -/
structure State.sourced (s t : State) : Prop extends drawn : s.drawn t where
  inputs : t.inputs = s.inputs
  steady : s.steady → t.steady

/-- Idle is tested anew, with the inputs and the switch unit as they are. -/
structure State.idles (s t : State) : Prop extends drawn : s.drawn t where
  inputs : t.inputs = s.inputs
  sw : t.sw = s.sw
  coherent : s.coherent → t.coherent
  idleTested : s.coherent → t.idleTested

theorem State.drawn.refl (s : State) : s.drawn s := ⟨rfl, .inl rfl, rfl, id⟩

theorem State.drawn.trans (h : s.drawn t) (k : t.drawn u) : s.drawn u where
  frame := h.frame.trans k.frame
  state := by
    rcases h.state with same | ⟨dimmed, on⟩
    · exact same ▸ k.state
    · rcases k.state with same | ⟨dimmed', -⟩
      · exact .inr ⟨dimmed, same.trans on⟩
      · simp [on] at dimmed'
  intent := k.intent.trans h.intent
  lamps := k.lamps ∘ h.lamps

theorem State.sourced.refl (s : State) : s.sourced s := ⟨.refl s, rfl, id⟩

theorem State.sourced.trans (h : s.sourced t) (k : t.sourced u) : s.sourced u :=
  ⟨h.drawn.trans k.drawn, k.inputs.trans h.inputs, k.steady ∘ h.steady⟩

/-- The power state runs lamps after a change of source exactly where it did before. -/
theorem State.drawn.running (h : s.drawn t) : t.power.state.running = s.power.state.running := by
  rcases h.state with same | ⟨dimmed, on⟩
  · rw [same]
  · rw [dimmed, on]
    rfl

theorem State.drawn.item (h : s.drawn t) (n : Fin 104) : t.item n = s.item n := by
  unfold State.item
  rw [h.frame]

theorem State.drawn.watchActs (h : s.drawn t) (sw : t.sw = s.sw) : t.watchActs = s.watchActs := by
  unfold State.watchActs
  rw [h.item, sw]
  rcases h.state with same | ⟨dimmed, on⟩
  · rw [same]
  · rw [dimmed, on]
    rfl

theorem State.selectedStable_of_same (inputs : t.inputs = s.inputs) (selected : t.sw.selected = s.sw.selected) :
    t.selectedStable = s.selectedStable := by
  unfold State.selectedStable State.input
  rw [inputs, selected]

/-- The inputs, the switch unit, the power state with its timers and mark, and the setting of the loss watch are as
they were. -/
structure State.alike (s t : State) : Prop where
  inputs : t.inputs = s.inputs := by rfl
  sw : t.sw = s.sw := by rfl
  state : t.power.state = s.power.state := by rfl
  idle : t.power.idle = s.power.idle := by rfl
  mark : t.power.idleExpired = s.power.idleExpired := by rfl
  autoOff : t.power.autoOff = s.power.autoOff := by rfl
  item : t.item 22 = s.item 22 := by rfl

theorem State.alike.trans (h : s.alike t) (k : t.alike u) : s.alike u :=
  ⟨k.inputs.trans h.inputs, k.sw.trans h.sw, k.state.trans h.state, k.idle.trans h.idle, k.mark.trans h.mark,
    k.autoOff.trans h.autoOff, k.item.trans h.item⟩

theorem State.alike.input (h : s.alike t) (i : InputId) : t.input i = s.input i := by
  unfold State.input
  rw [h.inputs]

theorem State.alike.coherent (h : s.alike t) (k : s.coherent) : t.coherent where
  monitored i := by rw [h.input]; exact k.monitored i
  grace := by rw [h.sw]; exact k.grace
  idle := by rw [h.idle, h.state]; exact k.idle
  mark := by rw [h.mark, h.state]; exact k.mark
  autoOff := by rw [h.autoOff, h.state, h.mark]; exact k.autoOff
  flight := by rw [h.sw, h.state]; exact k.flight
  hold := by rw [h.sw, h.state]; exact k.hold
  target := by rw [h.sw]; exact k.target

theorem State.alike.idleTested (h : s.alike t) (k : s.idleTested) : t.idleTested := by
  unfold State.idleTested State.idleHolds
  rw [State.selectedStable_of_same h.inputs (by rw [h.sw]), h.sw, h.state, h.mark, h.idle]
  exact k

theorem State.alike.watchTested (h : s.alike t) (k : s.watchTested) : t.watchTested := by
  unfold State.watchTested State.watchActs
  rw [State.selectedStable_of_same h.inputs (by rw [h.sw]), h.sw, h.state, h.item]
  exact k

theorem State.alike.slotted (h : s.alike t) (k : s.slotted) : t.slotted := by
  unfold State.slotted
  rw [h.sw]
  exact k

theorem State.alike.steady (h : s.alike t) (k : s.steady) : t.steady :=
  ⟨h.coherent k.coherent, h.idleTested k.idleTested, h.watchTested k.watchTested, h.slotted k.slotted⟩

/-- A change of the links, the geometry and the scaler alone. -/
theorem State.sourced.of_alike (frame : s.sourceOnly t) (alike : s.alike t)
    (intent : t.power.intent = s.power.intent := by rfl)
    (lamps : ∀ x, t.lamp x = s.lamp x := by intro x; cases x <;> rfl) : s.sourced t where
  frame := frame
  state := .inl alike.state
  intent := intent
  lamps rest x := by rw [lamps]; exact rest x
  inputs := alike.inputs
  steady := alike.steady

theorem State.idles.watchTested (h : s.idles t) (watch : s.watchTested) : t.watchTested := by
  unfold State.watchTested
  rw [h.watchActs h.sw, State.selectedStable_of_same h.inputs (by rw [h.sw]), h.sw]
  exact watch

/-- Idle tested anew keeps the loss watch and the pending select as they were. -/
theorem State.idles.steady_of (h : s.idles t) (coherent : s.coherent) (watch : s.watchTested) (slot : s.slotted) :
    t.steady where
  coherent := h.coherent coherent
  idleTested := h.idleTested coherent
  watchTested := h.watchTested watch
  slotted := by
    unfold State.slotted
    rw [h.sw]
    exact slot

theorem State.idles.sourced (h : s.idles t) : s.sourced t :=
  ⟨h.drawn, h.inputs, fun steady => h.steady_of steady.coherent steady.watchTested steady.slotted⟩

/-! ## Idle and the ways out of DIMMED (R167, R169) -/

theorem State.retestIdle_idles (s : State) : s.idles s.retestIdle where
  drawn := ⟨rfl, .inl rfl, rfl, fun rest x => by cases x; exacts [rest .a, rest .b]⟩
  inputs := rfl
  sw := rfl
  coherent h :=
    { h with
      idle := fun runs => by
        by_cases holds : s.idleHolds = true
        · simp only [State.idleHolds, Bool.and_eq_true, beq_iff_eq] at holds
          exact holds.1.1
        · simp [State.retestIdle, holds] at runs }
  idleTested _ := by
    show (if s.idleHolds then _ else none : Timer).isSome = true ↔ s.idleHolds = true
    split
    · rename_i holds
      simp only [holds, iff_true]
      split
      · assumption
      · rfl
    · rename_i rests
      simp [rests]

/-- The power unit takes another idle timer or mark, or leaves DIMMED for ON, and idle is tested anew (R167, R169). -/
theorem State.retestIdle_after (kept : s.sourceOnly t) (inputs : t.inputs = s.inputs) (sw : t.sw = s.sw)
    (lamps : s.atRest → t.atRest)
    (state : t.power.state = s.power.state ∨ s.power.state = .dimmed ∧ t.power.state = .on)
    (intent : t.power.intent = s.power.intent) (coherent : s.coherent → t.coherent) : s.idles t.retestIdle := by
  have tested := t.retestIdle_idles
  have drawn : s.drawn t := ⟨kept, state, intent, lamps⟩
  exact ⟨drawn.trans tested.drawn, inputs, sw, tested.coherent ∘ coherent, tested.idleTested ∘ coherent⟩

/-- UNDIM finds nothing to do at lamps at rest. -/
theorem State.undimLamp_of_atRest (rest : s.atRest) (x : LampId) : s.undimLamp x = s := by
  have dark : (s.lamp x).state ≠ .dimmed := fun dimmed => by simpa [dimmed] using (rest x).1
  simp [State.undimLamp, dark]

theorem State.leaveDimmed_idles (s : State) (dimmed : s.power.state = .dimmed) : s.idles s.leaveDimmed := by
  let begun := s.setPower { s.power with autoOff := none }
  let lit := (begun.undimLamp .a).undimLamp .b
  have undimmed : begun.lampsOnly lit := (begun.undimLamp_frame .a).trans (State.undimLamp_frame _ .b)
  have kept : s.sourceOnly lit :=
    ((s.setPower_frame _).trans (State.undimLamp_source _ .a)).trans (State.undimLamp_source _ .b)
  have inputs : lit.inputs = s.inputs := by rw [undimmed]; rfl
  have sw : lit.sw = s.sw := by rw [undimmed]; rfl
  have power : lit.power = { s.power with autoOff := none } := undimmed.power
  have same : ∀ x, s.atRest → lit.lamp x = s.lamp x := fun x rest => by
    have still : begun.atRest := rest
    show ((begun.undimLamp .a).undimLamp .b).lamp x = s.lamp x
    rw [State.undimLamp_of_atRest still, State.undimLamp_of_atRest still]
    cases x <;> rfl
  refine State.retestIdle_after (t := (lit.setPower { lit.power with state := .on }).reportPower .dimmed .activity
    .none) ((kept.trans (State.setPower_frame _ _)).trans (State.reportPower_frame _ _ _ _).toSource) inputs sw
    (fun rest x => ?_) (.inr ⟨dimmed, rfl⟩) (show lit.power.intent = _ by rw [power]) fun h => ?_
  · have still := rest x
    rw [← same x rest] at still
    cases x <;> exact still
  · exact
      { monitored := fun i => by
          show (lit.inputs.get i).monitored
          rw [inputs]
          exact h.monitored i
        grace := by
          show lit.sw.grace.isSome = true ↔ lit.sw.watch = .grace
          rw [sw]
          exact h.grace
        idle := fun _ => rfl
        mark := fun _ => rfl
        autoOff := fun runs => by
          replace runs : lit.power.autoOff.isSome = true := runs
          simp [power] at runs
        flight := fun _ => rfl
        hold := fun _ => rfl
        target := by
          show lit.sw.inFlight.map (·.target) ≠ some lit.sw.selected
          rw [sw]
          exact h.target }

theorem State.leaveMark_idles (s : State) : s.idles s.leaveMark :=
  State.retestIdle_after rfl rfl rfl id (.inl rfl) rfl fun h => { h with mark := nofun, autoOff := nofun }

theorem State.signalReturned_idles (s : State) : s.idles s.signalReturned := by
  unfold State.signalReturned
  split
  · rename_i dimmed
    split
    · exact s.leaveDimmed_idles dimmed
    · refine ⟨.refl s, rfl, rfl, id, fun h => ?_⟩
      have stopped : s.power.idle.isSome ≠ true := fun runs => by simpa [dimmed] using h.idle runs
      simp [State.idleTested, State.idleHolds, dimmed, stopped]
  · split
    · exact s.leaveMark_idles
    · exact s.retestIdle_idles
  all_goals exact s.retestIdle_idles

theorem State.sourceSeen_idles (s : State) (b : Bool) : s.idles (s.sourceSeen b) := by
  unfold State.sourceSeen
  split
  · exact s.signalReturned_idles
  · exact s.retestIdle_idles

theorem State.muteSeen_idles (s : State) : s.idles s.muteSeen := by
  unfold State.muteSeen
  split
  · exact s.retestIdle_idles
  · split
    · rename_i dimmed
      exact s.leaveDimmed_idles dimmed
    · split
      · exact s.leaveMark_idles
      · exact s.retestIdle_idles
    all_goals exact s.retestIdle_idles

theorem State.activity_sourced (s : State) : s.sourced s.activity := by
  unfold State.activity
  split
  · rename_i dimmed
    exact (s.leaveDimmed_idles dimmed).sourced
  · rename_i on
    split
    · exact (s.leaveMark_idles).sourced
    · split
      · rename_i holds
        refine ⟨⟨rfl, .inl rfl, rfl, id⟩, rfl, fun h => ?_⟩
        exact { h with idle := fun _ => on, idleTested := iff_of_true rfl holds }
      · exact .refl s
  all_goals exact .refl s

/-! ## The switch unit -/

@[simp] theorem SwitchUnit.drive_selected (v : SwitchUnit) : v.drive.selected = v.selected := rfl
@[simp] theorem SwitchUnit.drive_inFlight (v : SwitchUnit) : v.drive.inFlight = v.inFlight := rfl
@[simp] theorem SwitchUnit.drive_slot (v : SwitchUnit) : v.drive.slot = v.slot := rfl
@[simp] theorem SwitchUnit.drive_hold (v : SwitchUnit) : v.drive.hold = v.hold := rfl
@[simp] theorem SwitchUnit.drive_mute (v : SwitchUnit) : v.drive.mute = v.mute := rfl
@[simp] theorem SwitchUnit.drive_watch (v : SwitchUnit) : v.drive.watch = v.watch := rfl
@[simp] theorem SwitchUnit.drive_grace (v : SwitchUnit) : v.drive.grace = v.grace := rfl

/-- The switch unit changes within what the power state and the selected input allow. -/
theorem State.coherent.putSwitch (h : s.coherent) {v : SwitchUnit}
    (grace : v.grace.isSome = true ↔ v.watch = .grace)
    (flight : v.inFlight.isSome = true → s.power.state.running = true)
    (hold : v.hold.isSome = true → s.power.state.running = true)
    (target : v.inFlight.map (·.target) ≠ some v.selected) : (s.putSwitch v).coherent where
  monitored := h.monitored
  grace := grace
  idle := h.idle
  mark := h.mark
  autoOff := h.autoOff
  flight := flight
  hold := hold
  target := target

/-- The loss watch alone, with its grace timer and the lines, differs once its conditions have been tested (R140). -/
theorem State.retestWatch_eq (s : State) :
    s.retestWatch = s ∨ ∃ w g, (g.isSome = true ↔ w = .grace)
      ∧ s.retestWatch = s.putSwitch { s.sw with watch := w, grace := g } := by
  unfold State.retestWatch
  split
  · split
    · exact .inr ⟨.grace, _, iff_of_true rfl rfl, rfl⟩
    · exact .inl rfl
  · exact .inr ⟨.watching, none, iff_of_false nofun nofun, rfl⟩

/-- The loss watch tested anew is out of WATCHING exactly where it must be (R140). -/
theorem State.retestWatch_tested (s : State) : s.retestWatch.watchTested := by
  unfold State.retestWatch
  split
  · rename_i lost
    simp only [Bool.and_eq_true, Bool.not_eq_true'] at lost
    split
    · exact iff_of_true nofun lost
    · rename_i out
      exact iff_of_true out lost
  · rename_i found
    simp only [Bool.and_eq_true, Bool.not_eq_true'] at found
    exact iff_of_false (not_not_intro rfl) found

theorem State.retestWatch_coherent (h : s.coherent) : s.retestWatch.coherent := by
  rcases s.retestWatch_eq with same | ⟨w, g, runs, eq⟩
  · rw [same]
    exact h
  · rw [eq]
    exact h.putSwitch runs h.flight h.hold h.target

theorem State.retestWatch_slotted (h : s.slotted) : s.retestWatch.slotted := by
  rcases s.retestWatch_eq with same | ⟨w, g, -, eq⟩
  · rw [same]
    exact h
  · rw [eq]
    exact h

/-- The loss watch tested anew puts all in place that a change of source keeps, where idle and the pending select are
in place. -/
theorem State.retestWatch_steady (h : s.coherent) (idle : s.idleTested) (slot : s.slotted) : s.retestWatch.steady := by
  refine ⟨State.retestWatch_coherent h, ?_, s.retestWatch_tested, State.retestWatch_slotted slot⟩
  rcases s.retestWatch_eq with same | ⟨w, g, -, eq⟩
  · rw [same]
    exact idle
  · rw [eq]
    exact idle

theorem State.putSwitch_drawn (s : State) (v : SwitchUnit) : s.drawn (s.putSwitch v) where
  frame := s.putSwitch_frame v
  state := .inl rfl
  intent := rfl
  lamps rest x := by cases x; exacts [rest .a, rest .b]

theorem State.retestWatch_drawn (s : State) : s.drawn s.retestWatch := by
  rcases s.retestWatch_eq with same | ⟨w, g, -, eq⟩
  · rw [same]
    exact .refl s
  · rw [eq]
    exact s.putSwitch_drawn _

@[simp] theorem State.retestWatch_inputs (s : State) : s.retestWatch.inputs = s.inputs := by
  rcases s.retestWatch_eq with same | ⟨w, g, -, eq⟩
  · rw [same]
  · rw [eq, State.putSwitch_inputs]

theorem State.retestWatch_sourced (s : State) : s.sourced s.retestWatch :=
  ⟨s.retestWatch_drawn, s.retestWatch_inputs, fun h => State.retestWatch_steady h.coherent h.idleTested h.slotted⟩

theorem State.reportSwitch_sourced (s : State) (i : InputId) (o : SwitchOutcome) (c : ReqClass) (p : Nat)
    (r : Option (Link × Byte)) : s.sourced (s.reportSwitch i o c p r) := .of_alike rfl {}

theorem State.beginSwitch_drawn (s : State) (i : InputId) (c : ReqClass) (p : Nat) (r : Option (Link × Byte)) :
    s.drawn (s.beginSwitch i c p r) := (s.putSwitch_drawn _).trans (State.retestWatch_drawn _)

@[simp] theorem State.beginSwitch_inputs (s : State) (i : InputId) (c : ReqClass) (p : Nat)
    (r : Option (Link × Byte)) : (s.beginSwitch i c p r).inputs = s.inputs := State.retestWatch_inputs _

/-- A switch to another input than the selected one begins while the projector runs (R132). -/
theorem State.beginSwitch_steady (h : s.coherent) (idle : s.idleTested) (c : ReqClass) (p : Nat)
    (r : Option (Link × Byte)) (running : s.power.state.running = true) (other : i ≠ s.sw.selected)
    (free : s.sw.slot = none) : (s.beginSwitch i c p r).steady := by
  refine State.retestWatch_steady (h.putSwitch h.grace (fun _ => running) h.hold ?_) idle fun waits => ?_
  · simpa using other
  · simp [free] at waits

theorem State.startPending_drawn (s : State) : s.drawn s.startPending ∧ s.startPending.inputs = s.inputs := by
  unfold State.startPending
  split
  · exact ⟨.refl s, rfl⟩
  · dsimp only
    split
    · exact ⟨(s.putSwitch_drawn _).trans (State.reportSwitch_sourced _ _ _ _ _ _).drawn, rfl⟩
    · exact ⟨(s.putSwitch_drawn _).trans (State.beginSwitch_drawn _ _ _ _ _), State.beginSwitch_inputs _ _ _ _ _⟩

/-- The pending select starts, or meets the hold, where it names another input than the selected one (R137). -/
theorem State.startPending_steady (h : s.coherent) (idle : s.idleTested) (watch : s.watchTested)
    (pending : ∀ p, s.sw.slot = some p → s.power.state.running = true ∧ p.input ≠ s.sw.selected) :
    s.startPending.steady := by
  unfold State.startPending
  split
  · rename_i no_slot
    exact ⟨h, idle, watch, fun waits => by simp [no_slot] at waits⟩
  · rename_i p waits
    obtain ⟨running, other⟩ := pending p waits
    have taken : (s.putSwitch { s.sw with slot := none }).coherent := h.putSwitch h.grace h.flight h.hold h.target
    dsimp only
    split
    · exact (State.reportSwitch_sourced _ _ _ _ _ _).steady ⟨taken, idle, watch, nofun⟩
    · exact State.beginSwitch_steady taken idle _ _ _ running other rfl

/-- A switch completes, and the pending select starts behind it (R134, R137). -/
theorem State.completeSwitch_sourced (s : State) (w : Switch) (o : SwitchOutcome) (flight : s.sw.inFlight = some w) :
    s.sourced (s.completeSwitch w o) := by
  let landed := s.putSwitch
    { s.sw with selected := w.target, inFlight := none, hold := s.holdFor w.target w.cls w.priority }
  let sent := (landed.runPicture.reportSwitch w.target o w.cls w.priority w.origin).sendUpdate .source true
  let seen := sent.retestWatch.sourceSeen s.selectedStable
  have alike : landed.alike sent := {}
  have shown : landed.sourced sent := .of_alike
    ((landed.runPicture_frame.trans (State.reportSwitch_frame _ _ _ _ _ _).toSource).trans
      (State.sendUpdate_frame _ _ _)) alike
  have watched : s.drawn sent.retestWatch :=
    ((s.putSwitch_drawn _).trans shown.drawn).trans sent.retestWatch_drawn
  have idles : sent.retestWatch.idles seen := State.sourceSeen_idles _ _
  obtain ⟨started, inputs⟩ := seen.startPending_drawn
  have before : s.drawn seen := watched.trans idles.drawn
  refine ⟨before.trans started, (inputs.trans idles.inputs).trans sent.retestWatch_inputs, fun h => ?_⟩
  have running : s.power.state.running = true := h.flight (by rw [flight]; rfl)
  have arrived : sent.retestWatch.coherent := State.retestWatch_coherent
    (alike.coherent (h.coherent.putSwitch h.grace nofun (fun _ => running) nofun))
  obtain ⟨slot, selected⟩ : seen.sw.slot = s.sw.slot ∧ seen.sw.selected = w.target := by
    rw [idles.sw]
    rcases sent.retestWatch_eq with same | ⟨v, g, -, eq⟩
    · rw [same]
      exact ⟨rfl, rfl⟩
    · rw [eq]
      exact ⟨rfl, rfl⟩
  refine State.startPending_steady (idles.coherent arrived) (idles.idleTested arrived)
    (idles.watchTested sent.retestWatch_tested) fun p waits => ⟨before.running.trans running, fun same => ?_⟩
  rw [slot] at waits
  rw [selected] at same
  have other := (h.slotted (by rw [waits]; rfl)).2
  simp [waits, flight, same] at other

theorem State.dropPending_sourced (s : State) (o : SwitchOutcome) : s.sourced (s.dropPending o) := by
  unfold State.dropPending
  split
  · exact .refl s
  · refine ⟨(s.putSwitch_drawn _).trans (State.reportSwitch_sourced _ _ _ _ _ _).drawn, rfl, fun h => ?_⟩
    exact (State.reportSwitch_sourced _ _ _ _ _ _).steady
      ⟨h.coherent.putSwitch h.grace h.flight h.hold h.target, h.idleTested, h.watchTested, nofun⟩

theorem State.awaitedSignal_sourced (s : State) (i : InputId) : s.sourced (s.awaitedSignal i) := by
  unfold State.awaitedSignal
  split
  · exact .refl s
  · rename_i w flight
    split
    · split
      case h_1 | h_2 | h_3 => exact s.completeSwitch_sourced w _ flight
      all_goals exact .refl s
    · exact .refl s

theorem State.dueUpdate_alike (s : State) (k : GeoCause) : s.alike (s.dueUpdate k) := by
  unfold State.dueUpdate
  split
  · exact {}
  · exact {}

theorem State.sourceEvent_alike (s : State) : s.alike s.sourceEvent :=
  State.alike.trans (t := s.runPicture) {} (s.runPicture.dueUpdate_alike .source)

theorem State.dueUpdate_sourced (s : State) (k : GeoCause) : s.sourced (s.dueUpdate k) := by
  refine .of_alike (s.dueUpdate_frame k) (s.dueUpdate_alike k) ?_ fun x => ?_
  all_goals
    unfold State.dueUpdate
    split
  · rfl
  · rfl
  · cases x <;> rfl
  · cases x <;> rfl

theorem State.sourceEvent_sourced (s : State) : s.sourced s.sourceEvent :=
  (State.sourced.of_alike s.runPicture_frame {}).trans (s.runPicture.dueUpdate_sourced .source)

/-! ## The input monitor -/

theorem State.input_setInput (s : State) (i j : InputId) (r : InputRecord) :
    (s.setInput i r).input j = if j = i then r else s.input j := by
  split
  · rename_i same
    rw [same, State.input_setInput_same]
  · rename_i other
    exact s.input_setInput_other other r

theorem State.setInput_drawn (s : State) (i : InputId) (r : InputRecord) : s.drawn (s.setInput i r) where
  frame := s.setInput_frame i r
  state := .inl rfl
  intent := rfl
  lamps rest x := by cases x; exacts [rest .a, rest .b]

theorem State.setInput_coherent (h : s.coherent) {r : InputRecord} (fits : r.monitored) :
    (s.setInput i r).coherent :=
  { h with
    monitored := fun j => by
      rw [State.input_setInput]
      split
      · exact fits
      · exact h.monitored j }

/-- A record of an input that leaves the selected input as STABLE as it was. -/
theorem State.setInput_steady (h : s.steady) {r : InputRecord} (fits : r.monitored)
    (stable : i = s.sw.selected → (r.signal = .stable ↔ (s.input i).signal = .stable)) : (s.setInput i r).steady := by
  have same : (s.setInput i r).selectedStable = s.selectedStable := by
    unfold State.selectedStable
    rw [State.setInput_sw, State.input_setInput]
    split
    · rename_i selected
      rw [Bool.eq_iff_iff, beq_iff_eq, beq_iff_eq, stable selected.symm, selected]
    · rfl
  refine ⟨State.setInput_coherent h.coherent fits, ?_, ?_, h.slotted⟩
  · unfold State.idleTested State.idleHolds
    rw [same]
    exact h.idleTested
  · unfold State.watchTested
    rw [same]
    exact h.watchTested

/-- A signal change puts its record in place, and leaves the other inputs alone (R124). -/
theorem State.signalChange_drawn (s : State) (i : InputId) (r : InputRecord) (c : InputCause) :
    s.drawn (s.signalChange i r c) ∧ (s.signalChange i r c).inputs = (s.setInput i r).inputs := by
  let told := (s.setInput i r).reportInput i (s.input i).signal c
  have noted : (s.setInput i r).sourced told := .of_alike (State.offer_frame _ _).toSource {}
  have switched : told.sourced (told.awaitedSignal i).retestWatch :=
    (told.awaitedSignal_sourced i).trans (State.retestWatch_sourced _)
  have seen (b : Bool) : told.sourced ((told.awaitedSignal i).retestWatch.sourceEvent.sourceSeen b) :=
    (switched.trans (State.sourceEvent_sourced _)).trans (State.sourceSeen_idles _ b).sourced
  unfold State.signalChange
  dsimp only
  split
  · exact ⟨(s.setInput_drawn i r).trans (noted.trans (seen _)).drawn, (noted.trans (seen _)).inputs⟩
  · exact ⟨(s.setInput_drawn i r).trans (noted.trans switched).drawn, (noted.trans switched).inputs⟩

/-- A switch never goes to the selected input, so that input's signal ends none (R131, R133). -/
theorem State.awaitedSignal_selected (h : s.coherent) : s.awaitedSignal s.sw.selected = s := by
  unfold State.awaitedSignal
  split
  · rfl
  · rename_i w flight
    refine if_neg fun awaits => h.target ?_
    rw [flight, Option.map_some, awaits.2]

theorem State.signalChange_steady (h : s.steady) {r : InputRecord} (fits : r.monitored) (c : InputCause) :
    (s.signalChange i r c).steady := by
  let told := (s.setInput i r).reportInput i (s.input i).signal c
  have alike : (s.setInput i r).alike told := {}
  unfold State.signalChange
  dsimp only
  split
  · rename_i selected
    have noted : told.coherent := alike.coherent (State.setInput_coherent h.coherent fits)
    have await : told.awaitedSignal i = told := by
      rw [show i = told.sw.selected from selected]
      exact State.awaitedSignal_selected noted
    rw [await]
    have event := told.retestWatch.sourceEvent_alike
    exact (State.sourceSeen_idles _ _).steady_of (event.coherent (State.retestWatch_coherent noted))
      (event.watchTested told.retestWatch_tested)
      (event.slotted (State.retestWatch_slotted (alike.slotted h.slotted)))
  · rename_i other
    have noted : told.steady := alike.steady (State.setInput_steady h fits fun selected => absurd selected other)
    exact ((told.awaitedSignal_sourced i).trans (State.retestWatch_sourced _)).steady noted

/-! ### The monitor stops and resumes (R120) -/

theorem InputRecord.dormant_monitored (r : InputRecord) : r.dormant.monitored :=
  ⟨iff_of_false nofun nofun, iff_of_false nofun nofun⟩

theorem InputRecord.acquiring_monitored (r : InputRecord) (run : Option (Fin 16 × Nat)) :
    (r.acquiring run).monitored := ⟨iff_of_false nofun nofun, iff_of_true rfl rfl⟩

/-- One input after the other is put in a wanted signal state, by an operation that reaches it alone. -/
theorem State.foldl_signals (f : State → InputId → State) (wanted : SignalState → Prop)
    (drawn : ∀ (s : State) i, s.drawn (f s i)) (steady : ∀ {s : State} i, s.steady → (f s i).steady)
    (same : ∀ (s : State) i, wanted ((f s i).input i).signal)
    (others : ∀ (s : State) i j, j ≠ i → (f s i).input j = s.input j) (is : List InputId) (s : State) :
    s.drawn (is.foldl f s) ∧ (s.steady → (is.foldl f s).steady)
      ∧ ∀ j, j ∈ is ∨ wanted (s.input j).signal → wanted ((is.foldl f s).input j).signal := by
  induction is generalizing s with
  | nil => exact ⟨.refl s, id, fun j wants => wants.resolve_left (List.not_mem_nil)⟩
  | cons i is ih =>
    obtain ⟨rest, keeps, puts⟩ := ih (f s i)
    refine ⟨(drawn s i).trans rest, keeps ∘ steady i, fun j wants => puts j ?_⟩
    by_cases this : j = i
    · exact .inr (this ▸ same s i)
    · rw [others s i j this]
      rcases wants with mem | wants
      · exact .inl ((List.mem_cons.mp mem).resolve_left this)
      · exact .inr wants

theorem State.input_signalChange (s : State) (i j : InputId) (r : InputRecord) (c : InputCause) :
    (s.signalChange i r c).input j = if j = i then r else s.input j := by
  rw [← State.input_setInput]
  unfold State.input
  rw [(s.signalChange_drawn i r c).2]

/-- After the monitor has stopped measuring, every input is DORMANT. -/
theorem State.sleepInputs_dormant (s : State) :
    s.drawn s.sleepInputs ∧ (s.steady → s.sleepInputs.steady)
      ∧ ∀ i, (s.sleepInputs.input i).signal = .dormant := by
  obtain ⟨drawn, steady, puts⟩ := State.foldl_signals State.sleepInput (· = .dormant)
    (fun s i => by
      unfold State.sleepInput
      split
      · exact .refl s
      · exact (s.signalChange_drawn _ _ _).1)
    (fun {s} i h => by
      unfold State.sleepInput
      split
      · exact h
      · exact State.signalChange_steady h (InputRecord.dormant_monitored _) _)
    (fun s i => by
      unfold State.sleepInput
      split
      · assumption
      · rw [State.input_signalChange, if_pos rfl]
        rfl)
    (fun s i j other => by
      unfold State.sleepInput
      split
      · rfl
      · rw [State.input_signalChange, if_neg other])
    (List.finRange 8) s
  exact ⟨drawn, steady, fun i => puts i (.inl (List.mem_finRange i))⟩

/-- After the monitor has resumed, no input is DORMANT. -/
theorem State.wakeInputs_awake (s : State) :
    s.drawn s.wakeInputs ∧ (s.steady → s.wakeInputs.steady)
      ∧ ∀ i, (s.wakeInputs.input i).signal ≠ .dormant := by
  obtain ⟨drawn, steady, puts⟩ := State.foldl_signals
    (fun s i => s.signalChange i ((s.input i).acquiring none) .power) (· ≠ .dormant)
    (fun s i => (s.signalChange_drawn _ _ _).1)
    (fun i h => State.signalChange_steady h (InputRecord.acquiring_monitored _ _) _)
    (fun s i => by
      rw [State.input_signalChange, if_pos rfl]
      nofun)
    (fun s i j other => by rw [State.input_signalChange, if_neg other])
    (List.finRange 8) s
  exact ⟨drawn, steady, fun i => puts i (.inl (List.mem_finRange i))⟩

end Sys2Proof.Machine
end

section
/-! PROOFS. The entries to the power states, thermal recovery and the lamps' events: each keeps what the power states
run, and lamps at rest (R84, R111 to R115, R164, R165; O59). -/

set_option Elab.async false

namespace Sys2Proof.Machine

variable {s t u : State} {x : LampId}

/-! ## What an entry to a power state leaves -/

/-- What an entry to a power state and a lamp event leave: all that they cannot reach, thermal recovery, and lamps at
rest. -/
structure State.entered (s t : State) : Prop where
  frame : s.lampPathOnly t
  recovery : t.recovery = s.recovery
  lamps : s.atRest → t.atRest

theorem State.entered.refl (s : State) : s.entered s := ⟨rfl, rfl, id⟩

theorem State.entered.trans (h : s.entered t) (k : t.entered u) : s.entered u :=
  ⟨h.frame.trans k.frame, k.recovery.trans h.recovery, k.lamps ∘ h.lamps⟩

theorem State.drawn.recovery (h : s.drawn t) : t.recovery = s.recovery := by rw [h.frame]
theorem State.drawn.scan (h : s.drawn t) : t.scan = s.scan := by rw [h.frame]

theorem State.drawn.entered (h : s.drawn t) : s.entered t := ⟨h.frame.toPath, h.recovery, h.lamps⟩

/-- A change that leaves the lamps, the inputs and thermal recovery alone. -/
theorem State.entered.of_frame (frame : s.lampPathOnly t) (recovery : t.recovery = s.recovery := by rfl)
    (lamps : ∀ x, (t.lamp x) = s.lamp x := by intro x; cases x <;> rfl) : s.entered t :=
  ⟨frame, recovery, fun rest x => by rw [lamps]; exact rest x⟩

/-- All that the soundness of the power states reads is as it was. -/
structure State.unmoved (s t : State) : Prop extends alike : s.alike t where
  intent : t.power.intent = s.power.intent := by rfl
  scan : t.scan = s.scan := by rfl
  recovery : t.recovery = s.recovery := by rfl

theorem State.unmoved.refl (s : State) : s.unmoved s := {}

theorem State.unmoved.trans (h : s.unmoved t) (k : t.unmoved u) : s.unmoved u :=
  ⟨h.alike.trans k.alike, k.intent.trans h.intent, k.scan.trans h.scan, k.recovery.trans h.recovery⟩

theorem State.unmoved.sound (h : s.unmoved t) (k : s.sound) : t.sound where
  steady := h.alike.steady k.steady
  dormant i := by rw [h.input, h.state]; exact k.dormant i
  scans := by rw [h.scan, h.state]; exact k.scans
  intent := by rw [h.intent, h.state]; exact k.intent
  recovers := by rw [h.recovery, h.state]; exact k.recovers
  shut := by rw [h.recovery, h.state]; exact k.shut

theorem State.closeWindow_unmoved (s : State) (e : ConfirmEvent) : s.unmoved (s.closeWindow e) := by
  unfold State.closeWindow
  split
  · exact .refl s
  · exact {}

theorem State.endHold_unmoved (s : State) (c : CredCause) : s.unmoved (s.endHold c) := by
  unfold State.endHold
  split
  · exact .refl s
  · exact {}

theorem State.closeWindow_entered (s : State) (e : ConfirmEvent) : s.entered (s.closeWindow e) := by
  refine .of_frame (s.closeWindow_frame e) (s.closeWindow_unmoved e).recovery fun x => ?_
  unfold State.closeWindow
  split
  · rfl
  · cases x <;> rfl

theorem State.endHold_entered (s : State) (c : CredCause) : s.entered (s.endHold c) := by
  refine .of_frame (s.endHold_frame c) (s.endHold_unmoved c).recovery fun x => ?_
  unfold State.endHold
  split
  · rfl
  · cases x <;> rfl

theorem State.setPower_entered (s : State) (p : PowerUnit) : s.entered (s.setPower p) :=
  .of_frame (s.setPower_frame p).toPath

theorem State.reportPower_entered (s : State) (p : PowerState) (c : PowerCause) (o : PowerOutcome) :
    s.entered (s.reportPower p c o) := .of_frame (s.reportPower_frame p c o).toPath

theorem State.stopWake_entered (s : State) : s.entered s.stopWake :=
  ⟨s.stopWake_frame, rfl, fun rest x => by cases x; exacts [rest .a, rest .b]⟩

theorem State.reportPower_sound (h : s.sound) (p : PowerState) (c : PowerCause) (o : PowerOutcome) :
    (s.reportPower p c o).sound := State.unmoved.sound {} h

theorem State.startScan_alike (s : State) : s.alike s.startScan := {}

theorem State.startScan_entered (s : State) : s.entered s.startScan := .of_frame s.startScan_frame

/-- A change of source keeps what the power states run, where no input goes to or from DORMANT. -/
theorem State.drawn.sound_of (h : s.drawn t) (k : s.sound) (steady : t.steady)
    (dormant : ∀ i, (t.input i).signal = .dormant ↔ (s.input i).signal = .dormant) : t.sound := by
  have standby : t.power.state = .standby ↔ s.power.state = .standby := by
    rcases h.state with same | ⟨dimmed, on⟩
    · rw [same]
    · simp [dimmed, on]
  have shutdown : t.power.state = .shutdown ↔ s.power.state = .shutdown := by
    rcases h.state with same | ⟨dimmed, on⟩
    · rw [same]
    · simp [dimmed, on]
  exact ⟨steady, fun i => by rw [dormant, k.dormant, standby, shutdown], fun g => by rw [h.scan, k.scans, standby],
    by rw [h.intent, h.running]; exact k.intent, by rw [h.recovery, h.running]; exact k.recovers,
    by rw [h.recovery, shutdown]; exact k.shut⟩

theorem State.sourced.sound (h : s.sourced t) (k : s.sound) : t.sound :=
  h.drawn.sound_of k (h.steady k.steady) fun i => by unfold State.input; rw [h.inputs]

/-! ## Power states without idle -/

/-- Outside ON and DIMMED neither timer of the power unit runs, and the mark is clear (R167, R168). -/
theorem State.coherent.no_timers (h : s.coherent) (on : s.power.state ≠ .on) (dimmed : s.power.state ≠ .dimmed) :
    s.power.idle = none ∧ s.power.idleExpired = false ∧ s.power.autoOff = none := by
  have mark : s.power.idleExpired = false := Bool.eq_false_iff.mpr fun set => on (h.mark set)
  refine ⟨?_, mark, ?_⟩
  · by_contra runs
    exact on (h.idle (Option.isSome_iff_ne_none.mpr runs))
  · by_contra runs
    rcases h.autoOff (Option.isSome_iff_ne_none.mpr runs) with state | set
    · exact dimmed state
    · simp [mark] at set

/-- The power unit goes from one state without idle and loss watch to another. -/
theorem State.steady.setPower (h : s.steady) {p : PowerUnit} (on : s.power.state ≠ .on)
    (dimmed : s.power.state ≠ .dimmed) (not_on : p.state ≠ .on) (not_dimmed : p.state ≠ .dimmed)
    (running : s.power.state.running = true → p.state.running = true)
    (timers : p.idle = none ∧ p.idleExpired = false ∧ p.autoOff = none) : (s.setPower p).steady where
  monitored := h.monitored
  grace := h.grace
  idle runs := by simp [timers.1] at runs
  mark set := by simp [timers.2.1] at set
  autoOff runs := by simp [timers.2.2] at runs
  flight := running ∘ h.flight
  hold := running ∘ h.hold
  target := h.target
  idleTested := by simp [State.idleTested, State.idleHolds, not_on, timers]
  watchTested := by
    have was := h.watchTested
    unfold State.watchTested at was ⊢
    simpa [State.watchActs, on, dimmed, not_on, not_dimmed] using was
  slotted := h.slotted

theorem State.drawn.state_of (h : s.drawn t) (other : s.power.state ≠ .dimmed) : t.power.state = s.power.state :=
  h.state.resolve_right fun ⟨dimmed, _⟩ => other dimmed

/-! ## Entries to the power states (R165) -/

/-- What stands where the monitor measures and no scan group runs: in every state but STANDBY and SHUTDOWN. -/
structure State.measuring (s : State) : Prop where
  awake : ∀ i, (s.input i).signal ≠ .dormant
  scans : ∀ g : GroupId, (s.scan.get g).interval.isSome ≠ true

theorem State.sound.measuring (h : s.sound) (standby : s.power.state ≠ .standby)
    (shutdown : s.power.state ≠ .shutdown) : s.measuring where
  awake i dormant := by simpa [standby, shutdown] using (h.dormant i).mp dormant
  scans g runs := standby ((h.scans g).mp runs)

theorem State.measuring.of_same (h : s.measuring) (inputs : t.inputs = s.inputs) (scan : t.scan = s.scan) :
    t.measuring where
  awake i := by unfold State.input; rw [inputs]; exact h.awake i
  scans g := by rw [scan]; exact h.scans g

/-- A projector that runs, or that stops, is sound as it measures. -/
theorem State.measuring.sound (h : s.measuring) (steady : s.steady) {p : PowerState} (state : s.power.state = p)
    (standby : p ≠ .standby) (shutdown : p ≠ .shutdown) (intent : s.power.intent = p.running)
    (cool : p.running = true → s.recovery = false) : s.sound where
  steady := steady
  dormant i := iff_of_false (h.awake i) (by simp [state, standby, shutdown])
  scans g := iff_of_false (h.scans g) (state ▸ standby)
  intent := by rw [intent, state]
  recovers hot := by
    by_contra runs
    simp [cool (Bool.eq_true_of_not_eq_false (state ▸ runs))] at hot
  shut shut := absurd (state.symm.trans shut) shutdown

theorem State.sound.running_cool (h : s.sound) (running : s.power.state.running = true) : s.recovery = false := by
  by_contra hot
  simp [h.recovers (Bool.eq_true_of_not_eq_false hot)] at running

theorem State.sound.running_measuring (h : s.sound) (running : s.power.state.running = true) : s.measuring :=
  h.measuring (fun standby => by simp [standby, PowerState.running] at running)
    (fun shutdown => by simp [shutdown, PowerState.running] at running)

theorem State.enterOn_entered (s : State) (c : PowerCause) (o : PowerOutcome) : s.entered (s.enterOn c o) :=
  (((s.setPower_entered _).trans (State.retestIdle_idles _).drawn.entered).trans
    (State.retestWatch_drawn _).entered).trans (State.reportPower_entered _ _ _ _)

/-- The entry to ON from STARTING, where idle and the loss watch begin. -/
theorem State.enterOn_sound (h : s.sound) (starting : s.power.state = .starting) (c : PowerCause) (o : PowerOutcome) :
    (s.enterOn c o).sound := by
  let on := s.setPower { s.power with state := .on }
  have cool := h.running_cool (by rw [starting]; rfl)
  have begun : on.coherent :=
    { h.coherent with
      idle := fun _ => rfl
      mark := fun _ => rfl
      autoOff := fun runs => by
        have stopped := (h.no_timers (by simp [starting]) (by simp [starting])).2.2
        replace runs : s.power.autoOff.isSome = true := runs
        simp [stopped] at runs
      flight := fun _ => rfl
      hold := fun _ => rfl }
  have idles := on.retestIdle_idles
  have watch := on.retestIdle.retestWatch_drawn
  have state : on.retestIdle.retestWatch.power.state = .on := watch.state_of nofun
  have told : on.retestIdle.retestWatch.unmoved (s.enterOn c o) := {}
  refine told.sound (State.measuring.sound ?_ (State.retestWatch_steady (idles.coherent begun)
    (idles.idleTested begun) h.slotted) state nofun nofun ?_ fun _ => watch.recovery.trans cool)
  · exact (h.measuring (by simp [starting]) (by simp [starting])).of_same (State.retestWatch_inputs _) watch.scan
  · exact watch.intent.trans (h.intent.mpr (by rw [starting]; rfl))

theorem State.enterStarting_entered (s : State) (c : PowerCause) (o : PowerOutcome) :
    s.entered (s.enterStarting c o) := by
  unfold State.enterStarting
  dsimp only
  refine State.entered.trans ?_ (State.reportPower_entered _ _ _ _)
  have begun := s.setPower_entered { s.power with state := .starting }
  split
  · exact (begun.trans (.of_frame (State.stopScan_frame _))).trans (State.wakeInputs_awake _).1.entered
  case h_2 | h_3 => exact (begun.trans (State.setPower_entered _ _)).trans (State.retestWatch_drawn _).entered
  all_goals exact begun

/-- The entry to STARTING with the intent ON: from STANDBY the monitor resumes and the scan groups stop, from ON and
DIMMED idle and the loss watch end. -/
theorem State.enterStarting_sound (h : s.steady) (cool : s.recovery = false) (intent : s.power.intent = true)
    (from_state : s.power.state ∉ [PowerState.starting, .shutdown]) (awake : s.power.state ≠ .standby → s.measuring)
    (c : PowerCause) (o : PowerOutcome) : (s.enterStarting c o).sound := by
  have stopped := h.no_timers
  have begun (still : ¬s.power.state.running = true) (on : s.power.state ≠ .on) (dimmed : s.power.state ≠ .dimmed) :
      (s.setPower { s.power with state := .starting }).steady :=
    h.setPower on dimmed nofun nofun (fun runs => absurd runs still) (stopped on dimmed)
  unfold State.enterStarting
  dsimp only
  refine State.reportPower_sound ?_ _ c o
  split <;> rename_i was
  case h_1 =>
    let dark := (s.setPower { s.power with state := .starting }).stopScan
    obtain ⟨drawn, keeps, awakes⟩ := dark.wakeInputs_awake
    have state : dark.wakeInputs.power.state = .starting := drawn.state_of nofun
    have quiet : dark.steady := State.alike.steady {} (begun (by simp [was, PowerState.running]) (by simp [was])
      (by simp [was]))
    refine State.measuring.sound (s := dark.wakeInputs) ⟨awakes, fun g => ?_⟩ (keeps quiet) state nofun nofun
      (drawn.intent.trans intent) fun _ => drawn.recovery.trans cool
    have stopped : dark.scan.get g = ⟨none, Vector.replicate 8 0⟩ := vector_get_replicate _ g
    simp [drawn.scan, stopped]
  case h_2 | h_3 =>
    let idle := s.setPower { s.power.stopTimers with state := .starting }
    have drawn := idle.retestWatch_drawn
    have coherent : idle.coherent :=
      { h.coherent with
        idle := nofun
        mark := nofun
        autoOff := nofun
        flight := fun _ => rfl
        hold := fun _ => rfl }
    exact State.measuring.sound (s := idle.retestWatch)
      ((awake (by simp [was])).of_same (State.retestWatch_inputs _) drawn.scan)
      (State.retestWatch_steady coherent (iff_of_false nofun nofun) h.slotted) (drawn.state_of nofun) nofun nofun
      (drawn.intent.trans intent) fun _ => drawn.recovery.trans cool
  case h_5 =>
    exact State.measuring.sound ((awake (by simp [was])).of_same rfl rfl)
      (begun (by simp [was, PowerState.running]) (by simp [was]) (by simp [was])) rfl nofun nofun intent fun _ => cool
  all_goals simp [was] at from_state

/-! ### STOPPING -/

theorem State.dropSwitch_dropped (s : State) :
    s.drawn s.dropSwitch ∧ s.dropSwitch.inputs = s.inputs ∧ s.dropSwitch.power = s.power
      ∧ s.dropSwitch.sw.inFlight = none := by
  unfold State.dropSwitch
  split
  · rename_i no_flight
    exact ⟨.refl s, rfl, rfl, no_flight⟩
  · refine ⟨(s.putSwitch_drawn _).trans (State.sourced.of_alike ?_ {}).drawn, rfl, rfl, rfl⟩
    exact ((State.runPicture_frame _).trans (State.reportSwitch_frame _ _ _ _ _ _).toSource).trans
      (State.sendUpdate_frame _ _ _)

theorem State.dropPending_dropped (s : State) (o : SwitchOutcome) :
    (s.dropPending o).inputs = s.inputs ∧ (s.dropPending o).power = s.power
      ∧ (s.dropPending o).sw.inFlight = s.sw.inFlight ∧ (s.dropPending o).sw.slot = none := by
  unfold State.dropPending
  split
  · rename_i no_slot
    exact ⟨rfl, rfl, rfl, no_slot⟩
  · exact ⟨rfl, rfl, rfl, rfl⟩

/-- The switch unit stops with nothing in flight, pending or held, and the loss watch in WATCHING (R138). -/
theorem State.stopSwitching_stopped (s : State) :
    s.drawn s.stopSwitching ∧ s.stopSwitching.inputs = s.inputs ∧ s.stopSwitching.power = s.power
      ∧ s.stopSwitching.sw.inFlight = none ∧ s.stopSwitching.sw.slot = none ∧ s.stopSwitching.sw.hold = none
      ∧ s.stopSwitching.sw.watch = .watching ∧ s.stopSwitching.sw.grace = none := by
  obtain ⟨drawn, inputs, power, flight⟩ := s.dropSwitch_dropped
  obtain ⟨inputs', power', flight', slot⟩ := s.dropSwitch.dropPending_dropped .superseded
  refine ⟨(drawn.trans (State.dropPending_sourced _ _).drawn).trans (State.putSwitch_drawn _ _),
    inputs'.trans inputs, power'.trans power, flight'.trans flight, slot, rfl, rfl, rfl⟩

theorem State.enterStopping_entered (s : State) (c : PowerCause) (o : PowerOutcome) :
    s.entered (s.enterStopping c o) :=
  ((((s.setPower_entered _).trans (State.stopWake_entered _)).trans
    (State.stopSwitching_stopped _).1.entered).trans (State.closeWindow_entered _ _)).trans
    (State.reportPower_entered _ _ _ _)

/-- STOPPING runs nothing but the monitor, whatever stood before. -/
theorem State.enterStopping_sound (h : s.measuring) (monitored : ∀ i, (s.input i).monitored)
    (intent : s.power.intent = false) (c : PowerCause) (o : PowerOutcome) :
    (s.enterStopping c o).sound ∧ (s.enterStopping c o).power.state = .stopping := by
  let entered := (s.setPower { s.power.stopTimers with state := .stopping, degraded := false }).stopWake
  obtain ⟨drawn, inputs, power, flight, slot, hold, watch, grace⟩ := entered.stopSwitching_stopped
  have state : entered.stopSwitching.power.state = .stopping := by rw [power]; rfl
  have told : entered.stopSwitching.unmoved (s.enterStopping c o) :=
    (State.closeWindow_unmoved _ _).trans (State.unmoved.mk {})
  have steady : entered.stopSwitching.steady :=
    { monitored := fun i => by unfold State.input; rw [inputs]; exact monitored i
      grace := by rw [grace, watch]; exact iff_of_false nofun nofun
      idle := by rw [power]; nofun
      mark := by rw [power]; nofun
      autoOff := by rw [power]; nofun
      flight := by rw [flight]; nofun
      hold := by rw [hold]; nofun
      target := by rw [flight]; nofun
      idleTested := iff_of_false (by rw [power]; nofun) (by simp [State.idleHolds, state])
      watchTested := by simp [State.watchTested, State.watchActs, state, watch]
      slotted := by simp [State.slotted, slot] }
  exact ⟨told.sound (State.measuring.sound (h.of_same inputs drawn.scan) steady state nofun nofun
    (drawn.intent.trans intent) nofun), told.state.trans state⟩

/-! ### STANDBY and SHUTDOWN -/

/-- The power unit goes from one state in which the projector does not run to another. -/
theorem State.steady.setPower_resting (h : s.steady) (resting : s.power.state.running = false) {p : PowerUnit}
    (not_running : p.state.running = false) (idle : p.idle = none ∨ p.idle = s.power.idle)
    (mark : p.idleExpired = false ∨ p.idleExpired = s.power.idleExpired)
    (autoOff : p.autoOff = none ∨ p.autoOff = s.power.autoOff) : (s.setPower p).steady := by
  have other {q : PowerState} (off : q.running = false) : q ≠ .on ∧ q ≠ .dimmed := by
    constructor <;> (rintro rfl; cases off)
  obtain ⟨on, dimmed⟩ := other resting
  obtain ⟨not_on, not_dimmed⟩ := other not_running
  obtain ⟨no_idle, no_mark, no_autoOff⟩ := h.no_timers on dimmed
  exact h.setPower on dimmed not_on not_dimmed (by simp [resting])
    ⟨idle.elim id (·.trans no_idle), mark.elim id (·.trans no_mark), autoOff.elim id (·.trans no_autoOff)⟩

theorem State.enterStandby_entered (s : State) (c : PowerCause) : s.entered (s.enterStandby c) := by
  unfold State.enterStandby
  dsimp only
  have reported := ((((s.setPower_entered { s.power with state := .standby, degraded := false }).trans
    (State.sleepInputs_dormant _).1.entered).trans (State.closeWindow_entered _ .cancelledState)).trans
    (State.startScan_entered _)).trans (State.reportPower_entered _ s.power.state c .none)
  split
  · exact reported.trans (State.endHold_entered _ _)
  · exact reported

/-- With the monitor stopped and both scan groups running, STANDBY is sound. -/
theorem State.startScan_sound (h : s.steady) (standby : s.power.state = .standby)
    (dormant : ∀ i, (s.input i).signal = .dormant) (intent : s.power.intent = false) (cool : s.recovery = false) :
    s.startScan.sound where
  steady := s.startScan_alike.steady h
  dormant i := iff_of_true (dormant i) (.inl standby)
  scans g := by
    rw [State.startScan_get]
    exact iff_of_true rfl standby
  intent := by simp [State.startScan, State.startGroup, intent, standby, PowerState.running]
  recovers hot := by simp [State.startScan, State.startGroup, cool] at hot
  shut shut := by simp [State.startScan, State.startGroup, standby] at shut

/-- STANDBY runs the scan groups and nothing else. -/
theorem State.enterStandby_sound (h : s.steady) (resting : s.power.state.running = false)
    (intent : s.power.intent = false) (cool : s.recovery = false) (c : PowerCause) : (s.enterStandby c).sound := by
  let off := s.setPower { s.power with state := .standby, degraded := false }
  have begun : off.steady := h.setPower_resting resting rfl (.inr rfl) (.inr rfl) (.inr rfl)
  obtain ⟨drawn, keeps, dormant⟩ := off.sleepInputs_dormant
  have standby : off.sleepInputs.power.state = .standby := drawn.state_of nofun
  have closed := off.sleepInputs.closeWindow_unmoved .cancelledState
  have scanned : (off.sleepInputs.closeWindow .cancelledState).startScan.sound :=
    State.startScan_sound (closed.alike.steady (keeps begun)) (closed.state.trans standby)
      (fun i => by rw [closed.input]; exact dormant i) (closed.intent.trans (drawn.intent.trans intent))
      (closed.recovery.trans (drawn.recovery.trans cool))
  have reported := State.reportPower_sound scanned s.power.state c .none
  unfold State.enterStandby
  dsimp only
  split
  · exact (State.endHold_unmoved _ _).sound reported
  · exact reported

theorem State.enterShutdown_entered (s : State) (c : PowerCause) : s.entered (s.enterShutdown c) :=
  (((((s.setPower_entered _).trans (State.stopWake_entered _)).trans (.of_frame (State.stopScan_frame _))).trans
    (State.sleepInputs_dormant _).1.entered).trans (State.closeWindow_entered _ _)).trans
    (State.reportPower_entered _ _ _ _)

/-- SHUTDOWN runs nothing, and thermal recovery stands. -/
theorem State.enterShutdown_sound (h : s.steady) (resting : s.power.state.running = false)
    (intent : s.power.intent = false) (hot : s.recovery = true) (c : PowerCause) : (s.enterShutdown c).sound := by
  let entered := s.setPower { s.power.stopTimers with state := .shutdown, degraded := false }
  let off := entered.stopWake.stopScan
  have begun : off.steady := State.alike.steady (s := entered) {}
    (h.setPower_resting resting rfl (.inl rfl) (.inl rfl) (.inl rfl))
  obtain ⟨drawn, keeps, dormant⟩ := off.sleepInputs_dormant
  have shutdown : off.sleepInputs.power.state = .shutdown := drawn.state_of nofun
  have dark : off.sleepInputs.sound :=
    { steady := keeps begun
      dormant := fun i => iff_of_true (dormant i) (.inr shutdown)
      scans := fun g => by
        have stopped : off.scan.get g = ⟨none, Vector.replicate 8 0⟩ := vector_get_replicate _ g
        simp [drawn.scan, stopped, shutdown]
      intent := by
        rw [shutdown, drawn.intent]
        refine iff_of_false ?_ nofun
        simpa [off, entered, State.stopScan, State.stopWake, PowerUnit.stopTimers] using intent
      recovers := fun _ => by rw [shutdown]; rfl
      shut := fun _ => drawn.recovery.trans hot }
  have closed := (off.sleepInputs.closeWindow_unmoved .cancelledState).sound dark
  exact State.reportPower_sound closed s.power.state c .none

theorem State.tryStandby_entered (s : State) : s.entered s.tryStandby := by
  unfold State.tryStandby
  split
  · exact s.enterStandby_entered _
  · exact .refl s

theorem State.tryStandby_sound (h : s.sound) : s.tryStandby.sound := by
  unfold State.tryStandby
  split
  · rename_i ends
    obtain ⟨stopping, cool, -⟩ := ends
    have resting : s.power.state.running = false := by rw [stopping]; rfl
    exact State.enterStandby_sound h.steady resting
      (Bool.eq_false_iff.mpr fun on => by simpa [resting] using h.intent.mp on) (Bool.eq_false_iff.mpr cool) _
  · exact h

/-! ## The tests on lamp events (R164) -/

theorem State.noLampInPlay_entered (s : State) : s.entered s.noLampInPlay :=
  ((s.setPower_entered _).trans (State.enterStopping_entered _ _ _)).trans (State.tryStandby_entered _)

theorem State.noLampInPlay_sound (h : s.measuring) (monitored : ∀ i, (s.input i).monitored) : s.noLampInPlay.sound :=
  State.tryStandby_sound (State.enterStopping_sound (s := s.setPower s.power.noIntent) (h.of_same rfl rfl) monitored
    rfl _ _).1

/-- What the tests on a lamp event make of a state whose degraded mark is settled: nothing, a report, or one move of
the power state (R164). -/
inductive State.PowerMove (v : State) : State → Prop where
  | stays : v.PowerMove v
  | tells (p : PowerState) (c : PowerCause) (o : PowerOutcome) : v.PowerMove (v.reportPower p c o)
  | lights (c : PowerCause) (o : PowerOutcome) (starting : v.power.state = .starting) : v.PowerMove (v.enterOn c o)
  | darkens (c : PowerCause) (o : PowerOutcome) (lit : v.power.state = .on ∨ v.power.state = .dimmed) :
    v.PowerMove (v.enterStarting c o)
  | stops (running : v.power.state.running = true) : v.PowerMove v.noLampInPlay
  | rests : v.PowerMove v.tryStandby

theorem State.lampEvent_move (s : State) (told : PlaySignal) :
    ∃ d, (s.setPower { s.power with degraded := d }).PowerMove (s.lampEvent told) := by
  unfold State.lampEvent
  dsimp only
  split <;> rename_i was
  case h_1 =>
    rw [if_pos was]
    split
    · exact ⟨_, .stops (congrArg PowerState.running was)⟩
    all_goals
      split
      · exact ⟨_, .lights _ _ was⟩
      · split
        · exact ⟨_, .tells _ _ _⟩
        · exact ⟨_, .stays⟩
  case h_2 | h_3 =>
    rw [if_neg (by simp [was])]
    split
    · exact ⟨_, .stops (congrArg PowerState.running was)⟩
    all_goals
      split
      · exact ⟨_, .darkens _ _ (by simp [was])⟩
      · split
        · exact ⟨_, .tells _ _ _⟩
        · exact ⟨_, .stays⟩
  case h_4 => exact ⟨_, .rests⟩
  all_goals exact ⟨_, .stays⟩

theorem State.PowerMove.entered (h : s.PowerMove t) : s.entered t := by
  cases h with
  | stays => exact .refl s
  | tells p c o => exact s.reportPower_entered p c o
  | lights c o starting => exact s.enterOn_entered c o
  | darkens c o lit => exact s.enterStarting_entered c o
  | stops running => exact s.noLampInPlay_entered
  | rests => exact s.tryStandby_entered

theorem State.PowerMove.sound (h : s.PowerMove t) (k : s.sound) : t.sound := by
  cases h with
  | stays => exact k
  | tells p c o => exact State.reportPower_sound k p c o
  | lights c o starting => exact State.enterOn_sound k starting c o
  | darkens c o lit =>
    have running : s.power.state.running = true := by rcases lit with on | on <;> (rw [on]; rfl)
    refine State.enterStarting_sound k.steady (k.running_cool running) (k.intent.mpr running) ?_ (fun _ => ?_) c o
    · rcases lit with on | on <;> simp [on]
    · rcases lit with on | on <;> exact k.measuring (by simp [on]) (by simp [on])
  | stops running => exact State.noLampInPlay_sound (k.running_measuring running) k.monitored
  | rests => exact State.tryStandby_sound k

theorem State.lampEvent_entered (s : State) (told : PlaySignal) : s.entered (s.lampEvent told) := by
  obtain ⟨d, move⟩ := s.lampEvent_move told
  exact (s.setPower_entered _).trans move.entered

theorem State.lampEvent_sound (h : s.sound) (told : PlaySignal) : (s.lampEvent told).sound := by
  obtain ⟨d, move⟩ := s.lampEvent_move told
  exact move.sound (State.unmoved.sound {} h)

/-! ## What every command upholds -/

/-- No rule's counter exceeds its limit, and no rule's limit is 0 (R45, R52, R53). -/
def State.countsSound (s : State) : Prop := (∀ i, 1 ≤ (s.conf.rules.get i).limit) ∧ s.countersWithin

/-- What an operation keeps on the way from `s` to `t`: what the power states run, the lamps at rest in thermal
recovery, and the counters within their limits. -/
structure State.upholds (s t : State) : Prop where
  sound : s.sound → t.sound
  guarded : s.sound → s.guarded → t.guarded
  counts : s.countsSound → t.countsSound

theorem State.upholds.refl (s : State) : s.upholds s := ⟨id, fun _ => id, id⟩

theorem State.upholds.trans (h : s.upholds t) (k : t.upholds u) : s.upholds u :=
  ⟨k.sound ∘ h.sound, fun sound => k.guarded (h.sound sound) ∘ h.guarded sound, k.counts ∘ h.counts⟩

theorem State.countsSound_of_same (rules : t.conf.rules = s.conf.rules) (counters : t.counters = s.counters)
    (h : s.countsSound) : t.countsSound := by
  unfold State.countsSound State.countersWithin
  rw [rules, counters]
  exact h

/-- A change of none of the fields that are upheld. -/
theorem State.upholds.of_unmoved (h : s.unmoved t) (lamps : ∀ x, t.lamp x = s.lamp x := by intro x; cases x <;> rfl)
    (rules : t.conf.rules = s.conf.rules := by rfl) (counters : t.counters = s.counters := by rfl) : s.upholds t where
  sound := h.sound
  guarded _ k hot x := by
    rw [lamps]
    exact k (h.recovery.symm.trans hot) x
  counts := State.countsSound_of_same rules counters

/-- An operation that reaches only what a lamp event can reach, and leaves thermal recovery. -/
theorem State.entered.upholds (h : s.entered t) (sound : s.sound → t.sound) : s.upholds t where
  sound := sound
  guarded _ k hot := h.lamps (k (h.recovery.symm.trans hot))
  counts := State.countsSound_of_same (by rw [h.frame]) (by rw [h.frame])

theorem State.sourced.upholds (h : s.sourced t) : s.upholds t := h.drawn.entered.upholds h.sound

theorem State.lampsOnly.unmoved (h : s.lampsOnly t) : s.unmoved t := by
  rw [h]
  exact {}

/-- An operation of the lamps keeps all but the lamps; those it may move only where they were not at rest. -/
theorem State.lampsOnly.upholds (h : s.lampsOnly t) (lamps : s.sound → s.recovery = true → s.atRest → t.atRest) :
    s.upholds t where
  sound := h.unmoved.sound
  guarded sound k hot :=
    have was := h.unmoved.recovery.symm.trans hot
    lamps sound was (k was)
  counts := State.countsSound_of_same (by rw [h]) (by rw [h])

theorem State.foldl_upholds {α : Type} (f : State → α → State) (h : ∀ (s : State) (a : α), s.upholds (f s a))
    (as : List α) (s : State) : s.upholds (as.foldl f s) := by
  induction as generalizing s with
  | nil => exact .refl s
  | cons a as ih => exact (h s a).trans (ih _)

theorem State.offer_upholds (s : State) (r : Report) : s.upholds (s.offer r) := .of_unmoved {}

theorem State.setLink_upholds (s : State) (l : Link) (k : LinkState) : s.upholds (s.setLink l k) := by
  cases l
  · exact .of_unmoved {}
  · exact .of_unmoved {}

theorem State.lampEvent_upholds (s : State) (told : PlaySignal) : s.upholds (s.lampEvent told) :=
  (s.lampEvent_entered told).upholds fun h => State.lampEvent_sound h told

/-! ## Lamps at rest -/

/-- A lamp changes, and stays at rest if both were. -/
theorem State.setLamp_atRest (s : State) (x : LampId) {m : Lamp} (still : s.atRest → m.still) (h : s.atRest) :
    (s.setLamp x m).atRest := fun y => by
  rw [State.lamp_setLamp]
  split
  · exact still h
  · exact h y

/-- A lamp changes in nothing that being at rest reads. -/
theorem State.setLamp_atRest_same (h : s.atRest) (x : LampId) (m : Lamp) (state : m.state = (s.lamp x).state := by rfl)
    (called : m.called = (s.lamp x).called := by rfl) (waiting : m.waiting = (s.lamp x).waiting := by rfl) :
    (s.setLamp x m).atRest :=
  s.setLamp_atRest x (fun rest => by
    unfold Lamp.still
    rw [state, called, waiting]
    exact rest x) h

theorem State.checkpoint_atRest (h : s.atRest) : s.checkpoint.atRest := fun x => by
  rw [State.lamp_checkpoint]
  exact h x

theorem State.checkpointFor_atRest (h : s.atRest) (x : LampId) : (s.checkpointFor x).atRest :=
  State.checkpoint_atRest (State.setLamp_atRest_same h x _)

theorem State.offer_atRest (h : s.atRest) (r : Report) : (s.offer r).atRest := fun x => by
  rw [State.lamp_offer]
  exact h x

theorem State.condition_atRest (h : s.atRest) (x : LampId) (k : IncidentKind) : (s.condition x k).atRest := by
  unfold State.condition
  exact State.offer_atRest (State.setLamp_atRest_same h x _) _

theorem State.conditionIf_atRest (h : s.atRest) (b : Bool) (x : LampId) (k : IncidentKind) :
    (s.conditionIf b x k).atRest := by
  unfold State.conditionIf
  split
  · exact State.condition_atRest h x k
  · exact h

theorem State.testThresholds_atRest (h : s.atRest) (x : LampId) : (s.testThresholds x).atRest := by
  have flagged : (s.setLamp x (s.flagged (s.lamp x))).atRest := State.setLamp_atRest_same h x _
  unfold State.testThresholds
  exact State.conditionIf_atRest (State.conditionIf_atRest (State.conditionIf_atRest flagged _ _ _) _ _ _) _ _ _

theorem State.addWear_atRest (h : s.atRest) (x : LampId) (n : Nat) : (s.addWear x n).atRest :=
  State.testThresholds_atRest (State.setLamp_atRest_same h x _) x

theorem State.moveLamp_still (s : State) (x : LampId) {f : Lamp → Lamp} (b : Bool) (c : LampCause)
    (still : (f (s.lamp x)).still) : ((s.moveLamp x f b c).lamp x).still := by
  unfold State.moveLamp State.reportLamp
  rw [State.lamp_offer]
  split
  · rw [State.checkpointFor, State.lamp_checkpoint, State.lamp_setLamp_same, State.lamp_putLamp_same]
    exact still
  · rw [State.lamp_putLamp_same]
    exact still

theorem State.lamp_moveLamp_other (s : State) {x y : LampId} (other : y ≠ x) (f : Lamp → Lamp) (b : Bool)
    (c : LampCause) : (s.moveLamp x f b c).lamp y = s.lamp y := by
  unfold State.moveLamp State.reportLamp
  rw [State.lamp_offer]
  split
  · rw [State.checkpointFor, State.lamp_checkpoint, State.lamp_setLamp_other _ other,
      State.lamp_putLamp_other _ other]
  · rw [State.lamp_putLamp_other _ other]

theorem State.moveLamp_atRest (s : State) (x : LampId) {f : Lamp → Lamp} (b : Bool) (c : LampCause)
    (still : s.atRest → (f (s.lamp x)).still) (h : s.atRest) : (s.moveLamp x f b c).atRest := fun y => by
  by_cases this : y = x
  · rw [this]
    exact s.moveLamp_still x b c (still h)
  · rw [s.lamp_moveLamp_other this]
    exact h y

theorem State.extinguish_atRest (h : s.atRest) (x : LampId) (b : Bool) (c : LampCause) : (s.extinguish x b c).atRest :=
  s.moveLamp_atRest x true c (fun _ => ⟨by simp [State.extinguished], rfl, rfl⟩) h

/-- A call that ends in DARK or HOT leaves a lamp that waits for nothing still. -/
theorem State.endedDark_still (s : State) {m : Lamp} (waiting : m.waiting = false) : (s.endedDark m).still := by
  refine ⟨?_, rfl, waiting⟩
  unfold State.endedDark State.darkOrHot
  dsimp only
  split <;> simp

theorem Lamp.outNow_still (m : Lamp) : m.outNow.still := ⟨by simp [Lamp.outNow], rfl, rfl⟩

theorem State.strikeFailed_atRest (h : s.atRest) (x : LampId) (b : Bool) : (s.strikeFailed x b).1.atRest := by
  have quiet : (!(s.lamp x).called) = true := by simp [(h x).2.1]
  unfold State.strikeFailed
  rw [if_pos quiet]
  refine State.moveLamp_atRest _ x true _ (fun rest => s.endedDark_still ?_) (State.condition_atRest h x _)
  exact (rest x).2.2

theorem State.faultInIgnite_atRest (h : s.atRest) (x : LampId) : (s.faultInIgnite x).1.atRest := by
  unfold State.faultInIgnite
  split
  · exact State.strikeFailed_atRest h x true
  · exact State.moveLamp_atRest _ x true _ (fun _ => Lamp.outNow_still _) (State.condition_atRest h x _)

theorem State.takeFault_atRest (h : s.atRest) (x : LampId) : (s.takeFault x).1.atRest := by
  unfold State.takeFault
  split
  case h_1 => exact State.faultInIgnite_atRest h x
  case h_2 => exact State.moveLamp_atRest _ x true _ (fun _ => Lamp.outNow_still _) (State.condition_atRest h x _)
  case h_3 | h_4 | h_5 => exact State.extinguish_atRest (State.condition_atRest h x _) x _ _
  all_goals exact h

/-- A lamp that waits to be struck in HOT is not at rest, so one that is stays DARK (R82). -/
theorem State.reachDark_atRest (h : s.atRest) (x : LampId) : (s.reachDark x).1.atRest := by
  have idle : (s.lamp x).waiting = false := (h x).2.2
  unfold State.reachDark
  rw [if_neg (by simp [idle])]
  exact s.moveLamp_atRest x false _ (fun rest => ⟨by simp, (rest x).2.1, rfl⟩) h

theorem State.cooled_atRest (h : s.atRest) (x : LampId) : (s.cooled x).1.atRest := by
  unfold State.cooled
  dsimp only
  split
  · exact s.moveLamp_atRest x true _ (fun rest => ⟨by simp, (rest x).2.1, (rest x).2.2⟩) h
  · have hot := s.moveLamp_atRest x (f := fun m => { m with state := .hot, timer := none }) false .cooled
      (fun rest => ⟨by simp, (rest x).2.1, (rest x).2.2⟩) h
    split
    · exact State.reachDark_atRest hot x
    · exact hot

theorem State.releaseLamp_atRest (h : s.atRest) (x : LampId) : s.releaseLamp x = s := by
  simp [State.releaseLamp, (h x).2.1]

theorem State.serviceLamp_atRest (h : s.atRest) (x : LampId) : (s.serviceLamp x).atRest :=
  s.moveLamp_atRest x false _ (fun _ => ⟨by simp, rfl, rfl⟩) h

theorem State.dimLamp_atRest (h : s.atRest) (x : LampId) : s.dimLamp x = s := by
  have dark : (s.lamp x).state ≠ .lit := fun lit => by simpa [lit] using (h x).1
  simp [State.dimLamp, dark]

theorem State.relevelLamp_atRest (h : s.atRest) (x : LampId) : (s.relevelLamp x).atRest := by
  unfold State.relevelLamp
  split
  · exact s.moveLamp_atRest x false _ (fun rest => rest x) h
  · exact h

/-! ## Lamp events -/

theorem State.sound.no_intent (h : s.sound) (hot : s.recovery = true) : s.power.intent = false :=
  Bool.eq_false_iff.mpr fun on => by simpa [h.recovers hot] using h.intent.mp on

/-- With the intent OFF nothing takes over from a lamp that has left play (R89). -/
theorem State.failover_of_no_intent (off : s.power.intent = false) (x : LampId) (n : Nat) : (s.failover x n).1 = s := by
  cases n with
  | zero => rfl
  | succ n => simp [State.failover, off]

theorem LampMove.settle_upholds (r : LampMove) (x : LampId) : r.1.upholds (LampMove.settle r x).1 := by
  refine (LampMove.settle_frame r x).upholds fun sound hot rest => ?_
  unfold LampMove.settle
  split
  · rw [State.failover_of_no_intent (sound.no_intent hot)]
    exact rest
  · exact rest

theorem LampMove.finish_upholds (r : LampMove) (x : LampId) : r.1.upholds (LampMove.finish r x) :=
  (LampMove.settle_upholds r x).trans (State.lampEvent_upholds _ _)

/-! ## Thermal recovery -/

/-- An operation that reaches what a lamp event can reach, thermal recovery with it. -/
theorem State.lampPathOnly.upholds (h : s.lampPathOnly t) (sound : s.sound → t.sound)
    (guarded : s.sound → s.guarded → t.guarded) : s.upholds t where
  sound := sound
  guarded := guarded
  counts := State.countsSound_of_same (by rw [h]) (by rw [h])

theorem State.endRecovery_upholds (s : State) (hot : s.recovery = true) (other : s.power.state ≠ .shutdown) :
    s.upholds s.endRecovery := by
  unfold State.endRecovery
  split
  · let told := s.reportThermal .shutdown
    let off := told.setPower { told.power with intent := false }
    have alike : s.alike off := {}
    refine State.entered.upholds (((State.entered.of_frame (s.reportThermal_frame .shutdown).toPath).trans
      (State.setPower_entered _ _)).trans (State.enterShutdown_entered _ _)) fun h => ?_
    exact State.enterShutdown_sound (s := off) (alike.steady h.steady) (h.recovers hot) rfl hot .thermal
  · have cleared (h : s.sound) : (s.setRecovery false).sound :=
      { h with
        steady := State.alike.steady {} h.steady
        recovers := nofun
        shut := fun shut => absurd shut other }
    have told : (s.setRecovery false).unmoved ((s.setRecovery false).reportThermal .recovered) := {}
    have ended := State.tryStandby_entered ((s.setRecovery false).reportThermal .recovered)
    refine State.lampPathOnly.upholds (((s.setRecovery_frame false).trans (State.reportThermal_frame _ _).toPath).trans
      ended.frame) (fun h => State.tryStandby_sound (told.sound (cleared h))) fun _ _ hot => ?_
    exact absurd (ended.recovery.symm.trans hot) Bool.false_ne_true

theorem State.tryEndRecovery_upholds (s : State) : s.upholds s.tryEndRecovery := by
  unfold State.tryEndRecovery
  split
  · rename_i ends
    obtain ⟨hot, -, other⟩ := ends
    exact s.endRecovery_upholds hot other
  · exact .refl s

theorem State.alarmPower_entered (s : State) : s.entered s.alarmPower := by
  unfold State.alarmPower
  dsimp only
  split
  case h_1 | h_2 | h_3 => exact (s.setPower_entered _).trans (State.enterStopping_entered _ _ _)
  all_goals exact s.setPower_entered _

/-- The power unit takes an alarm with thermal recovery set: the projector stops, or stays stopped (R112). -/
theorem State.alarmPower_sound (h : s.steady)
    (dormant : ∀ i, (s.input i).signal = .dormant ↔ s.power.state = .standby ∨ s.power.state = .shutdown)
    (scans : ∀ g : GroupId, (s.scan.get g).interval.isSome = true ↔ s.power.state = .standby)
    (hot : s.recovery = true) : s.alarmPower.sound := by
  have measuring (standby : s.power.state ≠ .standby) (shutdown : s.power.state ≠ .shutdown) : s.measuring :=
    ⟨fun i => by simp [dormant, standby, shutdown], fun g => by simp [scans, standby]⟩
  have off : (s.setPower s.power.noIntent).steady := State.alike.steady {} h
  unfold State.alarmPower
  dsimp only
  split <;> rename_i was
  case h_1 | h_2 | h_3 =>
    exact (State.enterStopping_sound (s := s.setPower s.power.noIntent)
      ((measuring (by simp [was]) (by simp [was])).of_same rfl rfl) h.monitored rfl _ _).1
  all_goals
    exact
      { steady := off
        dormant := dormant
        scans := scans
        intent := iff_of_false nofun (by simp [PowerUnit.noIntent, was, PowerState.running])
        recovers := fun _ => by simp [PowerUnit.noIntent, was, PowerState.running]
        shut := fun _ => hot }

/-- A thermal alarm told and noted, with thermal recovery set: steps 1 to 3 of R112. -/
def State.alarmTold (s : State) : State :=
  (((s.offer (.thermal { event := .alarm, input := s.thermalInput, recovery := true, latch := s.latch })
    ).condition .a .thermal).condition .b .thermal).setRecovery true

/-- The part once the lamps and the power unit have taken an alarm, before recovery can end: steps 4 and 5 of R112. -/
def State.alarmTaken (s : State) : State := ((s.alarmTold.thermalLamp .a).thermalLamp .b).alarmPower

theorem State.alarmTold_alike (s : State) : s.alike s.alarmTold := {}

/-- A thermal alarm that is taken stops the projector, and begins thermal recovery (R111, R112). -/
theorem State.alarmTaken_sound (h : s.sound) : s.alarmTaken.sound := by
  have lamps := ((State.thermalLamp_frame s.alarmTold .a).trans (State.thermalLamp_frame _ .b)).unmoved
  have alike := s.alarmTold_alike.trans lamps.alike
  refine State.alarmPower_sound (alike.steady h.steady) (fun i => ?_) (fun g => ?_) lamps.recovery
  · rw [alike.input, alike.state]
    exact h.dormant i
  · rw [lamps.scan, alike.state]
    exact h.scans g

theorem State.thermalAlarm_sound (h : s.sound) : s.thermalAlarm.sound :=
  (State.tryEndRecovery_upholds _).sound (State.alarmTaken_sound h)

/-- An alarm finds no lamp called that it does not stop, where the lamps' flags go with their states (R84). -/
theorem Lamp.playSound.still {m : Lamp} (h : m.playSound)
    (stopped : m.state ∉ [LampState.ignite, .warmup, .lit, .dimmed, .retryWait]) (idle : m.waiting = false) :
    m.still := by
  unfold Lamp.playSound at h
  unfold Lamp.still
  cases phase : m.state <;> simp_all

/-- The alarm leaves its lamp still, and the other as it was (R84). -/
theorem State.thermalLamp_stills (s : State) (x : LampId) (h : (s.lamp x).playSound) :
    ((s.thermalLamp x).lamp x).still ∧ ∀ y, y ≠ x → (s.thermalLamp x).lamp y = s.lamp y := by
  have moved (f : Lamp → Lamp) (b : Bool) (still : (f (s.lamp x)).still) :
      ((s.moveLamp x f b .thermal).lamp x).still ∧ ∀ y, y ≠ x → (s.moveLamp x f b .thermal).lamp y = s.lamp y :=
    ⟨s.moveLamp_still x b _ still, fun y other => s.lamp_moveLamp_other other f b _⟩
  unfold State.thermalLamp
  split <;> rename_i phase
  case h_1 | h_2 | h_3 | h_4 => exact moved _ true ⟨by simp [State.extinguished], rfl, rfl⟩
  case h_5 =>
    refine moved _ true (s.endedDark_still ?_)
    unfold Lamp.playSound at h
    rw [phase] at h
    exact h.2.2.1
  case h_6 | h_7 =>
    split
    · exact moved _ false ⟨by simp [phase], rfl, rfl⟩
    · rename_i idle
      exact ⟨h.still (by simp [phase]) (Bool.eq_false_iff.mpr idle), fun _ _ => rfl⟩
  all_goals
    refine ⟨h.still (by simp [phase]) ?_, fun _ _ => rfl⟩
    unfold Lamp.playSound at h
    rw [phase] at h
    exact h.2.1

theorem State.lampsInPlay.condition (h : s.lampsInPlay) (x : LampId) (k : IncidentKind) :
    (s.condition x k).lampsInPlay := fun y => by
  rw [State.condition, State.lamp_offer, State.lamp_setLamp]
  split
  · have := h x
    unfold Lamp.playSound at this ⊢
    exact this
  · exact h y

theorem State.alarmTold_inPlay (play : s.lampsInPlay) : s.alarmTold.lampsInPlay := by
  let told := s.offer (.thermal { event := .alarm, input := s.thermalInput, recovery := true, latch := s.latch })
  have begun : told.lampsInPlay := fun x => by rw [State.lamp_offer]; exact play x
  have noted := (begun.condition .a .thermal).condition .b .thermal
  intro x
  rw [State.alarmTold, State.setRecovery, State.lamp_driveFan]
  cases x
  · exact noted .a
  · exact noted .b

/-- An alarm brings both lamps to rest, where their flags go with their states. -/
theorem State.alarmTaken_atRest (play : s.lampsInPlay) : s.alarmTaken.atRest := by
  obtain ⟨stillA, otherA⟩ := s.alarmTold.thermalLamp_stills .a (State.alarmTold_inPlay play .a)
  obtain ⟨stillB, otherB⟩ := (s.alarmTold.thermalLamp .a).thermalLamp_stills .b
    (otherA .b nofun ▸ State.alarmTold_inPlay play .b)
  refine (State.alarmPower_entered _).lamps fun x => ?_
  cases x with
  | a => exact otherB .a nofun ▸ stillA
  | b => exact stillB

/-- After an alarm that is taken the lamps are at rest while thermal recovery is active (R84, R113). -/
theorem State.thermalAlarm_guarded (h : s.sound) (play : s.lampsInPlay) : s.thermalAlarm.guarded :=
  (State.tryEndRecovery_upholds _).guarded (State.alarmTaken_sound h) fun _ => State.alarmTaken_atRest play

theorem State.thermalAlarm_countsSound (h : s.countsSound) : s.thermalAlarm.countsSound :=
  State.countsSound_of_same (by rw [s.thermalAlarm_frame]) (by rw [s.thermalAlarm_frame]) h

end Sys2Proof.Machine
end

section
/-! PROOFS. The policy unit, the owning blocks and the requests uphold what the power states run, the lamps at rest in
thermal recovery and the counters within their limits (O59). -/

set_option Elab.async false

namespace Sys2Proof.Machine

variable {s t u : State} {l : Link} {x : LampId}

/-! ## Counters (R52 to R55) -/

/-- A rule and a counter that it allows. -/
def Rule.admits (r : Rule) (k : Counter) : Prop :=
  k.value ≤ r.limit ∧ (r.counterMode = .countUp → k.value < r.limit)

theorem Rule.loaded_admitted {r : Rule} (limit : 1 ≤ r.limit) : r.admits r.loaded := by
  refine ⟨?_, fun up => ?_⟩
  · unfold Rule.loaded
    dsimp only
    split <;> omega
  · simp only [Rule.loaded, up, reduceCtorEq, if_false]
    omega

theorem State.countersWithin.setCounter (h : s.countersWithin) (i : RuleId) {k : Counter}
    (fits : (s.conf.rules.get i).admits k) : (s.setCounter i k).countersWithin := fun j => by
  by_cases this : j = i
  · rw [this, State.counter_setCounter_same]
    exact fits
  · rw [State.counter_setCounter_other _ this]
    exact h j

theorem State.setCounter_upholds (s : State) (i : RuleId) (k : Counter)
    (fits : s.countsSound → (s.conf.rules.get i).admits k) : s.upholds (s.setCounter i k) where
  sound := State.unmoved.sound {}
  guarded _ h hot x := by cases x; exacts [h hot .a, h hot .b]
  counts h := ⟨h.1, h.2.setCounter i (fits h)⟩

theorem State.limitReached_upholds (s : State) (i : RuleId) (c : ReqClass) (k : Byte) :
    s.upholds (s.limitReached i c k) := by
  have zero {t : State} (h : t.countsSound) : (t.conf.rules.get i).admits { s.counters.get i with value := 0 } :=
    ⟨Nat.zero_le _, fun _ => h.1 i⟩
  unfold State.limitReached
  split
  · exact ((State.upholds.of_unmoved {}).trans ((State.offer_upholds _ _).trans (State.offer_upholds _ _))).trans
      (State.setCounter_upholds _ _ _ zero)
  · exact (s.offer_upholds _).trans (State.setCounter_upholds _ _ _ zero)

theorem State.count_upholds (s : State) (i : RuleId) (c : ReqClass) (k : Byte) : s.upholds (s.count i c k) := by
  unfold State.count
  dsimp only
  split
  · rename_i up
    split
    · exact s.limitReached_upholds i c k
    · rename_i below
      refine s.setCounter_upholds i _ fun h => ?_
      have := (h.2 i).2 up
      unfold Rule.admits
      dsimp only
      omega
  all_goals exact .refl s

theorem Working.takeRule_upholds (q : Question) (w : Working) (i : RuleId) : w.s.upholds (w.takeRule q i).s := by
  unfold Working.takeRule
  dsimp only
  split
  · exact State.count_upholds _ _ _ _
  · exact .refl _

theorem Working.foldRules_upholds (q : Question) (is : List RuleId) (w : Working) :
    w.s.upholds (is.foldl (Working.takeRule q) w).s := by
  induction is generalizing w with
  | nil => exact .refl _
  | cons i is ih => exact (Working.takeRule_upholds q w i).trans (ih _)

theorem State.evaluate_upholds (s : State) (c : ReqClass) (o : Operation) (p : Option Nat) :
    s.upholds (s.evaluate c o p).2 :=
  Working.foldRules_upholds _ _
    { s := s, priority := _, map := (s.conf.cell s.level c).map, lastMap := none, decided := none }

/-! ## The owning blocks -/

theorem State.closeWindow_upholds (s : State) (e : ConfirmEvent) : s.upholds (s.closeWindow e) :=
  (s.closeWindow_entered e).upholds (s.closeWindow_unmoved e).sound

theorem State.endHold_upholds (s : State) (c : CredCause) : s.upholds (s.endHold c) :=
  (s.endHold_entered c).upholds (s.endHold_unmoved c).sound

theorem State.releaseLamp_upholds (s : State) (x : LampId) : s.upholds (s.releaseLamp x) :=
  (s.releaseLamp_frame x).upholds fun _ _ rest => by rwa [State.releaseLamp_atRest rest]

theorem State.reportPower_upholds (s : State) (p : PowerState) (c : PowerCause) (o : PowerOutcome) :
    s.upholds (s.reportPower p c o) := s.offer_upholds _

/-- A call comes only while thermal recovery is not active (R113, R162). -/
theorem State.callLamps_upholds (s : State) (xs : List LampId) (cool : s.sound → s.recovery = false) :
    s.upholds (s.callLamps xs) :=
  (State.callLamps_frame xs s).upholds fun sound hot => by simp [cool sound] at hot

/-- POWER_ON with the lamps called: the intent is recorded and STARTING entered (R162). -/
theorem State.startRunning_upholds (s : State) (on : PowerUnit) (o : PowerOutcome)
    (cool : s.recovery = false) (resting : s.power.state = .standby ∨ s.power.state = .stopping)
    (alike : s.alike (s.setPower on)) (intent : on.intent = true) :
    s.upholds ((s.setPower on).enterStarting .request o) := by
  refine ((s.setPower_entered on).trans (State.enterStarting_entered _ _ _)).upholds fun h =>
    State.enterStarting_sound (alike.steady h.steady) cool intent ?_ (fun awake => ?_) _ _
  · rw [alike.state]
    rcases resting with was | was <;> simp [was]
  · rw [alike.state] at awake
    exact (h.measuring awake (by rcases resting with was | was <;> simp [was])).of_same rfl rfl

theorem State.startUpLamps_upholds (s : State) (a : Asker) (cool : s.recovery = false)
    (resting : s.power.state = .standby ∨ s.power.state = .stopping) : s.upholds (s.startUpLamps a).2 := by
  have called := s.callLamps_upholds s.planLamps fun _ => cool
  have frame := State.callLamps_frame s.planLamps s
  have still_cool : (s.callLamps s.planLamps).recovery = false := by rw [frame]; exact cool
  have still : (s.callLamps s.planLamps).power.state = .standby
      ∨ (s.callLamps s.planLamps).power.state = .stopping := by
    rw [frame.power]
    exact resting
  unfold State.startUpLamps
  dsimp only
  split
  · dsimp only
    exact (called.trans (State.reportPower_upholds _ _ _ _)).trans (State.lampEvent_upholds _ _)
  · exact called.trans (State.startRunning_upholds _ { State.power (s.callLamps s.planLamps) with
      intent := true, intentClass := some a.cls, intentPriority := a.priority, degraded := true } _ still_cool still
      {} rfl)
  · exact called.trans (State.startRunning_upholds _ { State.power (s.callLamps s.planLamps) with
      intent := true, intentClass := some a.cls, intentPriority := a.priority } _ still_cool still {} rfl)

/-- An intent that is recorded as it stands. -/
theorem State.recordIntent_upholds (s : State) (on : Bool) (a : Asker)
    (same : s.sound → s.power.intent = on) : s.upholds (s.recordIntent on a) :=
  (s.setPower_entered _).upholds fun h => State.unmoved.sound (t := s.recordIntent on a) { intent := (same h).symm } h

theorem State.takePowerOn_upholds (s : State) (a : Asker) : s.upholds (s.takePowerOn a).2 := by
  unfold State.takePowerOn
  split <;> rename_i was
  case h_1 | h_2 =>
    split
    · exact .refl s
    · rename_i cool
      exact s.startUpLamps_upholds a (Bool.eq_false_iff.mpr cool) (by simp [was])
  case h_3 => exact .refl s
  all_goals
    have recorded := s.recordIntent_upholds true a fun h => h.intent.mpr (by rw [was]; rfl)
    dsimp only
    split
    · exact recorded
    · exact recorded.trans (State.activity_sourced _).upholds

/-- POWER_OFF in a running state ends the intent and enters STOPPING (R163). -/
theorem State.enterStopping_upholds (s : State) (off : PowerUnit) (c : PowerCause) (o : PowerOutcome)
    (running : s.power.state.running = true) (intent : off.intent = false) :
    s.upholds ((s.setPower off).enterStopping c o) :=
  ((s.setPower_entered off).trans (State.enterStopping_entered _ _ _)).upholds fun h =>
    (State.enterStopping_sound (s := s.setPower off) ((h.running_measuring running).of_same rfl rfl) h.monitored
      intent c o).1

theorem State.takePowerOff_upholds (s : State) (a : Asker) : s.upholds (s.takePowerOff a).2 := by
  unfold State.takePowerOff
  split <;> rename_i was
  case h_1 | h_2 | h_3 =>
    have stopped : s.upholds ((s.recordIntent false a).enterStopping .request .none) :=
      s.enterStopping_upholds _ _ _ (by rw [was]; rfl) rfl
    dsimp only
    exact ((stopped.trans (State.releaseLamp_upholds _ _)).trans (State.releaseLamp_upholds _ _)).trans
      (State.lampEvent_upholds _ _)
  case h_4 | h_5 =>
    refine s.recordIntent_upholds false a fun h => Bool.eq_false_iff.mpr fun on => ?_
    simpa [was, PowerState.running] using h.intent.mp on
  case h_6 => exact .refl s

/-! ### The switch unit -/

theorem State.dropPending_flight (s : State) (o : SwitchOutcome) :
    (s.dropPending o).sw.inFlight = s.sw.inFlight ∧ (s.dropPending o).sw.selected = s.sw.selected := by
  unfold State.dropPending
  split
  · exact ⟨rfl, rfl⟩
  · exact ⟨rfl, rfl⟩

/-- A select joins the pending slot behind a switch in flight to another input (R136). -/
theorem State.offerSlot_sourced (s : State) (i : InputId) (a : Asker) (flight : s.sw.inFlight.isSome = true)
    (other : s.sw.target ≠ some i) : s.sourced (s.offerSlot i a).2 := by
  have joined (p : Pending) (this : p.input = i) :
      s.sourced ((s.dropPending .superseded).putSwitch { (s.dropPending .superseded).sw with slot := some p }) := by
    have emptied := s.dropPending_sourced .superseded
    refine ⟨emptied.drawn.trans (State.putSwitch_drawn _ _), emptied.inputs, fun h => ?_⟩
    have steady := emptied.steady h
    refine ⟨steady.coherent.putSwitch steady.grace steady.flight steady.hold steady.target, steady.idleTested,
      steady.watchTested, fun _ => ?_⟩
    show (s.dropPending .superseded).sw.inFlight.isSome = true
      ∧ some p.input ≠ (s.dropPending .superseded).sw.inFlight.map (·.target)
    rw [(s.dropPending_flight _).1, this]
    exact ⟨flight, other.symm⟩
  unfold State.offerSlot
  dsimp only
  split
  · split
    · exact joined _ rfl
    · exact .refl s
  · split
    · exact joined _ rfl
    · exact .refl s

/-- Outside the running states nothing reads which input is selected but the monitor (R130). -/
theorem State.selectDirectly_sourced (s : State) (i : InputId)
    (resting : s.power.state = .standby ∨ s.power.state = .stopping) : s.sourced (s.selectDirectly i) := by
  have stopped : s.power.state ≠ .on ∧ s.power.state ≠ .dimmed ∧ s.power.state.running = false := by
    rcases resting with was | was <;> simp [was, PowerState.running]
  obtain ⟨on, dimmed, running⟩ := stopped
  have event := State.sourceEvent_sourced (s.putSwitch { s.sw with selected := i })
  refine ⟨(s.putSwitch_drawn _).trans event.drawn, event.inputs, fun h => event.steady ?_⟩
  have free : s.sw.inFlight = none := by
    by_contra some
    exact absurd (h.flight (Option.isSome_iff_ne_none.mpr some)) (by simp [running])
  refine ⟨h.coherent.putSwitch h.grace h.flight h.hold (by simp [free]), ?_, ?_, h.slotted⟩
  · have := h.idleTested
    unfold State.idleTested State.idleHolds at this ⊢
    simpa [on] using this
  · have := h.watchTested
    unfold State.watchTested State.watchActs at this ⊢
    simpa [on, dimmed] using this

theorem State.takeSelect_sourced (s : State) (i : InputId) (a : Asker) : s.sourced (s.takeSelect i a).2 := by
  unfold State.takeSelect
  split <;> rename_i was
  case h_1 => exact .refl s
  case h_2 | h_3 => exact s.selectDirectly_sourced i (by simp [was])
  all_goals
    have running : s.power.state.running = true := by rw [was]; rfl
    split
    · exact .refl s
    · split
      · exact .refl s
      · rename_i elsewhere
        split
        · exact .refl s
        · rename_i other
          split
          · rename_i free
            refine ⟨s.beginSwitch_drawn _ _ _ _, s.beginSwitch_inputs _ _ _ _, fun h => ?_⟩
            refine State.beginSwitch_steady h.coherent h.idleTested _ _ _ running ?_ ?_
            · simpa [free] using elsewhere
            · by_contra waits
              have := (h.slotted (Option.isSome_iff_ne_none.mpr waits)).1
              simp_all
          · rename_i flies
            exact s.offerSlot_sourced i a (by simpa [Option.isSome_iff_ne_none] using flies) other

theorem State.takeMute_sourced (s : State) (on : Bool) : s.sourced (s.takeMute on).2 := by
  unfold State.takeMute
  split
  · exact .refl s
  · dsimp only
    split
    · exact .refl s
    · have idles := (s.putSwitch { s.sw with mute := on }).muteSeen_idles
      refine ⟨(s.putSwitch_drawn _).trans idles.drawn, idles.inputs, fun h => ?_⟩
      exact idles.steady_of (h.coherent.putSwitch h.grace h.flight h.hold h.target) h.watchTested h.slotted

/-! ### The geometry unit, the lamps, the level and the hold -/

theorem State.adoptGeometry_upholds (s : State) (g : GeoValues) : s.upholds (s.adoptGeometry g) := .of_unmoved {}

theorem State.takeCandidate_upholds (s : State) (g : GeoValues) (reply : List Byte) :
    s.upholds (s.takeCandidate g reply).2 := by
  unfold State.takeCandidate
  split
  · exact .refl s
  · split
    · exact (s.adoptGeometry_upholds g).trans (State.dueUpdate_sourced _ _).upholds
    · exact .refl s

theorem State.relevelLamp_upholds (s : State) (x : LampId) : s.upholds (s.relevelLamp x) :=
  (s.relevelLamp_frame x).upholds fun _ _ rest => State.relevelLamp_atRest rest x

theorem State.takeLevel_upholds (s : State) (v : LampLevel) : s.upholds (s.takeLevel v).2 := by
  unfold State.takeLevel
  split
  · exact .refl s
  · dsimp only
    split
    · exact .refl s
    · exact (State.upholds.of_unmoved {}).trans
        ((State.relevelLamp_upholds _ _).trans (State.relevelLamp_upholds _ _))

/-- The plan reshapes the called set only while the intent is ON, and so outside thermal recovery (R88). -/
theorem State.reshape_upholds (s : State) (intent : s.power.intent = true) : s.upholds s.reshape :=
  s.reshape_frame.upholds fun sound hot => by simp [sound.no_intent hot] at intent

theorem State.settleDegraded_upholds (s : State) : s.upholds s.settleDegraded := .of_unmoved {}

theorem State.takePlan_upholds (s : State) (p : Plan) : s.upholds (s.takePlan p).2 := by
  unfold State.takePlan
  split
  · exact .refl s
  · split
    · exact .refl s
    · split
      · exact .refl s
      · dsimp only
        have planned : s.upholds { s with conf := { s.conf with plan := p } } := .of_unmoved {}
        split
        · rename_i intent
          exact (planned.trans (State.reshape_upholds _ intent)).trans (State.lampEvent_upholds _ _)
        · exact planned.trans (State.settleDegraded_upholds _)

theorem State.setLevel_upholds (s : State) (v : Level) (k : LockoutCause) (b : Byte) :
    s.upholds (s.setLevel v k b) := by
  unfold State.setLevel
  split
  · exact .refl s
  · exact .of_unmoved {}

theorem State.takeLockout_upholds (s : State) (v : Level) (a : Asker) : s.upholds (s.takeLockout v a).2 := by
  unfold State.takeLockout
  split
  · exact .refl s
  · exact s.setLevel_upholds _ _ _

theorem State.rule_setRule (s : State) (i j : RuleId) (r : Rule) :
    (s.setRule i r).conf.rules.get j = if j = i then r else s.conf.rules.get j := by
  split
  · rename_i same
    rw [same]
    exact vector_get_set_same _ _ _
  · rename_i other
    exact vector_get_set_other _ other _

/-- One rule takes another content, and stands with a counter that it allows. -/
theorem State.countsSound.setRule (h : s.countsSound) (i : RuleId) {r : Rule} (limit : 1 ≤ r.limit)
    (rules : t.conf.rules = (s.setRule i r).conf.rules) (own : r.admits (t.counters.get i))
    (others : ∀ j, j ≠ i → t.counters.get j = s.counters.get j) : t.countsSound := by
  unfold State.countsSound State.countersWithin
  rw [rules]
  refine ⟨fun j => ?_, fun j => ?_⟩ <;> rw [State.rule_setRule] <;> split
  · exact limit
  · exact h.1 j
  · rename_i same
    rw [same]
    exact own
  · rename_i other
    rw [others j other]
    exact h.2 j

/-- A rule takes another content that allows its counter as it stands. -/
theorem State.setRule_upholds (s : State) (i : RuleId) (r : Rule)
    (fits : s.countsSound → 1 ≤ r.limit ∧ r.admits (s.counters.get i)) : s.upholds (s.setRule i r) where
  sound := State.unmoved.sound {}
  guarded _ h hot x := by cases x; exacts [h hot .a, h hot .b]
  counts h := h.setRule i (fits h).1 rfl (fits h).2 fun _ _ => rfl

/-- A rule takes another content, and a counter that it allows. -/
theorem State.setRule_setCounter_upholds (s : State) (i : RuleId) (r : Rule) (k : Counter)
    (fits : s.countsSound → 1 ≤ r.limit ∧ r.admits k) : s.upholds ((s.setRule i r).setCounter i k) where
  sound := State.unmoved.sound {}
  guarded _ h hot x := by cases x; exacts [h hot .a, h hot .b]
  counts h := h.setRule i (fits h).1 rfl (by rw [State.counter_setCounter_same]; exact (fits h).2)
    fun j other => State.counter_setCounter_other _ other _

/-- A rule takes another content, and its counter is reloaded (R55). -/
theorem State.setRule_reload_upholds (s : State) (i : RuleId) (r : Rule) (limit : s.countsSound → 1 ≤ r.limit) :
    s.upholds ((s.setRule i r).reload i) := by
  unfold State.reload
  rw [State.rule_setRule, if_pos rfl]
  exact s.setRule_setCounter_upholds i r _ fun h => ⟨limit h, Rule.loaded_admitted (limit h)⟩

theorem State.takeSetRule_upholds (s : State) (i : RuleId) (on : Bool) : s.upholds (s.takeSetRule i on).2 := by
  unfold State.takeSetRule
  split
  · exact .refl s
  · split
    · exact .refl s
    · exact s.setRule_reload_upholds i _ fun h => h.1 i

theorem State.takePresent_upholds (s : State) (token : BitVec 48) (l : Link) :
    s.upholds (s.takePresent token l).2 := .of_unmoved {}

theorem State.takeEnd_upholds (s : State) : s.upholds s.takeEnd.2 := by
  unfold State.takeEnd
  split
  · exact .refl s
  · exact s.endHold_upholds _

/-- Whatever the operation, its owning block upholds what the power states run. -/
theorem State.take_upholds (s : State) (o : Operation) (a : Asker) : s.upholds (s.take o a).2 := by
  cases o with
  | powerOn => exact s.takePowerOn_upholds a
  | powerOff => exact s.takePowerOff_upholds a
  | selectInput i => exact (s.takeSelect_sourced i a).upholds
  | pictureMute on => exact (s.takeMute_sourced on).upholds
  | setKeystone relative v h => exact s.takeCandidate_upholds _ _
  | setCorner k dx dy => exact s.takeCandidate_upholds _ _
  | recallGeometry p => exact s.takeCandidate_upholds _ _
  | setLampLevel v => exact s.takeLevel_upholds v
  | setLampPlan p => exact s.takePlan_upholds p
  | setLockout v => exact s.takeLockout_upholds v a
  | presentCredential token => exact s.takePresent_upholds token _
  | endCredential => exact s.takeEnd_upholds
  | setRule i on => exact s.takeSetRule_upholds i on

theorem State.operate_upholds (s : State) (c : ReqClass) (o : Operation) (r : Option (Link × Byte))
    (p : Option Nat) : s.upholds (s.operate c o r p).2 := by
  have judged := s.evaluate_upholds c o p
  unfold State.operate
  dsimp only
  split
  · refine State.upholds.trans ?_ (State.take_upholds _ o _)
    split
    · exact judged.trans (State.activity_sourced _).upholds
    · exact judged
  · exact judged

/-! ## Requests with and without a link -/

theorem State.answer_upholds (s : State) (l : Link) (kind tag : Byte) (a : Answer) :
    s.upholds (s.answer l kind tag a) := s.setLink_upholds l _

theorem State.handled_upholds (s : State) (l : Link) (kind tag : Byte) (payload : List Byte) (pass : State → State)
    (h : ∀ t : State, t.upholds (pass t)) : s.upholds (s.handled l kind tag payload pass) := by
  unfold State.handled
  split
  · exact .refl s
  · dsimp only
    split
    · exact (s.setLink_upholds l _).trans (State.answer_upholds _ _ _ _ _)
    · exact (s.setLink_upholds l _).trans (h _)

theorem State.request_upholds (s : State) (l : Link) (kind tag : Byte) (payload : List Byte) (body : State → Taken)
    (h : ∀ t : State, t.upholds (body t).2) : s.upholds (s.request l kind tag payload body) :=
  s.handled_upholds l kind tag payload _ fun t => (h t).trans (State.answer_upholds _ _ _ _ _)

theorem State.operational_upholds (s : State) (l : Link) (kind tag : Byte) (payload : List Byte)
    (o : Option Operation) : s.upholds (s.operational l kind tag payload o) := by
  refine s.request_upholds l kind tag payload _ fun t => ?_
  cases o with
  | none => exact .refl t
  | some o => exact t.operate_upholds _ o _ _

/-- A request that only reads upholds everything. -/
theorem State.read_upholds (s : State) (l : Link) (kind tag : Byte) (payload : List Byte) (body : State → Taken)
    (h : ∀ t : State, (body t).2 = t) : s.upholds (s.request l kind tag payload body) :=
  s.request_upholds l kind tag payload body fun t => by rw [h t]; exact .refl t

theorem State.unlinked_upholds (s : State) (c : ReqClass) (o : Operation) : s.upholds (s.unlinked c o) :=
  s.operate_upholds c o none none

theorem State.formKey_upholds (s : State) (k : Key) (c : ReqClass) : s.upholds (s.formKey k c) := by
  unfold State.formKey
  split
  · exact s.unlinked_upholds _ _
  · exact .refl s

theorem State.openWindow_upholds (s : State) (c : ReqClass) : s.upholds (s.openWindow c) := .of_unmoved {}

theorem State.pressPower_upholds (s : State) (c : ReqClass) : s.upholds (s.pressPower c) := by
  unfold State.pressPower
  split
  case h_1 | h_2 => exact s.unlinked_upholds _ _
  case h_6 => exact .refl s
  all_goals
    split
    · exact s.openWindow_upholds _
    · split
      · exact (s.closeWindow_upholds _).trans (State.unlinked_upholds _ _ _)
      · exact (s.closeWindow_upholds _).trans (State.openWindow_upholds _ _)

theorem State.press_upholds (s : State) (k : Key) (c : ReqClass) : s.upholds (s.press k c) := by
  unfold State.press
  split
  · exact s.pressPower_upholds c
  all_goals exact (s.closeWindow_upholds _).trans (State.formKey_upholds _ _ _)

theorem State.pressDirect_upholds (s : State) (i : InputId) : s.upholds (s.pressDirect i) :=
  (s.closeWindow_upholds _).trans (State.unlinked_upholds _ _ _)

theorem State.pressRemote_upholds (s : State) (command : Byte) (b : Button) :
    s.upholds (s.pressRemote command b) := by
  unfold State.pressRemote
  dsimp only
  split
  · exact (State.upholds.of_unmoved {}).trans (State.press_upholds _ _ _)
  · exact (State.upholds.of_unmoved {}).trans (State.pressDirect_upholds _ _)

theorem State.repeatRemote_upholds (s : State) (command : Byte) (b : Button) :
    s.upholds (s.repeatRemote command b) := by
  unfold State.repeatRemote
  split
  · exact .refl s
  · split
    · exact (State.upholds.of_unmoved {}).trans (State.formKey_upholds _ _ _)
    · exact .refl s

theorem State.autoChoice_upholds (s : State) : s.upholds s.autoChoice := by
  unfold State.autoChoice
  split
  · split
    · exact s.unlinked_upholds _ _
    · exact .refl s
  · exact .refl s

end Sys2Proof.Machine
end

section
/-! PROOFS. The monitor and the management requests uphold what the power states run, the lamps at rest in thermal
recovery and the counters within their limits (O59). -/

set_option Elab.async false

namespace Sys2Proof.Machine

variable {s t u : State} {l : Link} {x : LampId} {i : InputId}

/-! ## The input monitor (R120 to R124) -/

/-- A record that keeps an input's monitoring, and that is DORMANT where the input was. -/
structure InputRecord.follows (r q : InputRecord) : Prop where
  monitored : q.monitored → r.monitored
  dormant : r.signal = .dormant ↔ q.signal = .dormant

theorem InputRecord.acquiring_follows {q : InputRecord} (r : InputRecord) (run : Option (Fin 16 × Nat))
    (awake : q.signal ≠ .dormant) : (r.acquiring run).follows q :=
  ⟨fun _ => r.acquiring_monitored run, iff_of_false nofun awake⟩

theorem InputRecord.without_follows {q : InputRecord} (r : InputRecord) {signal : SignalState}
    (lost : signal = .absent ∨ signal = .unsupported) (awake : q.signal ≠ .dormant) :
    (r.without signal).follows q := by
  rcases lost with rfl | rfl
  all_goals exact ⟨fun _ => ⟨iff_of_false nofun nofun, iff_of_false nofun nofun⟩, iff_of_false nofun awake⟩

/-- A record that differs in nothing that the monitoring reads. -/
theorem InputRecord.follows.of_same {r q : InputRecord} (signal : r.signal = q.signal := by rfl)
    (format : r.format = q.format := by rfl) (acquire : r.acquire = q.acquire := by rfl) : r.follows q :=
  ⟨fun h => by unfold InputRecord.monitored; rw [signal, format, acquire]; exact h, by rw [signal]⟩

theorem State.setInput_upholds (s : State) (i : InputId) {r : InputRecord} (follows : r.follows (s.input i))
    (same : r.signal = (s.input i).signal) : s.upholds (s.setInput i r) := by
  have drawn := s.setInput_drawn i r
  refine drawn.entered.upholds fun h => drawn.sound_of h (State.setInput_steady h.steady
    (follows.monitored (h.monitored i)) fun _ => by rw [same]) fun j => ?_
  rw [State.input_setInput]
  split
  · rename_i this
    rw [this, same]
  · rfl

theorem State.signalChange_upholds (s : State) (i : InputId) {r : InputRecord} (c : InputCause)
    (follows : r.follows (s.input i)) : s.upholds (s.signalChange i r c) := by
  have drawn := (s.signalChange_drawn i r c).1
  refine drawn.entered.upholds fun h => drawn.sound_of h (State.signalChange_steady h.steady
    (follows.monitored (h.monitored i)) c) fun j => ?_
  rw [State.input_signalChange]
  split
  · rename_i this
    rw [this, follows.dormant]
  · rfl

theorem State.signalSeen_upholds (s : State) (i : InputId) {r : InputRecord} (c : InputCause)
    (follows : r.follows (s.input i)) : s.upholds (s.signalSeen i r c) := by
  unfold State.signalSeen
  dsimp only
  split
  · exact (s.signalChange_upholds i c follows).trans (State.autoChoice_upholds _)
  · exact s.signalChange_upholds i c follows

/-- A measurement keeps the monitoring, and tells whether the signal state is another (R122, R123). -/
theorem State.measured_follows (s : State) (i : InputId) (m : Measure) :
    (s.measured i m).1.follows (s.input i)
      ∧ ((s.measured i m).2 = false → (s.measured i m).1.signal = (s.input i).signal) := by
  unfold State.measured
  dsimp only
  split <;> rename_i was
  case h_1 => exact ⟨.of_same, fun _ => rfl⟩
  case h_2 =>
    split
    · exact ⟨.of_same, fun _ => rfl⟩
    · split
      · exact ⟨⟨fun _ => ⟨iff_of_true rfl rfl, iff_of_false nofun nofun⟩, iff_of_false nofun (by simp [was])⟩, nofun⟩
      · exact ⟨.of_same, fun _ => rfl⟩
  all_goals
    have awake : (s.input i).signal ≠ .dormant := by simp [was]
    have lost : ({ s.input i with latest := m } : InputRecord).without .absent |>.follows (s.input i) :=
      InputRecord.without_follows _ (.inl rfl) awake
    have begun := InputRecord.acquiring_follows { s.input i with latest := m } (runFrom (s.matchOf m)) awake
  case h_3 =>
    split
    · exact ⟨lost, nofun⟩
    · split
      · exact ⟨.of_same, fun _ => rfl⟩
      · exact ⟨begun, nofun⟩
  case h_5 =>
    split
    · exact ⟨lost, nofun⟩
    · split
      · exact ⟨begun, nofun⟩
      · exact ⟨.of_same, fun _ => rfl⟩
  case h_4 =>
    split
    · exact ⟨.of_same, fun _ => rfl⟩
    · exact ⟨begun, nofun⟩

theorem State.rematch_upholds (n : Fin 16) (s : State) (i : InputId) : s.upholds (s.rematch n i) := by
  have begun (awake : (s.input i).signal ≠ .dormant) :
      s.upholds (s.signalChange i ((s.input i).acquiring none) .table) :=
    s.signalChange_upholds i _ (InputRecord.acquiring_follows _ none awake)
  unfold State.rematch
  dsimp only
  split <;> rename_i was
  case h_1 =>
    split
    · split
      · exact s.signalChange_upholds i _ .of_same
      · exact .refl s
    · exact begun (by simp [was])
  case h_2 => exact begun (by simp [was])
  case h_3 => exact s.setInput_upholds i .of_same rfl
  all_goals exact .refl s

/-! ## Lamps and the thermal state, as the requests change them -/

theorem State.strike_upholds (s : State) (x : LampId) (lit : ¬(s.lamp x).still) : s.upholds (s.strike x).1 :=
  (s.strike_frame x).upholds fun _ _ rest => absurd (rest x) lit

theorem State.reachDark_upholds (s : State) (x : LampId) : s.upholds (s.reachDark x).1 :=
  (s.reachDark_frame x).upholds fun _ _ rest => State.reachDark_atRest rest x

theorem State.moveLamp_upholds (s : State) (x : LampId) (f : Lamp → Lamp) (b : Bool) (c : LampCause)
    (still : (s.lamp x).still → (f (s.lamp x)).still) : s.upholds (s.moveLamp x f b c) :=
  (s.moveLamp_frame x f b c).upholds fun _ _ => s.moveLamp_atRest x b c fun rest => still (rest x)

/-- A lamp changes in nothing that being at rest reads. -/
theorem State.setLamp_upholds (s : State) (x : LampId) (m : Lamp) (state : m.state = (s.lamp x).state := by rfl)
    (called : m.called = (s.lamp x).called := by rfl) (waiting : m.waiting = (s.lamp x).waiting := by rfl) :
    s.upholds (s.setLamp x m) :=
  (s.setLamp_frame x m).upholds fun _ _ rest => State.setLamp_atRest_same rest x m state called waiting

theorem State.testThresholds_upholds (s : State) (x : LampId) : s.upholds (s.testThresholds x) :=
  (s.testThresholds_frame x).upholds fun _ _ rest => State.testThresholds_atRest rest x

theorem State.serviceLamp_upholds (s : State) (x : LampId) : s.upholds (s.serviceLamp x) :=
  (s.serviceLamp_frame x).upholds fun _ _ rest => State.serviceLamp_atRest rest x

theorem State.checkpoint_upholds (s : State) : s.upholds s.checkpoint :=
  s.checkpoint_frame.upholds fun _ _ => State.checkpoint_atRest

theorem State.checkpointFor_upholds (s : State) (x : LampId) : s.upholds (s.checkpointFor x) :=
  (s.checkpointFor_frame x).upholds fun _ _ rest => State.checkpointFor_atRest rest x

theorem State.holdChanged_upholds (s : State) (x : LampId) : s.upholds (s.holdChanged x) := by
  unfold State.holdChanged
  dsimp only
  split <;> rename_i was
  case h_1 =>
    split
    · exact (s.reachDark_upholds x).trans (LampMove.finish_upholds _ x)
    · exact .refl s
  case h_2 =>
    split
    · exact s.moveLamp_upholds x _ _ _ fun still => ⟨by simp, still.2⟩
    · exact .refl s
  case h_3 =>
    split
    · exact (s.strike_upholds x fun still => by simpa [was] using still.1).trans (LampMove.finish_upholds _ x)
    · exact .refl s
  all_goals exact .refl s

/-! ## The scan groups -/

/-- A change of the scan groups that keeps a group's interval running exactly in STANDBY. -/
theorem State.upholds.of_scan (alike : s.alike t)
    (scans : s.sound → ∀ g : GroupId, (t.scan.get g).interval.isSome = true ↔ s.power.state = .standby)
    (intent : t.power.intent = s.power.intent := by rfl) (recovery : t.recovery = s.recovery := by rfl)
    (lamps : ∀ x, t.lamp x = s.lamp x := by intro x; cases x <;> rfl)
    (rules : t.conf.rules = s.conf.rules := by rfl) (counters : t.counters = s.counters := by rfl) :
    s.upholds t where
  sound h :=
    { steady := alike.steady h.steady
      dormant := fun i => by rw [alike.input, alike.state]; exact h.dormant i
      scans := fun g => by rw [alike.state]; exact scans h g
      intent := by rw [intent, alike.state]; exact h.intent
      recovers := by rw [recovery, alike.state]; exact h.recovers
      shut := by rw [recovery, alike.state]; exact h.shut }
  guarded _ k hot x := by
    rw [lamps]
    exact k (recovery.symm.trans hot) x
  counts := State.countsSound_of_same rules counters

/-- One scan group changes, its interval running as it must. -/
theorem State.setGroup_upholds (s : State) (g : GroupId) (group : ScanGroup)
    (runs : s.sound → (group.interval.isSome = true ↔ s.power.state = .standby)) :
    s.upholds { s with scan := s.scan.set g.val group g.isLt } := by
  refine .of_scan {} fun h j => ?_
  show ((s.scan.set g.val group g.isLt).get j).interval.isSome = true ↔ _
  by_cases this : j = g
  · rw [this, vector_get_set_same]
    exact runs h
  · rw [vector_get_set_other _ this]
    exact h.scans j

theorem State.groupWritten_upholds (s : State) (g : GroupId) : s.upholds (s.groupWritten g) := by
  unfold State.groupWritten
  split
  · rename_i standby
    exact s.setGroup_upholds g _ fun _ => iff_of_true rfl standby
  · rename_i other
    exact s.setGroup_upholds g _ fun _ => iff_of_false nofun other

/-! ## The setting items -/

/-- A setting item other than the loss watch's takes a value. -/
theorem State.setItem_upholds (s : State) (n : Fin 104) (v : Nat) (other : n ≠ 22) : s.upholds (s.setItem n v) :=
  .of_unmoved { item := s.item_setItem_other (Ne.symm other) v }

/-- The loss watch's own item takes a value, and the watch is tested anew (R140). -/
theorem State.setWatchItem_upholds (s : State) (v : Nat) : s.upholds (s.setItem 22 v).retestWatch := by
  have steady (h : s.sound) : (s.setItem 22 v).retestWatch.steady := State.retestWatch_steady
    ⟨h.monitored, h.grace, h.idle, h.mark, h.autoOff, h.flight, h.hold, h.target⟩ h.idleTested h.slotted
  have rest (h : s.atRest) : (s.setItem 22 v).atRest := fun x => by cases x; exacts [h .a, h .b]
  rcases (s.setItem 22 v).retestWatch_eq with same | ⟨w, g, -, eq⟩
  · rw [same] at steady ⊢
    exact ⟨fun h => ⟨steady h, h.dormant, h.scans, h.intent, h.recovers, h.shut⟩, fun _ k hot => rest (k hot), id⟩
  · rw [eq] at steady ⊢
    exact ⟨fun h => ⟨steady h, h.dormant, h.scans, h.intent, h.recovers, h.shut⟩,
      fun _ k hot => (State.putSwitch_drawn _ _).lamps (rest (k hot)), id⟩

theorem State.itemWritten_upholds (s : State) (n : Fin 104) (v : Nat) :
    s.upholds ((s.setItem n v).itemWritten n.val) := by
  by_cases watch : n = 22
  · rw [watch]
    exact s.setWatchItem_upholds v
  · refine (s.setItem_upholds n v watch).trans ?_
    unfold State.itemWritten
    split
    · exact (State.holdChanged_upholds _ _).trans (State.holdChanged_upholds _ _)
    split
    · exact (State.testThresholds_upholds _ _).trans (State.testThresholds_upholds _ _)
    split
    · rename_i this
      exact absurd (Fin.ext this) watch
    split
    · exact State.groupWritten_upholds _ _
    split
    · exact State.groupWritten_upholds _ _
    split
    · exact (State.sourceEvent_sourced _).upholds
    · exact .refl _

theorem vector_get_map {α β : Type} {n : Nat} (f : α → β) (v : Vector α n) (i : Fin n) :
    (v.map f).get i = f (v.get i) := by
  show (v.map f)[i.val] = f v[i.val]
  simp

/-- LEARN_BASE writes scan bases and empties run counts (R175). -/
theorem State.learnInput_upholds (set : Nat) (s : State) (i : InputId) : s.upholds (s.learnInput set i) := by
  unfold State.learnInput
  split
  · have other : inputItem 80 (by decide) i ≠ 22 := fun same => by
      have := congrArg Fin.val same
      simp [inputItem] at this
      omega
    refine (s.setItem_upholds _ _ other).trans (.of_scan {} fun h g => ?_)
    refine Iff.trans ?_ (h.scans g)
    unfold State.setItem
    rw [vector_get_map]
  · exact .refl s

/-! ## The clock and the schedule -/

theorem State.purge_upholds (s : State) : s.upholds s.purge := by
  unfold State.purge
  split
  · exact .refl s
  · exact .of_unmoved {}

theorem State.reconstruct_upholds (s : State) : s.upholds s.reconstruct := by
  unfold State.reconstruct
  split
  · exact .refl s
  · split
    · exact s.setLevel_upholds _ _ _
    · exact .refl s

theorem State.bodySetClock_upholds (payload : List Byte) (s : State) : s.upholds (s.bodySetClock payload).2 := by
  unfold State.bodySetClock
  dsimp only
  split
  · exact (State.upholds.of_unmoved {}).trans ((State.purge_upholds _).trans (State.reconstruct_upholds _))
  · exact .refl s

/-! ## Service (R103, R117, R118) -/

theorem State.bodyResetLampWear_upholds (payload : List Byte) (s : State) :
    s.upholds (s.bodyResetLampWear payload).2 := by
  unfold State.bodyResetLampWear
  split
  · exact .refl s
  · rename_i x _
    split
    · have tested := (s.setLamp_upholds x (s.lamp x).renewed).trans (State.testThresholds_upholds _ x)
      dsimp only
      refine State.upholds.trans ?_ (State.checkpointFor_upholds _ x)
      split
      · exact tested.trans (State.serviceLamp_upholds _ x)
      · exact tested
    · exact .refl s

theorem State.clearLamp_upholds (s : State) (x : LampId) : s.upholds (s.clearLamp x).2 := by
  unfold State.clearLamp
  split
  · exact (s.serviceLamp_upholds x).trans (State.checkpoint_upholds _)
  case h_2 | h_3 => exact (s.setLamp_upholds x _).trans (State.checkpoint_upholds _)
  all_goals exact .refl s

theorem State.rehold_frame (s : State) (x : LampId) : s.lampsOnly (s.rehold x) := by
  unfold State.rehold
  split
  · rfl
  · exact s.serviceLamp_frame x

/-- The clear of the projector ends SHUTDOWN and thermal recovery with it (R118). -/
theorem State.clearProjector_upholds (s : State) : s.upholds s.clearProjector.2 := by
  unfold State.clearProjector
  split
  · exact .refl s
  · rename_i clears
    have shut : s.power.state = .shutdown := not_not.mp fun other => clears (.inl other)
    let cleared := ({ s with latch := false } : State).setRecovery false
    have frame := (cleared.rehold_frame .a).trans (State.rehold_frame _ .b)
    have held := frame.unmoved
    generalize rehold : (cleared.rehold .a).rehold .b = u at held frame
    let off := (u.reportThermal .cleared).setPower { (u.reportThermal .cleared).power with intent := false }
    have alike : u.alike off := {}
    have recovery : off.recovery = false := held.recovery
    have state : off.power.state = .shutdown := held.state.trans shut
    have entry := State.enterStandby_entered off .service
    dsimp only
    rw [rehold]
    refine ⟨fun h => ?_, fun _ _ hot => ?_, State.countsSound_of_same ?_ ?_⟩
    · have begun : cleared.steady := State.alike.steady (s := s) {} h.steady
      exact State.enterStandby_sound (alike.steady (held.alike.steady begun)) (by rw [state]; rfl) rfl recovery _
    · exact absurd ((entry.recovery.trans recovery).symm.trans hot) Bool.false_ne_true
    · show (off.enterStandby .service).conf.rules = _
      rw [entry.frame, show off.conf = u.conf from rfl, frame]
      rfl
    · show (off.enterStandby .service).counters = _
      rw [entry.frame, show off.counters = u.counters from rfl, frame]
      rfl

theorem State.bodyServiceClear_upholds (payload : List Byte) (s : State) :
    s.upholds (s.bodyServiceClear payload).2 := by
  unfold State.bodyServiceClear
  split
  · exact s.clearProjector_upholds
  · split
    · exact .refl s
    · exact s.clearLamp_upholds _

/-! ## The tables -/

/-- A rule whose counter has the mode and the limit of another's. -/
def Rule.countsAs (r q : Rule) : Prop := q.counterMode = r.counterMode ∧ q.limit = r.limit

theorem Rule.writeWho_counts {p : List Byte} {mask : Nat} {r q : Rule} (h : r.writeWho p mask = some q) :
    r.countsAs q := by
  unfold Rule.writeWho at h
  split at h
  · cases h
  · cases h
    exact ⟨rfl, rfl⟩

theorem Rule.writeTime_counts {p : List Byte} {mask : Nat} {r q : Rule} (h : r.writeTime p mask = some q) :
    r.countsAs q := by
  unfold Rule.writeTime at h
  split at h
  · split at h
    · cases h
    · split at h
      · cases h
        exact ⟨rfl, rfl⟩
      · cases h
  · cases h
    exact ⟨rfl, rfl⟩

theorem Rule.writeVerdict_counts {p : List Byte} {mask : Nat} {r q : Rule} (h : r.writeVerdict p mask = some q) :
    r.countsAs q := by
  unfold Rule.writeVerdict at h
  split at h
  · obtain ⟨v, -, rfl⟩ := Option.map_eq_some_iff.mp h
    exact ⟨rfl, rfl⟩
  · cases h
    exact ⟨rfl, rfl⟩

theorem Rule.writePriority_counts {p : List Byte} {mask : Nat} {r q : Rule} (h : r.writePriority p mask = some q) :
    r.countsAs q := by
  unfold Rule.writePriority at h
  split at h
  · split at h
    · cases h
    · split at h
      · cases h
        exact ⟨rfl, rfl⟩
      · cases h
  · cases h
    exact ⟨rfl, rfl⟩

theorem Rule.writeMap_counts {p : List Byte} {mask : Nat} {r q : Rule} (h : r.writeMap p mask = some q) :
    r.countsAs q := by
  unfold Rule.writeMap at h
  split at h
  · obtain ⟨m, -, rfl⟩ := Option.map_eq_some_iff.mp h
    exact ⟨rfl, rfl⟩
  · cases h
    exact ⟨rfl, rfl⟩

/-- The counter group lets a limit of at least 1 through (R45, R61). -/
theorem Rule.writeCounter_counts {p : List Byte} {mask : Nat} {r q : Rule} (h : r.writeCounter p mask = some q) :
    if selects mask 7 then 1 ≤ q.limit else r.countsAs q := by
  unfold Rule.writeCounter at h
  split at h
  · rename_i selected
    rw [if_pos selected]
    split at h
    · split at h
      · rename_i limits
        cases h
        exact limits.1
      · cases h
    · cases h
  · rename_i unselected
    rw [if_neg unselected]
    cases h
    exact ⟨rfl, rfl⟩

theorem Rule.writeEnabled_counts (p : List Byte) (mask : Nat) (r : Rule) : r.countsAs (r.writeEnabled p mask) := by
  unfold Rule.writeEnabled
  split
  · exact ⟨rfl, rfl⟩
  · exact ⟨rfl, rfl⟩

theorem Rule.countsAs.trans {q r v : Rule} (h : q.countsAs r) (k : r.countsAs v) : q.countsAs v :=
  ⟨k.1.trans h.1, k.2.trans h.2⟩

/-- What the checks of WRITE_RULE let through keeps the counter's mode and limit, or has a limit of its range (R61). -/
theorem Rule.written_counts {p : List Byte} {r q : Rule} (h : r.written p = some q) :
    if selects (arg16 p 1) 7 then 1 ≤ q.limit else r.countsAs q := by
  unfold Rule.written at h
  dsimp only at h
  split at h
  · cases h
  · simp only [Option.map_eq_some_iff, Option.bind_eq_some_iff] at h
    obtain ⟨counted, ⟨mapped, ⟨ranked, ⟨judged, ⟨timed, ⟨who, first, second⟩, third⟩, fourth⟩, fifth⟩, sixth⟩, rfl⟩ := h
    have before := ((((Rule.writeWho_counts first).trans (Rule.writeTime_counts second)).trans
      (Rule.writeVerdict_counts third)).trans (Rule.writePriority_counts fourth)).trans (Rule.writeMap_counts fifth)
    have counts := Rule.writeCounter_counts sixth
    have after := Rule.writeEnabled_counts p (arg16 p 1) counted
    split at counts
    · rename_i selected
      rw [if_pos selected, after.2]
      exact counts
    · rename_i unselected
      rw [if_neg unselected]
      exact (before.trans counts).trans after

theorem State.bodyWriteRule_upholds (payload : List Byte) (s : State) : s.upholds (s.bodyWriteRule payload).2 := by
  unfold State.bodyWriteRule
  split
  · exact .refl s
  · rename_i i _
    split
    · exact .refl s
    · split
      · exact .refl s
      · rename_i r written
        have counts := Rule.written_counts written
        have limit (h : s.countsSound) : 1 ≤ r.limit := by
          split at counts
          · exact counts
          · exact counts.2 ▸ h.1 i
        dsimp only
        split
        · exact s.setRule_reload_upholds i r limit
        · rename_i unselected
          rw [if_neg (by simp_all)] at counts
          refine s.setRule_upholds i r fun h => ⟨limit h, ?_⟩
          unfold Rule.admits
          rw [counts.1, counts.2]
          exact h.2 i

theorem State.bodyWriteMatrix_upholds (payload : List Byte) (s : State) :
    s.upholds (s.bodyWriteMatrix payload).2 := by
  unfold State.bodyWriteMatrix
  split
  · split
    · exact .refl s
    · dsimp only
      repeat' split
      all_goals exact .of_unmoved {}
  · exact .refl s

theorem State.bodyWriteCard_upholds (payload : List Byte) (s : State) : s.upholds (s.bodyWriteCard payload).2 := by
  unfold State.bodyWriteCard
  dsimp only
  split
  · split
    · exact .refl s
    · exact .of_unmoved {}
  · exact .refl s

theorem State.bodyWriteGroups_upholds (payload : List Byte) (s : State) :
    s.upholds (s.bodyWriteGroups payload).2 := by
  unfold State.bodyWriteGroups
  dsimp only
  split
  · exact .refl s
  · exact .of_unmoved {}

theorem State.bodySetTableLock_upholds (payload : List Byte) (s : State) :
    s.upholds (s.bodySetTableLock payload).2 := by
  unfold State.bodySetTableLock
  dsimp only
  split
  · exact .refl s
  · exact .of_unmoved {}
  · split
    · exact .refl s
    · split
      · exact .refl s
      · exact .of_unmoved {}

theorem State.bodyWriteEntry_upholds (payload : List Byte) (s : State) :
    s.upholds (s.bodyWriteEntry payload).2 := by
  unfold State.bodyWriteEntry
  split
  · exact .refl s
  · split
    · exact .refl s
    · split
      · exact .refl s
      · exact .of_unmoved {}

theorem State.setExceptions_upholds (s : State) (es : List ExceptionRecord) : s.upholds (s.setExceptions es) :=
  .of_unmoved {}

theorem State.bodyWriteException_upholds (payload : List Byte) (s : State) :
    s.upholds (s.bodyWriteException payload).2 := by
  unfold State.bodyWriteException
  dsimp only
  split
  · exact .refl s
  · split
    · exact .refl s
    · split
      · exact s.setExceptions_upholds _
      · split
        · exact .refl s
        · split
          · exact .refl s
          · exact s.setExceptions_upholds _

theorem State.bodyWriteFormat_upholds (payload : List Byte) (s : State) :
    s.upholds (s.bodyWriteFormat payload).2 := by
  unfold State.bodyWriteFormat
  split
  · dsimp only
    exact (State.upholds.of_unmoved {}).trans (State.foldl_upholds _ (State.rematch_upholds _) _ _)
  · exact .refl s

theorem State.bodyStoreGeometry_upholds (payload : List Byte) (s : State) :
    s.upholds (s.bodyStoreGeometry payload).2 := by
  unfold State.bodyStoreGeometry
  split
  · exact .refl s
  · exact .of_unmoved {}

theorem State.bodyWriteSetting_upholds (payload : List Byte) (s : State) :
    s.upholds (s.bodyWriteSetting payload).2 := by
  unfold State.bodyWriteSetting
  split
  · exact .refl s
  · exact s.itemWritten_upholds _ _

theorem State.bodyLearnBase_upholds (payload : List Byte) (s : State) : s.upholds (s.bodyLearnBase payload).2 :=
  State.foldl_upholds _ (State.learnInput_upholds _) _ s

/-! ## The store -/

theorem State.commitTaken_upholds (s : State) (l : Link) (tag : Byte) : s.upholds (s.commitTaken l tag) := by
  unfold State.commitTaken
  split
  · exact s.answer_upholds _ _ _ _
  · exact (s.setLink_upholds l _).trans (.of_unmoved {})

end Sys2Proof.Machine
end

section
/-! PROOFS. The events, and so every command but THERMAL_ALARM and the four resets, uphold what the power states run,
the lamps at rest in thermal recovery and the counters within their limits (O59). -/

set_option Elab.async false

namespace Sys2Proof.Machine

variable {s t u : State} {l : Link} {x : LampId} {i : InputId}

/-! ## The lamps' events -/

theorem State.ranOut_upholds (s : State) (x : LampId) : s.upholds (s.ranOut x) := s.setLamp_upholds x _

theorem State.heldOut_upholds (s : State) (x : LampId) : s.upholds (s.heldOut x) := s.setLamp_upholds x _

theorem State.conditionIf_upholds (s : State) (b : Bool) (x : LampId) (k : IncidentKind) :
    s.upholds (s.conditionIf b x k) :=
  (s.conditionIf_frame b x k).upholds fun _ _ rest => State.conditionIf_atRest rest b x k

/-- A lamp that is not at rest changes. -/
theorem State.lampsOnly.upholds_of_lit (h : s.lampsOnly t) (lit : ¬(s.lamp x).still) : s.upholds t :=
  h.upholds fun _ _ rest => absurd (rest x) lit

/-- A lamp in a state that no lamp at rest is in. -/
theorem Lamp.not_still {m : Lamp} (h : m.state ∉ [LampState.dark, .cooldown, .hot, .out]) : ¬m.still := fun still =>
  h still.1

theorem State.litSense_upholds (s : State) (x : LampId) : ∃ t, exec (.litSense x) s = .next t ∧ s.upholds t := by
  refine ⟨_, rfl, ?_⟩
  split
  · rename_i striking
    refine State.upholds.trans ?_ (LampMove.finish_upholds _ x)
    dsimp only
    exact (s.moveLamp_frame x _ _ _).upholds_of_lit (x := x) (Lamp.not_still (by simp [striking]))
  · exact .refl s

theorem Lamp.timing_state {m : Lamp} {p : LampState} (h : m.timing p = true) : m.state = p := by
  simp only [Lamp.timing, Bool.and_eq_true, beq_iff_eq] at h
  exact h.1

theorem State.strikeWindowExpiry_upholds (s : State) (x : LampId) :
    ∃ t, exec (.strikeWindowExpiry x) s = .next t ∧ s.upholds t := by
  refine ⟨_, rfl, ?_⟩
  split
  · exact ((s.ranOut_upholds x).trans ((State.strikeFailed_frame _ x _).upholds fun _ _ rest =>
      State.strikeFailed_atRest rest x _)).trans (LampMove.finish_upholds _ x)
  · exact .refl s

theorem State.retryWaited_upholds (s : State) (x : LampId) (waits : (s.lamp x).state = .retryWait) :
    s.upholds (s.retryWaited x) := by
  unfold State.retryWaited
  split
  · exact .refl s
  · exact (s.strike_upholds x (Lamp.not_still (by simp [waits]))).trans (LampMove.finish_upholds _ x)

theorem State.retryWaitExpiry_upholds (s : State) (x : LampId) :
    ∃ t, exec (.retryWaitExpiry x) s = .next t ∧ s.upholds t := by
  refine ⟨_, rfl, ?_⟩
  split
  · rename_i timing
    exact (s.ranOut_upholds x).trans (State.retryWaited_upholds _ x (by simpa using Lamp.timing_state timing))
  · exact .refl s

theorem State.retryHoldReached_upholds (s : State) (x : LampId) :
    ∃ t, exec (.retryHoldReached x) s = .next t ∧ s.upholds t := by
  refine ⟨_, rfl, ?_⟩
  split
  · rename_i waits
    exact ((s.heldOut_upholds x).trans (State.strike_upholds _ x (Lamp.not_still (by simp [waits.1])))).trans
      (LampMove.finish_upholds _ x)
  · exact .refl s

theorem State.ballastFault_upholds (s : State) (x : LampId) :
    ∃ t, exec (.ballastFault x) s = .next t ∧ s.upholds t := by
  have asserted : s.upholds (s.setLamp x { s.lamp x with faultLine := true }) := s.setLamp_upholds x _
  refine ⟨_, rfl, ?_⟩
  split
  case h_1 | h_2 | h_3 | h_4 => exact asserted
  all_goals
    exact (asserted.trans ((State.takeFault_frame _ x).upholds fun _ _ rest => State.takeFault_atRest rest x)).trans
      (LampMove.finish_upholds _ x)

theorem State.warmed_frame (s : State) (x : LampId) : s.lampsOnly (s.warmed x) := by
  unfold State.warmed
  split
  · exact s.extinguish_frame x _ _
  · exact s.moveLamp_frame x _ _ _

theorem State.lampState_conditionIf (s : State) (b : Bool) (x : LampId) (k : IncidentKind) :
    ((s.conditionIf b x k).lamp x).state = (s.lamp x).state := by
  unfold State.conditionIf
  split
  · rw [State.condition, State.lamp_offer, State.lamp_setLamp_same]
  · rfl

theorem State.warmupExpiry_upholds (s : State) (x : LampId) (weak : Bool) :
    ∃ t, exec (.warmupExpiry x weak) s = .next t ∧ s.upholds t := by
  refine ⟨_, rfl, ?_⟩
  split
  · rename_i timing
    refine State.upholds.trans ?_ (LampMove.finish_upholds _ x)
    refine ((s.ranOut_upholds x).trans (State.conditionIf_upholds _ weak x .arcWeak)).trans
      ((State.warmed_frame _ x).upholds_of_lit (x := x) (Lamp.not_still ?_))
    rw [State.lampState_conditionIf, State.state_ranOut, Lamp.timing_state timing]
    simp
  · exact .refl s

theorem State.cooldownExpiry_upholds (s : State) (x : LampId) :
    ∃ t, exec (.cooldownExpiry x) s = .next t ∧ s.upholds t := by
  refine ⟨_, rfl, ?_⟩
  split
  · exact (((s.ranOut_upholds x).trans ((State.cooled_frame _ x).upholds fun _ _ rest =>
      State.cooled_atRest rest x)).trans (LampMove.finish_upholds _ x)).trans (State.tryEndRecovery_upholds _)
  · exact .refl s

theorem State.holdReached_upholds (s : State) (x : LampId) :
    ∃ t, exec (.holdReached x) s = .next t ∧ s.upholds t := by
  refine ⟨_, rfl, ?_⟩
  split
  · exact ((s.heldOut_upholds x).trans (State.reachDark_upholds _ x)).trans (LampMove.finish_upholds _ x)
  · exact .refl s

theorem State.addWear_upholds (s : State) (x : LampId) (n : Nat) : s.upholds (s.addWear x n) :=
  (s.addWear_frame x n).upholds fun _ _ rest => State.addWear_atRest rest x n

theorem State.litSecond_upholds (s : State) (x : LampId) :
    ∃ t, exec (.litSecond x) s = .next t ∧ s.upholds t := by
  refine ⟨_, rfl, ?_⟩
  split
  · have counted : s.upholds
        ((s.setLamp x { s.lamp x with fraction := 0, litSeconds := (s.lamp x).litSeconds + 1 }).addWear x
          (litUnits (s.lamp x).state s.conf.lampLevel)) :=
      (s.setLamp_upholds x _).trans (State.addWear_upholds _ x _)
    dsimp only
    split
    · exact counted.trans (State.checkpointFor_upholds _ x)
    · exact counted
  · exact .refl s

theorem State.wakeTimerExpiry_upholds (s : State) (x : LampId) :
    ∃ t, exec (.wakeTimerExpiry x) s = .next t ∧ s.upholds t := by
  refine ⟨_, rfl, ?_⟩
  split
  · exact ((s.setLamp_upholds x _).trans ((State.condition_frame _ x .wakeLate).upholds fun _ _ rest =>
      State.condition_atRest rest x _)).trans (State.setLamp_upholds _ x _)
  · exact .refl s

/-! ## The monitor and the switch unit -/

theorem State.measurement_upholds (s : State) (i : InputId) (sync : Bool) (width height rate : BitVec 16) :
    ∃ t, exec (.measurement i sync width height rate) s = .next t ∧ s.upholds t := by
  obtain ⟨follows, same⟩ := s.measured_follows i (measureOf sync width height rate)
  refine ⟨_, rfl, ?_⟩
  split
  · dsimp only
    split
    · exact s.signalSeen_upholds i _ follows
    · rename_i unchanged
      exact s.setInput_upholds i follows (same (Bool.eq_false_iff.mpr unchanged))
  · exact .refl s

theorem State.acquireTimeout_upholds (s : State) (i : InputId) :
    ∃ t, exec (.acquireTimeout i) s = .next t ∧ s.upholds t := by
  refine ⟨_, rfl, ?_⟩
  split
  · rename_i acquiring
    refine s.signalSeen_upholds i _ (InputRecord.without_follows _ ?_ (by simp [acquiring.1]))
    split
    · exact .inr rfl
    · exact .inl rfl
  · exact .refl s

/-- A switch in flight goes on to the same target. -/
theorem State.flight_sourced (s : State) {w : Switch} (flight : s.sw.inFlight = some w) (v : Switch)
    (same : v.target = w.target) : s.sourced (s.putSwitch { s.sw with inFlight := some v }) := by
  refine ⟨s.putSwitch_drawn _, rfl, fun h => ?_⟩
  have target : (some v).map (·.target) = s.sw.inFlight.map (·.target) := by simp [flight, same]
  refine ⟨h.coherent.putSwitch h.grace (fun _ => h.flight (by simp [flight])) h.hold (target ▸ h.target),
    h.idleTested, ?_, fun waits => ⟨rfl, ?_⟩⟩
  · have was := h.watchTested
    unfold State.watchTested State.watchActs at was ⊢
    simpa [flight] using was
  · exact target ▸ (h.slotted waits).2

theorem State.blankEnd_upholds (s : State) : ∃ t, exec .blankEnd s = .next t ∧ s.upholds t := by
  refine ⟨_, rfl, ?_⟩
  split
  · exact .refl s
  · rename_i w flight
    split
    · exact (s.flight_sourced flight { w with phase := .settle, timer := some (100 * s.item 14) } rfl).upholds
    · exact .refl s

theorem State.settleExpiry_upholds (s : State) : ∃ t, exec .settleExpiry s = .next t ∧ s.upholds t := by
  refine ⟨_, rfl, ?_⟩
  split
  · exact .refl s
  · rename_i w flight
    split
    · split
      case h_2 =>
        exact (s.flight_sourced flight { w with phase := .awaitSignal, timer := none } rfl).upholds
      all_goals exact (s.completeSwitch_sourced w _ flight).upholds
    · exact .refl s

theorem State.sourceHoldExpiry_upholds (s : State) : ∃ t, exec .sourceHoldExpiry s = .next t ∧ s.upholds t := by
  refine ⟨_, rfl, ?_⟩
  split
  · exact .refl s
  · have ended : s.sourced (s.putSwitch { s.sw with hold := none }) := ⟨s.putSwitch_drawn _, rfl, fun h =>
      ⟨h.coherent.putSwitch h.grace h.flight nofun h.target, h.idleTested, h.watchTested, h.slotted⟩⟩
    exact ended.upholds.trans (State.autoChoice_upholds _)

theorem State.lossGraceExpiry_upholds (s : State) : ∃ t, exec .lossGraceExpiry s = .next t ∧ s.upholds t := by
  refine ⟨_, rfl, ?_⟩
  split
  · rename_i waits
    have lost : s.sourced (s.putSwitch { s.sw with watch := .lost, grace := none }) :=
      ⟨s.putSwitch_drawn _, rfl, fun h =>
        ⟨h.coherent.putSwitch (iff_of_false nofun nofun) h.flight h.hold h.target, h.idleTested,
          (iff_of_true nofun (by simp [waits])).trans h.watchTested, h.slotted⟩⟩
    exact lost.upholds.trans (State.autoChoice_upholds _)
  · exact .refl s

/-! ## Idle and auto-off (R168, R171) -/

/-- The auto-off timer is put in place in DIMMED or with the mark set, or stopped. -/
theorem State.setAutoOff_sound (h : s.sound) {timer : Timer}
    (may : timer.isSome = true → s.power.state = .dimmed ∨ s.power.idleExpired = true) :
    (s.setPower { s.power with autoOff := timer }).sound :=
  { h with
    steady := { h.steady with autoOff := may } }

theorem State.stopAutoOff_upholds (s : State) : s.upholds (s.setPower { s.power with autoOff := none }) :=
  (s.setPower_entered _).upholds fun h => State.setAutoOff_sound h nofun

/-- The owner of POWER_OFF never answers DENIED (R163). -/
theorem State.takePowerOff_not_denied (s : State) (a : Asker) : (s.takePowerOff a).1.result ≠ .denied := by
  unfold State.takePowerOff
  split
  case h_1 | h_2 | h_3 =>
    dsimp only
    split
    · nofun
    · nofun
  all_goals nofun

theorem State.autoOffExpiry_upholds (s : State) : ∃ t, exec .autoOffExpiry s = .next t ∧ s.upholds t := by
  refine ⟨_, rfl, ?_⟩
  split
  · rename_i runs
    let stopped := s.setPower { s.power with autoOff := none }
    have asked : s.upholds (stopped.operate .auto .powerOff none none).2 :=
      s.stopAutoOff_upholds.trans (State.operate_upholds _ _ _ _ _)
    dsimp only
    split
    · rename_i denied
      have refused : (stopped.evaluate .auto .powerOff none).1.permit = false := by
        by_contra permitted
        rw [State.operate_permitted _ _ _ _ _ (Bool.eq_true_of_not_eq_false permitted)] at denied
        exact State.takePowerOff_not_denied _ _ denied
      have power : (stopped.operate .auto .powerOff none none).2.power = stopped.power := by
        rw [State.operate_denied _ _ _ _ _ refused]
        dsimp only
        rw [State.evaluate_frame]
      have restarted := State.setPower_entered (stopped.operate .auto .powerOff none none).2
        { State.power (stopped.operate .auto .powerOff none none).2 with
          autoOff := State.autoOffTimer (stopped.operate .auto .powerOff none none).2 }
      refine ⟨fun h => State.setAutoOff_sound (asked.sound h) fun _ => ?_, fun h k hot =>
        restarted.lamps (asked.guarded h k hot), asked.counts⟩
      rw [power]
      exact h.autoOff runs
    · exact asked
  · exact .refl s

/-- Idle that has held for its time stops its timer, and dims the projector or sets the mark (R168). -/
theorem State.idled_sound (h : s.sound) (on : s.power.state = .on) (dims : Bool) (timer : Timer) :
    (s.setPower { s.power with
      state := if dims then .dimmed else .on, idle := none, idleExpired := !dims, autoOff := timer }).sound := by
  have running : s.power.state.running = true := by rw [on]; rfl
  have watch := h.watchTested
  unfold State.watchTested State.watchActs at watch
  refine State.measuring.sound ((h.running_measuring running).of_same rfl rfl) ?_ rfl
    (by cases dims <;> nofun) (by cases dims <;> nofun)
    ((h.intent.mpr running).trans (by cases dims <;> rfl)) fun _ => h.running_cool running
  exact
    { monitored := h.monitored
      grace := h.grace
      idle := nofun
      mark := by cases dims <;> simp
      autoOff := fun _ => by cases dims <;> simp
      flight := fun _ => by cases dims <;> rfl
      hold := fun _ => by cases dims <;> rfl
      target := h.target
      idleTested := iff_of_false nofun (by cases dims <;> simp [State.idleHolds])
      watchTested := by
        refine watch.trans (and_congr_left' ?_)
        show _ ↔ (s.item 22 != 0 && (_ || _) && s.sw.inFlight.isNone) = true
        rw [on]
        cases dims <;> rfl
      slotted := h.slotted }

theorem State.idleExpiry_upholds (s : State) : ∃ t, exec .idleExpiry s = .next t ∧ s.upholds t := by
  refine ⟨_, rfl, ?_⟩
  split
  · rename_i ends
    obtain ⟨on, runs⟩ := ends
    let stopped := s.setPower { s.power with idle := none }
    have unmarked (h : s.sound) : s.power.idleExpired = false := by
      have holds := h.idleTested.mp runs
      simp only [State.idleHolds, Bool.and_eq_true, Bool.not_eq_true'] at holds
      exact holds.1.2
    have cool (h : s.sound) : s.recovery = false := h.running_cool (by rw [on]; rfl)
    show s.upholds ((stopped.idleExpired.reportPower .on .idle .none).setPower
      { stopped.idleExpired.power with autoOff := stopped.idleExpired.autoOffTimer })
    generalize timed : stopped.idleExpired.autoOffTimer = timer
    unfold State.idleExpired
    split
    · have dimmed := (State.dimLamp_frame stopped .a).trans (State.dimLamp_frame _ .b)
      generalize (stopped.dimLamp .a).dimLamp .b = dim at dimmed
      have kept := dimmed.unmoved
      dsimp only
      refine ⟨fun h => State.unmoved.sound ?_ (State.idled_sound h on true timer), fun h _ hot => ?_,
        State.countsSound_of_same ?_ ?_⟩
      · exact
          { inputs := kept.inputs
            sw := kept.sw
            idle := kept.idle
            mark := kept.mark.trans (unmarked h)
            item := kept.item
            intent := kept.intent
            scan := kept.scan
            recovery := kept.recovery }
      · exact absurd ((kept.recovery.trans (cool h)).symm.trans hot) Bool.false_ne_true
      · show dim.conf.rules = _
        rw [dimmed]
        rfl
      · show dim.counters = _
        rw [dimmed]
        rfl
    · refine ⟨fun h => State.unmoved.sound ?_ (State.idled_sound h on false timer), fun h _ hot => ?_, id⟩
      · exact { state := on }
      · exact absurd ((cool h).symm.trans hot) Bool.false_ne_true
  · exact .refl s

/-! ## The scan groups (R173, R174) -/

theorem State.setRun_upholds (s : State) (g : GroupId) (i : InputId) (n : Nat) : s.upholds (s.setRun g i n) :=
  s.setGroup_upholds g _ fun h => h.scans g

theorem State.sample_upholds (g : GroupId) (samples : Vector (BitVec 16) 8) (w : State × Option InputId)
    (i : InputId) : w.1.upholds (State.sample g samples w i).1 := by
  have sampled (n : Nat) : w.1.upholds (w.1.setInput i { w.1.input i with activity := n }) :=
    w.1.setInput_upholds i .of_same rfl
  unfold State.sample
  split
  · exact .refl _
  · dsimp only
    split
    · split
      · exact (sampled _).trans (State.setRun_upholds _ _ _ _)
      · exact (sampled _).trans (State.setRun_upholds _ _ _ _)
    · exact (sampled _).trans (State.setRun_upholds _ _ _ _)

theorem State.samples_upholds (g : GroupId) (samples : Vector (BitVec 16) 8) (is : List InputId)
    (w : State × Option InputId) : w.1.upholds (is.foldl (State.sample g samples) w).1 := by
  induction is generalizing w with
  | nil => exact .refl _
  | cons i is ih => exact (State.sample_upholds g samples w i).trans (ih _)

theorem State.scanWakeUp_upholds (s : State) (i : InputId) : s.upholds (s.scanWakeUp i) := by
  unfold State.scanWakeUp
  dsimp only
  split
  · exact s.operate_upholds _ _ _ _
  · exact (s.operate_upholds _ _ _ _).trans (State.unlinked_upholds _ _ _)

/-- A group's interval starts again, in STANDBY alone (R172, R173). -/
theorem State.restartInterval_upholds (s : State) (g : GroupId)
    (standby : s.sound → s.power.state = .standby) : s.upholds (s.restartInterval g) :=
  s.setGroup_upholds g _ fun h => iff_of_true rfl (standby h)

theorem State.sample_power (g : GroupId) (samples : Vector (BitVec 16) 8) (is : List InputId)
    (w : State × Option InputId) : (is.foldl (State.sample g samples) w).1.power = w.1.power := by
  induction is generalizing w with
  | nil => rfl
  | cons i is ih =>
    rw [List.foldl_cons, ih]
    unfold State.sample
    split
    · rfl
    · dsimp only
      split
      · split
        · rfl
        · rfl
      · rfl

theorem State.scanInterval_upholds (s : State) (g : GroupId) (samples : Vector (BitVec 16) 8) :
    ∃ t, exec (.scanInterval g samples) s = .next t ∧ s.upholds t := by
  refine ⟨_, rfl, ?_⟩
  split
  · rename_i scans
    have power := State.sample_power g samples (List.finRange 8) (s, none)
    have sampled := (State.samples_upholds g samples (List.finRange 8) (s, none)).trans
      (State.restartInterval_upholds _ g fun _ => by rw [power]; exact scans.1)
    dsimp only at sampled ⊢
    split
    · split
      · exact sampled.trans (State.scanWakeUp_upholds _ _)
      · exact sampled
    · exact sampled
  · exact .refl s

/-! ## The clock and the counting-down rules -/

theorem State.reportFired_upholds (s : State) (n : Nat) (e : Entry) (d : Disposition) (r : Option Result) (b : Byte)
    (minute : Nat) : s.upholds (s.reportFired n e d r b minute) := s.offer_upholds _

theorem State.fire_upholds (s : State) (n : Nat) (e : Entry) (minute : Nat) : s.upholds (s.fire n e minute) := by
  unfold State.fire
  split
  · exact (s.offer_upholds _).trans (State.reportFired_upholds _ _ _ _ _ _ _)
  · split
    · exact s.reportFired_upholds _ _ _ _ _ _
    · exact (s.operate_upholds _ _ _ _).trans (State.reportFired_upholds _ _ _ _ _ _ _)

theorem State.handleEntry_upholds (week : Vector Entry 48) (suppressed : BitVec 8) (d : DateTime) (s : State)
    (n : Fin 48) : s.upholds (s.handleEntry week suppressed d n) := by
  unfold State.handleEntry
  dsimp only
  split
  · split
    · exact s.reportFired_upholds _ _ _ _ _ _
    · exact s.fire_upholds _ _ _
  · exact .refl s

theorem State.startMinute_upholds (s : State) (d : DateTime) : s.upholds (s.startMinute d) := by
  have begun : s.upholds { s with clock := some ⟨d, 0⟩, skip := false } := .of_unmoved {}
  unfold State.startMinute
  dsimp only
  refine State.upholds.trans ?_ (State.foldl_upholds _ (State.handleEntry_upholds _ _ _) _ _)
  split
  · exact begun.trans (State.purge_upholds _)
  · exact begun

theorem State.minuteStart_upholds (s : State) : ∃ t, exec .minuteStart s = .next t ∧ s.upholds t := by
  refine ⟨_, rfl, ?_⟩
  split
  · exact .refl s
  · split
    · exact .refl s
    · exact s.startMinute_upholds _

theorem State.clockEnd_upholds (s : State) : ∃ t, exec .clockEnd s = .next t ∧ s.upholds t := by
  refine ⟨_, rfl, ?_⟩
  split
  · exact .refl s
  · split
    · exact .of_unmoved {}
    · exact .refl s

theorem State.ruleExpired_upholds (s : State) (i : RuleId) : s.upholds (s.ruleExpired i) :=
  (s.setRule_setCounter_upholds i { s.conf.rules.get i with enabled := false } ⟨0, none⟩ fun h =>
    ⟨h.1 i, Nat.zero_le _, fun _ => h.1 i⟩).trans (State.offer_upholds _ _)

theorem State.countDownDecrement_upholds (s : State) (i : RuleId) :
    ∃ t, exec (.countDownDecrement i) s = .next t ∧ s.upholds t := by
  refine ⟨_, rfl, ?_⟩
  split
  · rename_i down
    split
    · exact s.ruleExpired_upholds i
    · refine s.setCounter_upholds i _ fun h => ⟨?_, fun up => ?_⟩
      · have := (h.2 i).1
        dsimp only
        omega
      · simp [down.2.1] at up
  · exact .refl s

/-! ## Keys, the remote, the links and the store -/

theorem State.keyRepeat_upholds (s : State) (k : Key) : ∃ t, exec (.keyRepeat k) s = .next t ∧ s.upholds t := by
  refine ⟨_, rfl, ?_⟩
  split
  · exact (State.upholds.of_unmoved {}).trans (State.formKey_upholds _ _ _)
  · exact .refl s

theorem State.remoteCode_upholds (s : State) (address command : Byte) (again : Bool) :
    ∃ t, exec (.remoteCode address command again) s = .next t ∧ s.upholds t := by
  refine ⟨_, rfl, ?_⟩
  split
  · split
    · exact .refl s
    · split
      · exact s.repeatRemote_upholds _ _
      · exact s.pressRemote_upholds _ _
  · exact .refl s

theorem State.frameStall_upholds (s : State) (l : Link) : ∃ t, exec (.frameStall l) s = .next t ∧ s.upholds t := by
  refine ⟨_, rfl, ?_⟩
  split
  · exact .refl s
  · exact s.setLink_upholds l _

theorem State.frameSendEnd_upholds (s : State) (l : Link) :
    ∃ t, exec (.frameSendEnd l) s = .next t ∧ s.upholds t := by
  refine ⟨_, rfl, ?_⟩
  split
  · exact .refl s
  · exact (s.setLink_upholds l _).trans (.of_unmoved {})

theorem State.unknownKind_upholds (s : State) (l : Link) (kind tag : Byte) (payload : List Byte) :
    ∃ t, exec (.unknownKind l kind tag payload) s = .next t ∧ s.upholds t := by
  refine ⟨_, rfl, ?_⟩
  split
  · exact .refl s
  · exact s.read_upholds l kind tag payload _ fun t => rfl

theorem State.settingsWriteEnd_upholds (s : State) : ∃ t, exec .settingsWriteEnd s = .next t ∧ s.upholds t := by
  refine ⟨_, rfl, ?_⟩
  split
  · exact .refl s
  · rename_i w _
    exact ((s.setLink_upholds w.link _).trans (.of_unmoved {})).trans (State.answer_upholds _ _ _ _ _)

theorem State.lampWriteEnd_upholds (s : State) : ∃ t, exec .lampWriteEnd s = .next t ∧ s.upholds t := by
  refine ⟨_, rfl, ?_⟩
  split
  · exact .refl s
  · split
    · exact .of_unmoved {}
    · exact .of_unmoved {}

/-! ## Every command but THERMAL_ALARM and the four resets -/

/-- Every command but THERMAL_ALARM and the four resets upholds what the power states run. -/
theorem exec_upholds (c : Instr) (s : State)
    (other : c ∉ [Instr.thermalAlarm, .supplyApplied, .supplyDip, .resetLine, .restartReset]) :
    ∃ t, exec c s = .next t ∧ s.upholds t := by
  cases c with
  | linkByteReceived l b stop => exact ⟨_, rfl, s.setLink_upholds l _⟩
  | frameStall l => exact s.frameStall_upholds l
  | unknownKind l kind tag payload => exact s.unknownKind_upholds l kind tag payload
  | frameSendEnd l => exact s.frameSendEnd_upholds l
  | powerOn | powerOff | selectInput | pictureMute | setKeystone | setCorner | recallGeometry | setLampLevel
  | setLampPlan | setLockout | presentCredential | endCredential =>
    exact ⟨_, rfl, s.operational_upholds _ _ _ _ _⟩
  | countDownDecrement i => exact s.countDownDecrement_upholds i
  | readStatus l tag p => exact ⟨_, rfl, s.request_upholds l _ tag p _ fun t => t.setLink_upholds l _⟩
  | readLamp l tag p => exact ⟨_, rfl, s.read_upholds l _ tag p _ (State.bodyReadLamp_state p)⟩
  | readInput l tag p => exact ⟨_, rfl, s.read_upholds l _ tag p _ (State.bodyReadInput_state p)⟩
  | readGeometry l tag p => exact ⟨_, rfl, s.read_upholds l _ tag p _ (State.bodyReadGeometry_state p)⟩
  | readRule l tag p => exact ⟨_, rfl, s.read_upholds l _ tag p _ (State.bodyReadRule_state p)⟩
  | readMatrix l tag p => exact ⟨_, rfl, s.read_upholds l _ tag p _ (State.bodyReadMatrix_state p)⟩
  | readCard l tag p => exact ⟨_, rfl, s.read_upholds l _ tag p _ (State.bodyReadCard_state p)⟩
  | readGroups l tag p | readExceptions l tag p | restart l tag p =>
    exact ⟨_, rfl, s.read_upholds l _ tag p _ fun _ => rfl⟩
  | readEntry l tag p => exact ⟨_, rfl, s.read_upholds l _ tag p _ (State.bodyReadEntry_state p)⟩
  | readClock l tag p => exact ⟨_, rfl, s.read_upholds l _ tag p _ State.bodyReadClock_state⟩
  | readFormat l tag p => exact ⟨_, rfl, s.read_upholds l _ tag p _ (State.bodyReadFormat_state p)⟩
  | readSetting l tag p => exact ⟨_, rfl, s.read_upholds l _ tag p _ (State.bodyReadSetting_state p)⟩
  | readIncidents l tag p => exact ⟨_, rfl, s.read_upholds l _ tag p _ (State.bodyReadIncidents_state p)⟩
  | storeGeometry l tag p => exact ⟨_, rfl, s.request_upholds l _ tag p _ (State.bodyStoreGeometry_upholds p)⟩
  | writeRule l tag p => exact ⟨_, rfl, s.request_upholds l _ tag p _ (State.bodyWriteRule_upholds p)⟩
  | writeMatrix l tag p => exact ⟨_, rfl, s.request_upholds l _ tag p _ (State.bodyWriteMatrix_upholds p)⟩
  | writeCard l tag p => exact ⟨_, rfl, s.request_upholds l _ tag p _ (State.bodyWriteCard_upholds p)⟩
  | writeGroups l tag p => exact ⟨_, rfl, s.request_upholds l _ tag p _ (State.bodyWriteGroups_upholds p)⟩
  | writeEntry l tag p => exact ⟨_, rfl, s.request_upholds l _ tag p _ (State.bodyWriteEntry_upholds p)⟩
  | writeException l tag p => exact ⟨_, rfl, s.request_upholds l _ tag p _ (State.bodyWriteException_upholds p)⟩
  | setClock l tag p => exact ⟨_, rfl, s.request_upholds l _ tag p _ (State.bodySetClock_upholds p)⟩
  | writeFormat l tag p => exact ⟨_, rfl, s.request_upholds l _ tag p _ (State.bodyWriteFormat_upholds p)⟩
  | writeSetting l tag p => exact ⟨_, rfl, s.request_upholds l _ tag p _ (State.bodyWriteSetting_upholds p)⟩
  | learnBase l tag p => exact ⟨_, rfl, s.request_upholds l _ tag p _ (State.bodyLearnBase_upholds p)⟩
  | setTableLock l tag p => exact ⟨_, rfl, s.request_upholds l _ tag p _ (State.bodySetTableLock_upholds p)⟩
  | commit l tag p => exact ⟨_, rfl, s.handled_upholds l _ tag p _ fun t => t.commitTaken_upholds l tag⟩
  | serviceClear l tag p => exact ⟨_, rfl, s.request_upholds l _ tag p _ (State.bodyServiceClear_upholds p)⟩
  | resetLampWear l tag p => exact ⟨_, rfl, s.request_upholds l _ tag p _ (State.bodyResetLampWear_upholds p)⟩
  | thermalAlarm | restartReset | supplyApplied | supplyDip | resetLine => exact absurd (by simp) other
  | keyPress k => exact ⟨_, rfl, (State.upholds.of_unmoved {}).trans (State.press_upholds _ k .panel)⟩
  | keyRelease k => exact ⟨_, rfl, .of_unmoved {}⟩
  | keyRepeat k => exact s.keyRepeat_upholds k
  | remoteCode address command again => exact s.remoteCode_upholds address command again
  | confirmationWindowExpiry => exact ⟨_, rfl, s.closeWindow_upholds _⟩
  | holdExpiry => exact ⟨_, rfl, s.endHold_upholds _⟩
  | litSense x => exact s.litSense_upholds x
  | strikeWindowExpiry x => exact s.strikeWindowExpiry_upholds x
  | retryWaitExpiry x => exact s.retryWaitExpiry_upholds x
  | retryHoldReached x => exact s.retryHoldReached_upholds x
  | ballastFault x => exact s.ballastFault_upholds x
  | warmupExpiry x weak => exact s.warmupExpiry_upholds x weak
  | cooldownExpiry x => exact s.cooldownExpiry_upholds x
  | holdReached x => exact s.holdReached_upholds x
  | litSecond x => exact s.litSecond_upholds x
  | thermalInputRelease => exact ⟨_, rfl, .of_unmoved {}⟩
  | atLevel x | atLevelRelease x | ballastFaultRelease x => exact ⟨_, rfl, s.setLamp_upholds x _⟩
  | wakeTimerExpiry x => exact s.wakeTimerExpiry_upholds x
  | measurement i sync width height rate => exact s.measurement_upholds i sync width height rate
  | acquireTimeout i => exact s.acquireTimeout_upholds i
  | blankEnd => exact s.blankEnd_upholds
  | settleExpiry => exact s.settleExpiry_upholds
  | deferralExpiry => exact ⟨_, rfl, (s.dropPending_sourced _).upholds⟩
  | sourceHoldExpiry => exact s.sourceHoldExpiry_upholds
  | lossGraceExpiry => exact s.lossGraceExpiry_upholds
  | idleExpiry => exact s.idleExpiry_upholds
  | autoOffExpiry => exact s.autoOffExpiry_upholds
  | scanInterval g samples => exact s.scanInterval_upholds g samples
  | minuteStart => exact s.minuteStart_upholds
  | clockEnd => exact s.clockEnd_upholds
  | settingsWriteEnd => exact s.settingsWriteEnd_upholds
  | lampWriteEnd => exact s.lampWriteEnd_upholds

end Sys2Proof.Machine
end

section
/-! PROOFS. THERMAL_ALARM, the resets and an idle millisecond, and so every step, keep what the power states run, the
protection of the lamps, and the counters within their limits (O59). -/

set_option Elab.async false

namespace Sys2Proof.Machine

variable {s t u : State} {l : Link} {x : LampId} {i : InputId}

/-! ## The lamps' protection -/

/-- Lamps whose flags go with their states are at rest where no lamp is alight or called (R84). -/
theorem Lamp.playSound.still_of_uncalled {m : Lamp} (h : m.playSound)
    (dark : m.state ∉ [LampState.ignite, .warmup, .lit, .dimmed]) (uncalled : m.called = false) : m.still := by
  unfold Lamp.playSound at h
  unfold Lamp.still
  cases phase : m.state <;> simp_all

theorem State.guarded_of_protectionSound (play : s.lampsInPlay) (h : s.protectionSound) : s.guarded := fun hot x =>
  have ⟨dark, uncalled⟩ := (h x).2 hot
  (play x).still_of_uncalled dark uncalled

theorem State.guarded.protectionSound (h : s.guarded) (sound : s.sound) : s.protectionSound := fun x => by
  have dark (hot : s.recovery = true) :
      (s.lamp x).state ∉ [LampState.ignite, .warmup, .lit, .dimmed] ∧ (s.lamp x).called = false := by
    obtain ⟨state, uncalled, -⟩ := h hot x
    refine ⟨fun lit => ?_, uncalled⟩
    simp only [List.mem_cons, List.not_mem_nil, or_false] at state lit
    rcases state with state | state | state | state <;> simp [state] at lit
  exact ⟨fun shut => (dark (sound.shut shut)).1, dark⟩

/-- No rule's limit is 0 where the tables are in range (R45). -/
theorem State.countsSound_of_inRange (range : s.tablesInRange) (h : s.countersWithin) : s.countsSound := by
  obtain ⟨⟨-, -, rules, -⟩, -⟩ := range
  exact ⟨fun i => (rules i).2.2.2.1, h⟩

/-! ## What a step keeps -/

/-- What a step from `s` to `t` keeps of the power states, the lamps' protection and the counters. -/
structure State.secures (s t : State) : Prop where
  sound : s.sound → t.sound
  guarded : s.lampsInPlay → s.sound → s.guarded → t.guarded
  counts : s.tablesInRange → s.countersWithin → t.countersWithin

theorem State.upholds.secures (h : s.upholds t) : s.secures t :=
  ⟨h.sound, fun _ => h.guarded, fun range within => (h.counts (State.countsSound_of_inRange range within)).2⟩

/-- A thermal alarm sets the latch, or is taken (R111, R113). -/
theorem State.thermalAlarm_secures (s : State) : ∃ t, exec .thermalAlarm s = .next t ∧ s.secures t := by
  refine ⟨_, rfl, ?_⟩
  split
  · exact (State.upholds.of_unmoved {}).secures
  · have noted : s.upholds { s with thermalInput := true } := .of_unmoved {}
    refine ⟨fun h => State.thermalAlarm_sound (noted.sound h), fun play h _ =>
      State.thermalAlarm_guarded (noted.sound h) fun x => ?_, fun range within =>
      (State.thermalAlarm_countsSound (noted.counts (State.countsSound_of_inRange range within))).2⟩
    cases x
    · exact play .a
    · exact play .b

/-! ## The resets (R15, R119, R177) -/

theorem InputRecord.fresh_monitored : InputRecord.fresh.monitored :=
  ⟨iff_of_false nofun nofun, iff_of_false nofun nofun⟩

/-- The blocks before a resume run what STANDBY or SHUTDOWN runs. -/
theorem State.resettled_sound (s : State) (cause : ResetCause) : (s.resettled cause).sound := by
  have quiet := s.resettled_quiet cause
  have power := s.resettled_power cause
  have recovery : (s.resettled cause).recovery = s.thermalInput := by rw [s.resettled_frame]
  have slot : (s.resettled cause).sw.slot = none := by
    rw [s.resettled_frame]
    rfl
  have hold : (s.resettled cause).sw.hold = none := by
    rw [s.resettled_frame]
    rfl
  exact
    { monitored := fun i => by
        rw [s.resettled_input]
        exact InputRecord.fresh_monitored
      grace := by
        rw [quiet.grace, quiet.watch]
        exact iff_of_false nofun nofun
      idle := by
        rw [power]
        nofun
      mark := by
        rw [power]
        nofun
      autoOff := by
        rw [power]
        nofun
      flight := by
        rw [quiet.steady]
        nofun
      hold := by
        rw [hold]
        nofun
      target := by
        rw [quiet.steady]
        nofun
      idleTested := iff_of_false (by rw [power]; nofun) (by simp [State.idleHolds, quiet.dark.1])
      watchTested := iff_of_false (not_not_intro quiet.watch) (by simp [State.watchActs, quiet.dark])
      slotted := by simp [State.slotted, slot]
      dormant := fun i => by
        rw [s.resettled_input, power]
        refine iff_of_true rfl ?_
        unfold State.stateBefore PowerUnit.begun
        cases s.thermalInput
        · exact .inl rfl
        · exact .inr rfl
      scans := fun g => by
        rw [power]
        unfold State.resettled State.stateBefore
        cases s.thermalInput
        · refine iff_of_true ?_ rfl
          show ((s.cleared cause).startScan.scan.get g).interval.isSome = true
          rw [State.startScan_get]
          rfl
        · refine iff_of_false ?_ nofun
          show ¬(ScanGroup.interval (Vector.get (Vector.replicate 2 _) g)).isSome = true
          rw [vector_get_replicate]
          nofun
      intent := by
        rw [power]
        unfold State.stateBefore
        cases s.thermalInput <;> exact iff_of_false nofun nofun
      recovers := fun _ => by
        rw [power]
        unfold State.stateBefore
        cases s.thermalInput <;> rfl
      shut := fun shut => by
        rw [recovery]
        rw [power] at shut
        unfold State.stateBefore at shut
        cases alarm : s.thermalInput
        · rw [alarm] at shut
          cases shut
        · rfl }

theorem State.resettled_atRest (s : State) (cause : ResetCause) : (s.resettled cause).atRest := fun x => by
  have waiting : ((s.resettled cause).lamp x).waiting = false := by
    rw [s.lamp_resettled]
    split
    · exact s.lampRestarted_waiting cause x
    · exact s.lampRestarted_waiting cause x
  refine ⟨?_, s.lamp_resettled_called cause x, waiting⟩
  rcases ((s.resettled_cold cause).1 x).1 with hot | out
  · simp [hot]
  · simp [out]

theorem State.resettled_countsSound (s : State) (cause : ResetCause) (range : s.tablesInRange) :
    (s.resettled cause).countsSound := by
  obtain ⟨-, -, stored, -⟩ := range
  have found : (s.settingsFound.getD Stored.defaults).inRange := by
    unfold State.settingsFound
    split
    · exact Stored.defaults_inRange
    · cases kept : s.nvSettings with
      | none => exact Stored.defaults_inRange
      | some c => exact stored c kept
  have rules : (s.resettled cause).conf.rules = (s.settingsFound.getD Stored.defaults).rules := by
    rw [s.resettled_frame]
    rfl
  obtain ⟨-, -, limits, -⟩ := found
  unfold State.countsSound State.countersWithin
  rw [rules]
  refine ⟨fun i => (limits i).2.2.2.1, fun i => ?_⟩
  rw [s.resettled_counter]
  exact Rule.loaded_admitted (limits i).2.2.2.1

theorem State.resume_upholds (s : State) (cause : ResetCause) (lit : Bool) : s.upholds (s.resume cause lit) := by
  unfold State.resume
  split
  · exact s.unlinked_upholds _ _
  · exact .refl s

theorem State.startUp_secures (s : State) (cause : ResetCause) : s.secures (s.startUp cause) := by
  obtain ⟨rs, eq, -⟩ := s.startUp_eq cause
  rw [eq]
  have kept := (State.foldl_upholds State.offer State.offer_upholds (s.startReport cause :: rs)
    (s.resettled cause)).trans (State.resume_upholds _ cause (s.litBefore .a || s.litBefore .b))
  exact ⟨fun _ => kept.sound (s.resettled_sound cause),
    fun _ _ _ => kept.guarded (s.resettled_sound cause) fun _ => s.resettled_atRest cause,
    fun range _ => (kept.counts (s.resettled_countsSound cause range)).2⟩

/-! ## Every step -/

theorem exec_secures (c : Instr) (s : State) : ∃ t, exec c s = .next t ∧ s.secures t := by
  by_cases other : c ∈ [Instr.thermalAlarm, .supplyApplied, .supplyDip, .resetLine, .restartReset]
  · simp only [List.mem_cons, List.not_mem_nil, or_false] at other
    rcases other with rfl | rfl | rfl | rfl | rfl
    · exact s.thermalAlarm_secures
    case inr.inl | inr.inr.inl | inr.inr.inr.inl => exact ⟨_, rfl, s.startUp_secures _⟩
    refine ⟨_, rfl, ?_⟩
    split
    · exact s.startUp_secures _
    · exact (State.upholds.refl s).secures
  · obtain ⟨t, ran, upholds⟩ := exec_upholds c s other
    exact ⟨t, ran, upholds.secures⟩

theorem Timer.tick_isSome (left : Timer) : left.tick.isSome = left.isSome := by
  cases left
  · rfl
  · rfl

theorem SwitchUnit.tick_flight (v : SwitchUnit) :
    v.tick.inFlight.isSome = v.inFlight.isSome ∧ v.tick.inFlight.isNone = v.inFlight.isNone
      ∧ v.tick.inFlight.map (·.target) = v.inFlight.map (·.target) := by
  unfold SwitchUnit.tick
  cases v.inFlight
  · exact ⟨rfl, rfl, rfl⟩
  · exact ⟨rfl, rfl, rfl⟩

theorem SwitchUnit.tick_slot (v : SwitchUnit) :
    v.tick.slot.isSome = v.slot.isSome ∧ v.tick.slot.map (·.input) = v.slot.map (·.input) := by
  unfold SwitchUnit.tick
  cases v.slot
  · exact ⟨rfl, rfl⟩
  · exact ⟨rfl, rfl⟩

theorem State.tick_input (s : State) (i : InputId) :
    s.tick.input i = { s.input i with acquire := (s.input i).acquire.tick } := vector_get_map _ _ _

theorem State.tick_scan (s : State) (g : GroupId) :
    s.tick.scan.get g = { s.scan.get g with interval := (s.scan.get g).interval.tick } := vector_get_map _ _ _

theorem State.tick_counter (s : State) (i : RuleId) :
    s.tick.counters.get i = { s.counters.get i with unit := (s.counters.get i).unit.tick } := vector_get_map _ _ _

/-- An idle millisecond lets the timers run on, none of which ends by itself. -/
theorem State.tick_sound (h : s.sound) : s.tick.sound := by
  obtain ⟨flight, none_flies, target⟩ := s.sw.tick_flight
  obtain ⟨slot, pending⟩ := s.sw.tick_slot
  have stable : s.tick.selectedStable = s.selectedStable := by
    unfold State.selectedStable
    rw [State.tick_input]
    rfl
  have acts : s.tick.watchActs = s.watchActs := by
    show (_ && _ && s.sw.tick.inFlight.isNone) = (_ && _ && s.sw.inFlight.isNone)
    rw [none_flies]
    rfl
  exact
    { monitored := fun i => by
        rw [State.tick_input]
        exact ⟨(h.monitored i).1, by rw [Timer.tick_isSome]; exact (h.monitored i).2⟩
      grace := by
        refine Iff.trans ?_ h.grace
        show s.sw.grace.tick.isSome = true ↔ _
        rw [Timer.tick_isSome]
      idle := fun runs => h.idle ((Timer.tick_isSome _).symm.trans runs)
      mark := h.mark
      autoOff := fun runs => h.autoOff ((Timer.tick_isSome _).symm.trans runs)
      flight := fun flies => h.flight (flight.symm.trans flies)
      hold := fun held => h.hold (by
        replace held : (s.sw.hold.map _).isSome = true := held
        rwa [Option.isSome_map] at held)
      target := fun same => h.target (target.symm.trans same)
      idleTested := by
        show s.power.idle.tick.isSome = true ↔ (_ && (!s.tick.selectedStable || _)) = true
        rw [Timer.tick_isSome, stable]
        exact h.idleTested
      watchTested := by
        unfold State.watchTested
        rw [acts, stable]
        exact h.watchTested
      slotted := fun waits => by
        obtain ⟨flies, other⟩ := h.slotted (slot.symm.trans waits)
        exact ⟨flight.trans flies, fun same => other (pending.symm.trans (same.trans target))⟩
      dormant := fun i => by
        rw [State.tick_input]
        exact h.dormant i
      scans := fun g => by
        rw [State.tick_scan, Timer.tick_isSome]
        exact h.scans g
      intent := h.intent
      recovers := h.recovers
      shut := h.shut }

theorem State.tick_secures (s : State) : s.secures s.tick where
  sound := State.tick_sound
  guarded _ _ h hot x := by cases x; exacts [h hot .a, h hot .b]
  counts _ within i := by
    rw [State.tick_counter]
    exact within i

/-- Settles O59: a step keeps the power states' parts, and protects the lamps from them (`exec_secures`,
`State.tick_secures`). -/
theorem everyStepKeepsThePowerStatesSound : Obligations.EveryStepKeepsThePowerStatesSound := by
  intro s t ran
  have secured : s.secures t := by
    unfold step at ran
    split at ran
    · obtain rfl := Host.Outcome.next.inj ran
      exact s.tick_secures
    · rename_i c rest _
      obtain ⟨t', ran', kept⟩ := exec_secures c { s with pending := rest }
      obtain rfl : t' = t := Host.Outcome.next.inj (ran'.symm.trans ran)
      have queue : s.upholds { s with pending := rest } := .of_unmoved {}
      refine ⟨kept.sound ∘ queue.sound, fun play sound guarded => kept.guarded (fun x => ?_) (queue.sound sound)
        (queue.guarded sound guarded), fun range within => kept.counts range within⟩
      cases x
      · exact play .a
      · exact play .b
  refine ⟨fun power watch => State.sound_iff.mp (secured.sound (State.sound_iff.mpr ⟨power, watch⟩)),
    fun play power watch safe => ?_, secured.counts⟩
  have sound := State.sound_iff.mpr ⟨power, watch⟩
  exact (secured.guarded play sound (State.guarded_of_protectionSound play safe)).protectionSound
    (secured.sound sound)

end Sys2Proof.Machine
end

section
/-! PROOFS. The policy tables: what the reads answer (O15), and the table lock (O20). -/

set_option Elab.async false

namespace Sys2Proof.Machine

variable {s t u : State} {l : Link} {x : LampId} {i : InputId}

/-! ## What the reads answer (R33, R34, R43, R60) -/

theorem arg_cons_zero (b : Byte) (p : List Byte) : arg (b :: p) 0 = b.toNat := rfl

theorem Card.record_eq (c : Card) :
    c.record = flagByte c.enabled :: be48 c.token ++ [if c.role = .staff then (3 : Byte) else 4] := by
  unfold Card.record
  cases c.role <;> rfl

/-- Settles O15: each read passes the checks, and its body answers the record. -/
theorem policyTableReadsAnswerTheirRecords : Obligations.PolicyTableReadsAnswerTheirRecords := by
  intro s l tag n m t manages
  refine ⟨fun takes => ?_, fun takes => ?_, fun takes => ?_, fun takes => ?_⟩
  · refine (congrArg Host.Outcome.next (State.request_managed takes manages _ rfl (by decide) rfl)).trans ?_
    rw [State.bodyReadRule, arg_cons_zero, ruleOf]
    by_cases named : n.toNat < 16
    · rw [dif_pos named, dif_pos named]
      rfl
    · rw [dif_neg named, dif_neg named]
      rfl
  · refine (congrArg Host.Outcome.next (State.request_managed takes manages _ rfl (by decide) rfl)).trans ?_
    rw [State.bodyReadMatrix, arg_cons_zero, show arg [n, m] 1 = m.toNat from rfl]
    cases Level.ofCode n.toNat with
    | none => rfl
    | some v =>
      cases ReqClass.ofCode m.toNat with
      | none => rfl
      | some c => rfl
  · refine (congrArg Host.Outcome.next (State.request_managed takes manages _ rfl (by decide) rfl)).trans ?_
    rw [State.bodyReadCard, arg_cons_zero, cardIndex]
    by_cases named : n.toNat < 8
    · rw [dif_pos named, dif_pos named, ← Card.record_eq]
      rfl
    · rw [dif_neg named, dif_neg named]
      rfl
  · exact congrArg Host.Outcome.next (State.request_managed takes manages _ rfl (by decide) rfl)

/-! ## The table lock (R62) -/

theorem onOff_eq (b : Byte) : onOff b.toNat = if b = 0 then some false else if b = 1 then some true else none := by
  revert b
  decide

/-- SET_TABLE_LOCK once the link's checks have passed: the lock off, refused, or on. -/
theorem State.bodySetTableLock_eq (t : State) (b sch rul : Byte) :
    t.bodySetTableLock [b, sch, rul]
      = if b = 0 then
          (⟨.ok, [0, byte t.conf.lock.schedule, byte t.conf.lock.rule]⟩, t.setLock { t.conf.lock with on := false })
        else if b ≠ 1 ∨ 48 < sch.toNat ∨ sch.toNat % 8 ≠ 0 ∨ 16 < rul.toNat ∨ rul.toNat % 4 ≠ 0 then
          t.refuse .badValue
        else if t.conf.lock.on = true ∧ (sch.toNat < t.conf.lock.schedule ∨ rul.toNat < t.conf.lock.rule)
            ∧ t.holdClass ≠ .tech then
          t.refuse .needsTech
        else (⟨.ok, [1, sch, rul]⟩, t.setLock ⟨true, sch.toNat, rul.toNat⟩) := by
  have same (c : Byte) : byte c.toNat = c := by simp [byte]
  unfold State.bodySetTableLock
  dsimp only
  rw [arg_cons_zero, show arg [b, sch, rul] 1 = sch.toNat from rfl, show arg [b, sch, rul] 2 = rul.toNat from rfl,
    onOff_eq]
  by_cases off : b = 0
  · rw [if_pos off, if_pos off]
    rfl
  · rw [if_neg off, if_neg off]
    by_cases on : b = 1
    · rw [if_pos on]
      simp only [on, ne_eq, not_true_eq_false, false_or, TableLock.bytes, same, State.techHold_iff]
      rfl
    · rw [if_neg on]
      exact (if_pos (.inl on)).symm

/-- Settles O20: the access checks ask for a TECH hold on the lectern link and to turn the lock off, and the rest is
`State.bodySetTableLock_eq`. -/
theorem tableLockTakesItsBoundaries : Obligations.TableLockTakesItsBoundaries := by
  intro s l tag b sch rul t takes
  have length : requestLength 0x3C = some [b, sch, rul].length := rfl
  by_cases barred : t.holdClass ≠ .tech ∧ (l = .lectern ∨ b = 0)
  · rw [if_pos barred]
    have row := State.access_without_tech (t := t) (l := l) (kind := 0x3C) (payload := [b, sch, rul]) rfl (by decide)
      (Bool.eq_false_iff.mpr fun tech => barred.1 (State.techHold_iff.mp tech))
    rw [if_pos (barred.2.imp_right fun off => (needsTech_iff _ _).mpr (.inr (.inr ⟨rfl, off⟩)))] at row
    exact congrArg Host.Outcome.next
      (State.handled_refused _ takes ((State.linkRefusal_of_length length).trans row))
  · rw [if_neg barred]
    have passes : t.linkRefusal l 0x3C [b, sch, rul] = none := by
      rw [State.linkRefusal_of_length length]
      by_cases tech : t.holdClass = .tech
      · exact State.access_of_tech (by decide) (State.techHold_iff.mpr tech)
      · refine (State.access_without_tech rfl (by decide)
          (Bool.eq_false_iff.mpr fun on => tech (State.techHold_iff.mp on))).trans
          (if_neg fun needs => barred ⟨tech, ?_⟩)
        rcases needs with lectern | needs
        · exact .inl lectern
        · rcases (needsTech_iff _ _).mp needs with other | other | ⟨-, off⟩
          · exact absurd other (by decide)
          · exact absurd other (by decide)
          · exact .inr off
    refine (congrArg Host.Outcome.next (State.request_served _ takes passes)).trans ?_
    rw [State.bodySetTableLock_eq]
    repeat' split
    all_goals rfl

end Sys2Proof.Machine
end

section
/-! PROOFS. The policy unit: matching and counting (O29), the lockout level, the schedule's SET_RULE and the
counting-down rules (O30). -/

set_option Elab.async false

namespace Sys2Proof.Machine

variable {s t u : State} {l : Link}

/-! ## Matching (R46, R47) -/

/-- A range whose bounds stand in falling order wraps over the end of the week (R47). -/
theorem insideRange_iff (lo hi n : Nat) :
    insideRange lo hi n = true ↔ (lo ≤ n ∧ n ≤ hi) ∨ (hi < lo ∧ (lo ≤ n ∨ n ≤ hi)) := by
  unfold insideRange
  split
  · simp only [Bool.and_eq_true, decide_eq_true_eq]
    omega
  · simp only [Bool.or_eq_true, decide_eq_true_eq]
    omega

theorem Rule.timeOk_none (r : Rule) : r.timeOk none = true ↔ r.timeMode = .off := by
  unfold Rule.timeOk
  cases r.timeMode <;> simp

theorem Rule.timeOk_some (r : Rule) (n : Nat) :
    r.timeOk (some n) = true ↔ r.timeMode = .off
      ∨ (r.timeMode = .atBound ∧ (n = r.timeMin ∨ n = r.timeMax))
      ∨ (r.timeMode = .inside ∧ insideRange r.timeMin r.timeMax n = true)
      ∨ (r.timeMode = .outside ∧ ¬insideRange r.timeMin r.timeMax n = true) := by
  unfold Rule.timeOk
  cases r.timeMode <;> simp

theorem Rule.matches_iff (r : Rule) (c : ReqClass) (kindBit : Nat) (cred : CredClass) (now : Option Nat) :
    r.matches c kindBit cred now = true ↔
      r.enabled = true ∧ r.requesters.getLsbD c.code = true ∧ r.kinds.getLsbD kindBit = true
        ∧ r.credential.getLsbD cred.code = true ∧ r.timeOk now = true := by
  simp only [Rule.matches, Bool.and_eq_true, and_assoc]

/-! ## Counting (R52, R53) -/

/-- A rule that reaches its limit raises the level where it escalates and a level stands above (R53, R59). -/
theorem State.limitReached_raised (s : State) (i : RuleId) (c : ReqClass) (kind : Byte) {v : Level}
    (escalate : (s.conf.rules.get i).escalate = true) (raised : s.level.raised = some v) :
    s.limitReached i c kind
      = ((({ s with level := v } : State).offer (.ruleEvent ⟨i, .limitReached, some (c, kind), true, v⟩)).offer
          (.lockout ⟨.escalation, v, s.level, byte i.val⟩)).setCounter i { s.counters.get i with value := 0 } := by
  unfold State.limitReached
  rw [if_pos escalate, raised]

/-- A rule that reaches its limit and raises nothing tells it, and starts over (R53). -/
theorem State.limitReached_told (s : State) (i : RuleId) (c : ReqClass) (kind : Byte)
    (none_raised : (s.conf.rules.get i).escalate = false ∨ s.level.raised = none) :
    s.limitReached i c kind
      = (s.offer (.ruleEvent ⟨i, .limitReached, some (c, kind), false, s.level⟩)).setCounter i
          { s.counters.get i with value := 0 } := by
  have nothing : (if (s.conf.rules.get i).escalate then s.level.raised else none) = none := by
    rcases none_raised with calm | top
    · simp [calm]
    · rw [top, ite_self]
  unfold State.limitReached
  rw [nothing]

theorem State.count_of_other (s : State) (i : RuleId) (c : ReqClass) (kind : Byte)
    (other : (s.conf.rules.get i).counterMode ≠ .countUp) : s.count i c kind = s := by
  unfold State.count
  split
  · rename_i up
    exact absurd up other
  · rfl
  · rfl

theorem State.count_of_countUp (s : State) (i : RuleId) (c : ReqClass) (kind : Byte)
    (up : (s.conf.rules.get i).counterMode = .countUp) :
    s.count i c kind
      = if (s.counters.get i).value + 1 = (s.conf.rules.get i).limit then s.limitReached i c kind
        else s.setCounter i { s.counters.get i with value := (s.counters.get i).value + 1 } := by
  unfold State.count
  rw [up]

/-- Settles O29: the branches of `Rule.timeOk`, and of `State.count` with those of `State.limitReached`. -/
theorem rulesMatchAndCount : Obligations.RulesMatchAndCount := by
  refine ⟨fun r c kindBit cred now => ?_, fun s i c kind r n raised rule value level => ?_⟩
  · rw [Rule.matches_iff]
    refine and_congr_right' (and_congr_right' (and_congr_right' (and_congr_right' ?_)))
    cases now with
    | none => simp [Rule.timeOk_none]
    | some n => simp [Rule.timeOk_some, insideRange_iff]
  · subst rule value
    split
    · rename_i other
      exact s.count_of_other i c kind other
    · rename_i up
      rw [s.count_of_countUp i c kind (not_not.mp up)]
      by_cases reached : (s.counters.get i).value + 1 = (s.conf.rules.get i).limit
      case neg => rw [if_neg reached, if_pos reached]
      case pos =>
        rw [if_pos reached, if_neg (not_not_intro reached)]
        split
        · rename_i rises
          obtain ⟨escalate, other⟩ := rises
          refine s.limitReached_raised i c kind escalate ?_
          rw [level] at other ⊢
          cases was : s.level <;> simp [was, Level.raised] at other ⊢
        · rename_i stays
          refine s.limitReached_told i c kind ?_
          by_cases escalate : (s.conf.rules.get i).escalate = true
          · refine .inr ?_
            have same : raised = s.level := by
              by_contra other
              exact stays ⟨escalate, other⟩
            rw [level] at same
            cases was : s.level <;> simp [was, Level.raised] at same ⊢
          · exact .inl (Bool.eq_false_iff.mpr escalate)

/-! ## The lockout level and the counting-down rules (R54 to R58) -/

theorem Level.arg_code (v : Level) : Level.ofCode (arg [byte v.code] 0) = some v := by cases v <;> rfl

/-- SET_LOCKOUT as the policy unit takes it (R57). -/
theorem State.takeLockout_eq (s : State) (v : Level) (a : Asker) :
    s.takeLockout v a
      = if s.power.state = .shutdown then s.refuse .state
        else if v = s.level then (⟨.ok, [byte v.code]⟩, s)
        else (⟨.ok, [byte v.code]⟩, ({ s with level := v } : State).offer
          (.lockout ⟨.request, v, s.level, byte a.cls.code⟩)) := by
  unfold State.takeLockout State.setLevel
  split
  · rfl
  · split
    · rfl
    · rfl

/-- The schedule's SET_RULE as the policy unit takes it (R58, R63). -/
theorem State.takeSetRule_eq (s : State) (i : RuleId) (on : Bool) {r : Rule}
    (rule : r = { s.conf.rules.get i with enabled := on }) :
    s.takeSetRule i on
      = if s.power.state = .shutdown then s.refuse .state
        else if s.conf.lock.on = true ∧ i.val < s.conf.lock.rule then s.refuse .locked
        else (Answer.bare .ok, { s with
          conf := { s.conf with rules := s.conf.rules.set i.val r i.isLt }
          counters := s.counters.set i.val r.loaded i.isLt }) := by
  subst rule
  have locked : s.ruleLocked i = true ↔ s.conf.lock.on = true ∧ i.val < s.conf.lock.rule := by
    simp [State.ruleLocked]
  unfold State.takeSetRule
  rw [show (if s.ruleLocked i = true then _ else _) = _ from if_congr locked rfl rfl]
  unfold State.reload
  rw [State.rule_setRule, if_pos rfl]
  rfl

theorem Rule.unitMs_eq (r : Rule) : r.unitMs = if r.unit = .seconds then 1000 else 60000 := by
  unfold Rule.unitMs
  cases r.unit <;> rfl

/-- Settles O30: the branches of the three owners, SET_RULE's after its evaluation and activity. -/
theorem lockoutIsSetAndCountDownsRun : Obligations.LockoutIsSetAndCountDownsRun := by
  refine ⟨fun s l tag v t pr u takes permits => ?_, fun e i on action arg1 arg2 => ?_, fun _ _ _ => rfl,
    fun s i on priority e w u r judged active rule => ?_, fun s i r n rule value enabled down runs =>
    ⟨fun two => ?_, fun last => ?_⟩⟩
  · show Host.Outcome.next (s.operational l 0x19 tag [byte v.code] ((Level.ofCode _).map .setLockout)) = _
    rw [Level.arg_code, Option.map_some, State.operational_permitted takes rfl rfl permits]
    unfold State.take
    dsimp only
    rw [State.takeLockout_eq]
    split
    · rfl
    · split
      · rfl
      · rfl
  · have set : onOff e.arg2 = some on := by
      rw [arg2]
      cases on <;> rfl
    unfold Entry.operation ruleOf
    rw [action, set, arg1]
    exact congrArg (Option.bind · _) (dif_pos i.isLt)
  · have verdict : e = (s.evaluate .schedule (.setRule i on) (some priority)).1 := congrArg Prod.fst judged
    have counted : w = (s.evaluate .schedule (.setRule i on) (some priority)).2 := congrArg Prod.snd judged
    split
    · rename_i denied
      rw [State.operate_denied _ _ _ _ _ (verdict ▸ denied), counted]
    · rename_i permitted
      rw [State.operate_permitted _ _ _ _ _ (verdict ▸ Bool.eq_true_of_not_eq_false permitted),
        if_pos (show (Operation.setRule i on).isActivity .schedule = true from rfl), ← counted, ← active]
      unfold State.take
      dsimp only
      rw [State.takeSetRule_eq u i on rule, Rule.loaded_eq, show r.enabled = on by rw [rule]]
      split
      · rfl
      · split
        · rfl
        · rfl
  · subst rule value
    refine congrArg Host.Outcome.next ?_
    rw [if_pos ⟨enabled, down, runs⟩, if_neg (by omega), Rule.unitMs_eq]
  · subst rule value
    refine congrArg Host.Outcome.next ?_
    rw [if_pos ⟨enabled, down, runs⟩, if_pos last]
    rfl

end Sys2Proof.Machine
end

section
/-! PROOFS. The operational requests as commands: what their payloads name, and what the policy unit refuses (O27). -/

set_option Elab.async false

namespace Sys2Proof.Machine

variable {s t u : State} {l : Link} {c : Instr} {r : Request}

/-! ## Numbers of several bytes -/

/-- A number with one more byte behind it, as a word. -/
theorem toNat_append_byte {w : Nat} (x : BitVec w) (b : Byte) : (x ++ b).toNat = x.toNat * 256 + b.toNat := by
  rw [BitVec.toNat_append, ← Nat.shiftLeft_add_eq_or_of_lt b.isLt, Nat.shiftLeft_eq]

theorem argSigned16_eq (p : List Byte) (n : Nat) {x y : Byte} (high : argByte p n = x) (low : argByte p (n + 1) = y) :
    argSigned16 p n = (x ++ y).toInt := by
  unfold argSigned16 arg16 arg
  rw [high, low, ← toNat_append_byte, BitVec.ofNat_toNat]
  exact congrArg BitVec.toInt (BitVec.setWidth_eq _)

/-- The token of six bytes is the bytes one behind the other (R30). -/
theorem tokenAt_eq (a b c d e f : Byte) :
    tokenAt [a, b, c, d, e, f] 0 = (a ++ b ++ c ++ d ++ e ++ f : BitVec 48) := by
  refine BitVec.eq_of_toNat_eq ?_
  have word := (a ++ b ++ c ++ d ++ e ++ f : BitVec 48).isLt
  simp only [toNat_append_byte] at word ⊢
  have number : beNat (([a, b, c, d, e, f].drop 0).take 6)
      = ((((a.toNat * 256 + b.toNat) * 256 + c.toNat) * 256 + d.toNat) * 256 + e.toNat) * 256 + f.toNat := by
    simp [beNat]
  unfold tokenAt
  rw [number, BitVec.toNat_ofNat, Nat.mod_eq_of_lt word]

theorem malformed_iff (token : BitVec 48) : malformed token = true ↔ token = 0 ∨ token = BitVec.allOnes 48 := by
  simp [malformed]

/-! ## The operational requests (R10, R49) -/

theorem length_eq_five_iff (p : List Byte) : p.length = 5 ↔ ∃ a b c d e, p = [a, b, c, d, e] := by
  refine ⟨fun h => ?_, fun ⟨a, b, c, d, e, h⟩ => h ▸ rfl⟩
  match p, h with
  | [a, b, c, d, e], _ => exact ⟨a, b, c, d, e, rfl⟩

theorem length_eq_six_iff (p : List Byte) : p.length = 6 ↔ ∃ a b c d e f, p = [a, b, c, d, e, f] := by
  refine ⟨fun h => ?_, fun ⟨a, b, c, d, e, f, h⟩ => h ▸ rfl⟩
  match p, h with
  | [a, b, c, d, e, f], _ => exact ⟨a, b, c, d, e, f, rfl⟩

/-- An operational request of its length goes to the policy unit as the operation that it names. -/
theorem exec_operational (s : State) (formed : c.wellFormed = true) (request : requestOfCommand c = some (l, r))
    (kind : r.kind.toNat < 0x20) (length : requestLength r.kind = some r.payload.length) :
    exec c s = .next (s.operational l r.kind r.tag r.payload (operationOf r)) := by
  cases c with
  | unknownKind j k tag p =>
    cases request
    have known := (requestLength_isSome_iff k).mp (by rw [length]; rfl)
    simp [Instr.wellFormed, known] at formed
  | powerOn j tag p | powerOff j tag p | endCredential j tag p =>
    cases request
    obtain rfl := List.length_eq_zero_iff.mp (Option.some.inj length).symm
    rfl
  | selectInput j tag p | pictureMute j tag p | recallGeometry j tag p | setLampLevel j tag p | setLampPlan j tag p
  | setLockout j tag p =>
    cases request
    obtain ⟨b, rfl⟩ := List.length_eq_one_iff.mp (Option.some.inj length).symm
    rfl
  | setKeystone j tag p =>
    cases request
    obtain ⟨b, v, h, rfl⟩ := List.length_eq_three.mp (Option.some.inj length).symm
    rfl
  | setCorner j tag p =>
    cases request
    obtain ⟨corner, x1, x0, y1, y0, rfl⟩ := (length_eq_five_iff _).mp (Option.some.inj length).symm
    show Host.Outcome.next (s.operational l 0x15 tag _ ((Corner.ofCode corner.toNat).map _)) = _
    rw [argSigned16_eq (x := x1) (y := x0) _ 1 rfl rfl, argSigned16_eq (x := y1) (y := y0) _ 3 rfl rfl]
    rfl
  | presentCredential j tag p =>
    cases request
    obtain ⟨a, b, c, d, e, f, rfl⟩ := (length_eq_six_iff _).mp (Option.some.inj length).symm
    show Host.Outcome.next (s.operational l 0x1A tag _ (if _ then none else some (.presentCredential _))) = _
    rw [tokenAt_eq, if_congr (malformed_iff _) rfl rfl]
    rfl
  | readStatus | readLamp | readInput | readGeometry | storeGeometry | readRule | writeRule | readMatrix
  | writeMatrix | readCard | writeCard | readGroups | writeGroups | readEntry | writeEntry | readExceptions
  | writeException | readClock | setClock | readFormat | writeFormat | readSetting | writeSetting | commit | learnBase
  | serviceClear | resetLampWear | readIncidents | setTableLock | restart =>
    cases request
    dsimp only at kind
    exact absurd kind (by decide)
  | _ => cases request

/-- Settles O27: `exec_operational` hands the request to the policy unit, which refuses it. -/
theorem policyRefusesBadValuesAndDeniedRequests : Obligations.PolicyRefusesBadValuesAndDeniedRequests := by
  intro c l r s t formed request takes kind length
  have ran := exec_operational s formed request kind length
  have operational : isManagement r.kind = false := by
    simp only [isManagement, Bool.and_eq_false_iff, decide_eq_false_iff_not]
    omega
  have reply : replyKind r.kind = r.kind + 0x80 := replyKind_known (by simp [length])
  split
  · rename_i unnamed
    rw [ran, unnamed, State.operational_bad takes length operational, ← reply]
    rfl
  · rename_i o named
    intro denied
    rw [ran, named, State.operational_denied takes length operational denied, ← reply]
    exact ⟨rfl, State.evaluate_frame _ _ _ _⟩

end Sys2Proof.Machine
end

section
/-! PROOFS. WRITE_RULE and WRITE_MATRIX (O18): the payload's fields, group by group, and what their masks select. -/

set_option Elab.async false

namespace Sys2Proof.Machine

variable {s t u : State} {l : Link} {tag : Byte} {p : List Byte} {mask : Nat} {r old : Rule}

/-! ## Payload bytes -/

theorem toNat_byte {n : Nat} (h : n < 256) : (byte n).toNat = n := by
  simp [byte, Nat.mod_eq_of_lt h]

/-- A payload byte that carries a number. -/
theorem arg_eq {n k : Nat} (at_ : argByte p n = byte k) (h : k < 256) : arg p n = k := by
  rw [arg, at_, toNat_byte h]

/-- Two payload bytes that carry a number, its high byte first. -/
theorem arg16_eq {n k : Nat} (high : argByte p n = byte (k / 256)) (low : argByte p (n + 1) = byte k)
    (h : k < 65536) : arg16 p n = k := by
  rw [arg16, arg_eq high (by omega), arg, low, byte, BitVec.toNat_ofNat]
  omega

/-- Two flags in a byte. -/
theorem flagsByte_two (a b : Bool) :
    (flagsByte [a, b]).toNat < 4 ∧ (flagsByte [a, b]).toNat.testBit 0 = a ∧ (flagsByte [a, b]).toNat.testBit 1 = b := by
  revert a b
  decide

/-! ## The rule record as WRITE_RULE carries it (R18, R61) -/

/-- The payload of WRITE_RULE carries a rule's fields, each in its range. -/
structure Rule.carried (r : Rule) (mask : Nat) (p : List Byte) : Prop where
  mask : arg16 p 1 = mask
  flags : arg p 3 < 4 ∧ (arg p 3).testBit 0 = r.enabled ∧ (arg p 3).testBit 1 = r.escalate
  requesters : arg p 4 = r.requesters.toNat
  kinds : arg16 p 5 = r.kinds.toNat
  credential : arg p 7 = r.credential.toNat
  timeMode : TimeMode.ofCode (arg p 8) = some r.timeMode
  timeMin : arg16 p 9 = r.timeMin ∧ r.timeMin < 10080
  timeMax : arg16 p 11 = r.timeMax ∧ r.timeMax < 10080
  verdict : RuleVerdict.ofCode (arg p 13) = some r.verdict
  priorityMode : PriorityMode.ofCode (arg p 14) = some r.priorityMode
  priority : arg p 15 = r.priority ∧ r.priority ≤ 7
  mapMode : MapMode.ofCode (arg p 16) = some r.mapMode
  map : argByte p 17 = r.map
  counterMode : CounterMode.ofCode (arg p 18) = some r.counterMode
  unit : CounterUnit.ofCode (arg p 19) = some r.unit
  limit : arg16 p 20 = r.limit ∧ 1 ≤ r.limit ∧ r.limit ≤ 2047

/-- The rule record behind a field mask carries the rule. -/
theorem Rule.record_carried (i : RuleId) (v : Nat) (form : p = byte i.val :: be16 mask ++ ruleRecord r v)
    (short : mask < 512) (timeMin : r.timeMin < 10080) (timeMax : r.timeMax < 10080) (priority : r.priority ≤ 7)
    (least : 1 ≤ r.limit) (most : r.limit ≤ 2047) : r.carried mask p := by
  have requesters := r.requesters.isLt
  have kinds := r.kinds.isLt
  have credential := r.credential.isLt
  subst form
  have flags := flagsByte_two r.enabled r.escalate
  exact
    { mask := arg16_eq rfl rfl (by omega)
      flags := flags
      requesters := arg_eq rfl (by omega)
      kinds := arg16_eq rfl rfl (by omega)
      credential := arg_eq rfl (by omega)
      timeMode := by
        rw [arg_eq (k := r.timeMode.code) rfl (by cases r.timeMode <;> decide)]
        cases r.timeMode <;> rfl
      timeMin := ⟨arg16_eq rfl rfl (by omega), timeMin⟩
      timeMax := ⟨arg16_eq rfl rfl (by omega), timeMax⟩
      verdict := by
        rw [arg_eq (k := r.verdict.code) rfl (by cases r.verdict <;> decide)]
        cases r.verdict <;> rfl
      priorityMode := by
        rw [arg_eq (k := r.priorityMode.code) rfl (by cases r.priorityMode <;> decide)]
        cases r.priorityMode <;> rfl
      priority := ⟨arg_eq rfl (by omega), priority⟩
      mapMode := by
        rw [arg_eq (k := r.mapMode.code) rfl (by cases r.mapMode <;> decide)]
        cases r.mapMode <;> rfl
      map := by
        show byte r.map.toNat = r.map
        simp [byte]
      counterMode := by
        rw [arg_eq (k := r.counterMode.code) rfl (by cases r.counterMode <;> decide)]
        cases r.counterMode <;> rfl
      unit := by
        rw [arg_eq (k := r.unit.code) rfl (by cases r.unit <;> decide)]
        cases r.unit <;> rfl
      limit := ⟨arg16_eq rfl rfl (by omega), least, most⟩ }

/-! ### The groups, each written where its bit is set -/

theorem Rule.writeWho_carried (h : r.carried mask p) (old : Rule) :
    old.writeWho p mask = some { old with
      requesters := if mask.testBit 0 then r.requesters else old.requesters
      kinds := if mask.testBit 1 then r.kinds else old.kinds
      credential := if mask.testBit 2 then r.credential else old.credential } := by
  have requesters := r.requesters.isLt
  have kinds := r.kinds.isLt
  have credential := r.credential.isLt
  have fits : ((selects mask 0 && decide (64 ≤ arg p 4)) || (selects mask 1 && decide (4096 ≤ arg16 p 5))
      || (selects mask 2 && decide (32 ≤ arg p 7))) = false := by
    rw [h.requesters, h.kinds, h.credential, decide_eq_false (by omega), decide_eq_false (by omega),
      decide_eq_false (by omega)]
    simp
  unfold Rule.writeWho
  rw [if_neg (by simp [fits]), h.requesters, h.kinds, h.credential]
  simp [selects]

theorem Rule.writeTime_carried (h : r.carried mask p) (old : Rule) :
    old.writeTime p mask = some { old with
      timeMode := if mask.testBit 3 then r.timeMode else old.timeMode
      timeMin := if mask.testBit 3 then r.timeMin else old.timeMin
      timeMax := if mask.testBit 3 then r.timeMax else old.timeMax } := by
  unfold Rule.writeTime selects
  rw [h.timeMode, h.timeMin.1, h.timeMax.1]
  split
  · exact if_pos ⟨h.timeMin.2, h.timeMax.2⟩
  · rfl

theorem Rule.writeVerdict_carried (h : r.carried mask p) (old : Rule) :
    old.writeVerdict p mask = some { old with verdict := if mask.testBit 4 then r.verdict else old.verdict } := by
  unfold Rule.writeVerdict selects
  rw [h.verdict]
  split
  · rfl
  · rfl

theorem Rule.writePriority_carried (h : r.carried mask p) (old : Rule) :
    old.writePriority p mask = some { old with
      priorityMode := if mask.testBit 5 then r.priorityMode else old.priorityMode
      priority := if mask.testBit 5 then r.priority else old.priority } := by
  unfold Rule.writePriority selects
  rw [h.priorityMode, h.priority.1]
  split
  · exact if_pos h.priority.2
  · rfl

theorem Rule.writeMap_carried (h : r.carried mask p) (old : Rule) :
    old.writeMap p mask = some { old with
      mapMode := if mask.testBit 6 then r.mapMode else old.mapMode
      map := if mask.testBit 6 then r.map else old.map } := by
  unfold Rule.writeMap selects
  rw [h.mapMode, h.map]
  split
  · rfl
  · rfl

theorem Rule.writeCounter_carried (h : r.carried mask p) (old : Rule) :
    old.writeCounter p mask = some { old with
      counterMode := if mask.testBit 7 then r.counterMode else old.counterMode
      unit := if mask.testBit 7 then r.unit else old.unit
      limit := if mask.testBit 7 then r.limit else old.limit
      escalate := if mask.testBit 7 then r.escalate else old.escalate } := by
  unfold Rule.writeCounter selects
  rw [h.counterMode, h.unit, h.limit.1, h.flags.2.2]
  split
  · exact if_pos h.limit.2
  · rfl

theorem Rule.writeEnabled_carried (h : r.carried mask p) (old : Rule) :
    old.writeEnabled p mask = { old with enabled := if mask.testBit 8 then r.enabled else old.enabled } := by
  unfold Rule.writeEnabled selects
  rw [h.flags.2.1]
  split
  · rfl
  · rfl

/-- A rule with the groups that a field mask selects taken from another. -/
def Rule.merged (old r : Rule) (mask : Nat) : Rule :=
  { requesters := if mask.testBit 0 then r.requesters else old.requesters
    kinds := if mask.testBit 1 then r.kinds else old.kinds
    credential := if mask.testBit 2 then r.credential else old.credential
    timeMode := if mask.testBit 3 then r.timeMode else old.timeMode
    timeMin := if mask.testBit 3 then r.timeMin else old.timeMin
    timeMax := if mask.testBit 3 then r.timeMax else old.timeMax
    verdict := if mask.testBit 4 then r.verdict else old.verdict
    priorityMode := if mask.testBit 5 then r.priorityMode else old.priorityMode
    priority := if mask.testBit 5 then r.priority else old.priority
    mapMode := if mask.testBit 6 then r.mapMode else old.mapMode
    map := if mask.testBit 6 then r.map else old.map
    counterMode := if mask.testBit 7 then r.counterMode else old.counterMode
    unit := if mask.testBit 7 then r.unit else old.unit
    limit := if mask.testBit 7 then r.limit else old.limit
    escalate := if mask.testBit 7 then r.escalate else old.escalate
    enabled := if mask.testBit 8 then r.enabled else old.enabled }

/-- The checks of WRITE_RULE let a record in range through, and write what its mask selects (R61). -/
theorem Rule.written_carried (h : r.carried mask p) (short : mask < 512) (old : Rule) :
    old.written p = some (old.merged r mask) := by
  unfold Rule.written
  dsimp only
  rw [h.mask, if_neg (not_or.mpr ⟨by omega, by have := h.flags.1; omega⟩), Rule.writeWho_carried h, Option.bind_some,
    Rule.writeTime_carried h, Option.bind_some, Rule.writeVerdict_carried h, Option.bind_some,
    Rule.writePriority_carried h, Option.bind_some, Rule.writeMap_carried h, Option.bind_some,
    Rule.writeCounter_carried h, Option.map_some, Rule.writeEnabled_carried h]
  rfl

/-- WRITE_RULE as a command, its record in range (R61). -/
theorem State.bodyWriteRule_carried (t : State) (i : RuleId) (h : r.carried mask p) (short : mask < 512)
    (index : arg p 0 = i.val) :
    t.bodyWriteRule p
      = if t.conf.lock.on = true ∧ i.val < t.conf.lock.rule then t.refuse .locked
        else
          let written := t.setRule i ((t.conf.rules.get i).merged r mask)
          let reloaded := if mask.testBit 7 = true ∨ mask.testBit 8 = true then written.reload i else written
          (⟨.ok, reloaded.ruleBytes i⟩, reloaded) := by
  have named : ruleOf (arg p 0) = some i := by
    rw [index]
    exact dif_pos i.isLt
  have locked : t.ruleLocked i = true ↔ t.conf.lock.on = true ∧ i.val < t.conf.lock.rule := by
    simp [State.ruleLocked]
  have reloads : (selects mask 7 || selects mask 8) = true ↔ mask.testBit 7 = true ∨ mask.testBit 8 = true := by
    simp [selects]
  unfold State.bodyWriteRule
  rw [named]
  dsimp only
  rw [Rule.written_carried h short, h.mask, if_congr locked rfl rfl]
  dsimp only
  rw [if_congr reloads rfl rfl]

/-- What stands once a rule is written, its counter reloaded or kept. -/
theorem State.written_eq (t : State) (i : RuleId) (new : Rule) (again : Prop) [Decidable again] :
    (if again then (t.setRule i new).reload i else t.setRule i new)
      = { t with
          conf := { t.conf with rules := t.conf.rules.set i.val new i.isLt }
          counters := t.counters.set i.val (if again then new.loaded else t.counters.get i) i.isLt } := by
  split
  · unfold State.reload
    rw [State.rule_setRule, if_pos rfl]
    rfl
  · have same : t.counters.set i.val (t.counters.get i) i.isLt = t.counters := Vector.set_getElem_self _
    rw [same]
    rfl

/-! ## The matrix (R43, R44) -/

theorem ReqClass.ofCode_code (c : ReqClass) : ReqClass.ofCode c.code = some c := by cases c <;> rfl

theorem ReqClass.code_lt (c : ReqClass) : c.code < 6 := by cases c <;> decide

theorem cell_index_lt (v : Level) (c : ReqClass) : 6 * v.code + c.code < 24 := by
  cases v <;> cases c <;> decide

/-- Each level and class has a cell of its own (R42). -/
theorem cell_index_inj {v w : Level} {c d : ReqClass} (h : 6 * w.code + d.code = 6 * v.code + c.code) :
    w = v ∧ d = c := by
  have first := c.code_lt
  have second := d.code_lt
  refine ⟨Option.some.inj ?_, Option.some.inj ?_⟩
  · rw [← Level.ofCode_code w, ← Level.ofCode_code v, show w.code = v.code by omega]
  · rw [← ReqClass.ofCode_code d, ← ReqClass.ofCode_code c, show d.code = c.code by omega]

theorem Stored.cell_setCell (conf : Stored) (v w : Level) (c d : ReqClass) (x : Cell) :
    (conf.setCell v c x).cell w d = if w = v ∧ d = c then x else conf.cell w d := by
  split
  · rename_i same
    obtain ⟨rfl, rfl⟩ := same
    exact vector_get_set_same conf.matrix ⟨6 * w.code + d.code, _⟩ x
  · rename_i other
    exact vector_get_set_other conf.matrix (i := ⟨6 * v.code + c.code, cell_index_lt v c⟩)
      (j := ⟨6 * w.code + d.code, cell_index_lt w d⟩) (fun same => other (cell_index_inj (congrArg Fin.val same))) x

theorem Stored.ruleSet_setRuleSet (conf : Stored) (c d : ReqClass) (x : BitVec 16) :
    (conf.setRuleSet c x).ruleSet d = if d = c then x else conf.ruleSet d := by
  split
  · rename_i same
    obtain rfl := same
    exact vector_get_set_same conf.ruleSets ⟨d.code, _⟩ x
  · rename_i other
    refine vector_get_set_other conf.ruleSets (i := ⟨c.code, c.code_lt⟩) (j := ⟨d.code, d.code_lt⟩)
      (fun same => other ?_) x
    rw [← Option.some_inj, ← ReqClass.ofCode_code d, ← ReqClass.ofCode_code c, show d.code = c.code from
      congrArg Fin.val same]

/-- The tables once WRITE_MATRIX has written what its mask selects (R44). -/
def Stored.matrixWritten (conf : Stored) (v : Level) (c : ReqClass) (mask : Nat) (x : Cell) (rs : BitVec 16) : Stored :=
  let celled := if mask.testBit 0 then conf.setCell v c x else conf
  if mask.testBit 1 then celled.setRuleSet c rs else celled

theorem Stored.matrixWritten_frame (conf : Stored) (v : Level) (c : ReqClass) (mask : Nat) (x : Cell)
    (rs : BitVec 16) : conf.matrixWritten v c mask x rs
      = { conf with matrix := (conf.matrixWritten v c mask x rs).matrix
                    ruleSets := (conf.matrixWritten v c mask x rs).ruleSets } := by
  unfold Stored.matrixWritten
  dsimp only
  repeat' split
  all_goals rfl

theorem Stored.cell_matrixWritten (conf : Stored) (v w : Level) (c d : ReqClass) (mask : Nat) (x : Cell)
    (rs : BitVec 16) : (conf.matrixWritten v c mask x rs).cell w d
      = if w = v ∧ d = c ∧ mask.testBit 0 = true then x else conf.cell w d := by
  have celled : (conf.matrixWritten v c mask x rs).cell w d
      = (if mask.testBit 0 then conf.setCell v c x else conf).cell w d := by
    unfold Stored.matrixWritten
    dsimp only
    split
    · rfl
    · rfl
  rw [celled]
  by_cases selected : mask.testBit 0 = true
  · rw [if_pos selected, Stored.cell_setCell]
    simp [selected]
  · rw [if_neg selected]
    simp [selected]

theorem Stored.ruleSet_matrixWritten (conf : Stored) (v : Level) (c d : ReqClass) (mask : Nat) (x : Cell)
    (rs : BitVec 16) : (conf.matrixWritten v c mask x rs).ruleSet d
      = if d = c ∧ mask.testBit 1 = true then rs else conf.ruleSet d := by
  have kept : (if mask.testBit 0 then conf.setCell v c x else conf).ruleSet d = conf.ruleSet d := by
    split
    · rfl
    · rfl
  unfold Stored.matrixWritten
  dsimp only
  by_cases selected : mask.testBit 1 = true
  · rw [if_pos selected, Stored.ruleSet_setRuleSet, kept]
    simp [selected]
  · rw [if_neg selected, kept]
    simp [selected]

/-- WRITE_MATRIX with its codes and its priority in range (R44). -/
theorem State.bodyWriteMatrix_carried (t : State) (v : Level) (c : ReqClass) (x : Cell) (rs : BitVec 16)
    (form : p = [byte v.code, byte c.code, byte mask, flagByte (!x.permit), byte x.map.toNat, byte x.priority]
      ++ be16 rs.toNat) (short : mask < 4) (priority : x.priority ≤ 7) :
    t.bodyWriteMatrix p
      = (⟨.ok, (t.conf.matrixWritten v c mask x rs).matrixBytes v c⟩,
          { t with conf := t.conf.matrixWritten v c mask x rs }) := by
  have word := rs.isLt
  have codes : arg p 0 = v.code ∧ arg p 1 = c.code ∧ arg p 2 = mask ∧ arg p 5 = x.priority := by
    have := c.code_lt
    subst form
    exact ⟨arg_eq rfl (by cases v <;> decide), arg_eq rfl (by omega), arg_eq rfl (by omega), arg_eq rfl (by omega)⟩
  have cell : arg p 3 = (if x.permit then 0 else 1) ∧ argByte p 4 = x.map := by
    subst form
    refine ⟨?_, ?_⟩
    · show (flagByte (!x.permit)).toNat = _
      cases x.permit <;> rfl
    · show byte x.map.toNat = x.map
      simp [byte]
  have rules : arg16 p 6 = rs.toNat := by
    subst form
    exact arg16_eq rfl rfl (by omega)
  obtain ⟨level, cls, masked, ranked⟩ := codes
  have permit : ((if x.permit then 0 else 1 : Nat) == 0) = x.permit := by cases x.permit <;> rfl
  have flag : ¬1 < (if x.permit then 0 else 1 : Nat) := by split <;> omega
  unfold State.bodyWriteMatrix
  rw [level, cls, Level.ofCode_code, ReqClass.ofCode_code]
  dsimp only
  rw [masked, ranked, cell.1, cell.2, rules, permit, if_neg (by omega), BitVec.ofNat_toNat, BitVec.setWidth_eq]
  rfl

/-- Settles O18: the fields that the payloads carry, written group by group where the mask selects them. -/
theorem ruleAndMatrixWritesPutTheirFieldsInPlace : Obligations.RuleAndMatrixWritesPutTheirFieldsInPlace := by
  intro s l tag t manages
  refine ⟨fun i mask r v p form short timeMin timeMax priority least most takes => ?_,
    fun v c mask x rs p form short priority takes => ?_⟩
  · have carried := Rule.record_carried i v form short timeMin timeMax priority least most
    have index : arg p 0 = i.val := by
      subst form
      exact arg_eq rfl (by omega)
    have body := t.bodyWriteRule_carried i carried short index
    have ran : exec (.writeRule l tag p) s = .next ((t.bodyWriteRule p).2.reply l
        ⟨0xA6, tag, (t.bodyWriteRule p).1.result, (t.bodyWriteRule p).1.payload⟩) :=
      congrArg Host.Outcome.next (State.request_managed takes manages _ (by subst form; rfl) (by decide) rfl)
    split
    · rename_i locked
      rw [ran, body, if_pos locked]
      rfl
    · rename_i free
      rw [if_neg free] at body
      dsimp only at body
      rw [t.written_eq] at body
      let old := t.conf.rules.get i
      let new := old.merged r mask
      let u : State := { t with
        conf := { t.conf with rules := t.conf.rules.set i.val new i.isLt }
        counters := t.counters.set i.val
          (if mask.testBit 7 = true ∨ mask.testBit 8 = true then new.loaded else t.counters.get i) i.isLt }
      have rule : u.conf.rules.get i = new := vector_get_set_same _ _ _
      have counter : u.counters.get i
          = if mask.testBit 7 = true ∨ mask.testBit 8 = true then new.loaded else t.counters.get i :=
        vector_get_set_same _ _ _
      have field {α : Type} (f : Rule → α) (n : Nat) :
          (if mask.testBit n then f r else f old) = f (if mask.testBit n then r else old) := (apply_ite f _ _ _).symm
      refine ⟨u, old, new, rfl, rule.symm, ?_, by rw [counter], field (·.requesters) 0, field (·.kinds) 1,
        field (·.credential) 2, field (·.timeMode) 3, field (·.timeMin) 3, field (·.timeMax) 3, field (·.verdict) 4,
        field (·.priorityMode) 5, field (·.priority) 5, field (·.mapMode) 6, field (·.map) 6, field (·.counterMode) 7,
        field (·.unit) 7, field (·.limit) 7, field (·.escalate) 7, field (·.enabled) 8, counter⟩
      rw [ran, body, ← rule]
      rfl
  · have body := t.bodyWriteMatrix_carried v c x rs form short priority
    refine ⟨{ t with conf := t.conf.matrixWritten v c mask x rs }, ?_, ?_,
      fun w d => t.conf.cell_matrixWritten v w c d mask x rs, fun d => t.conf.ruleSet_matrixWritten v c d mask x rs⟩
    · refine (congrArg Host.Outcome.next
        (State.request_managed takes manages _ (by subst form; rfl) (by decide) rfl)).trans ?_
      rw [body]
      rfl
    · exact congrArg (fun conf => { t with conf := conf }) (t.conf.matrixWritten_frame v c mask x rs)

end Sys2Proof.Machine
end

section
/-! PROOFS. WRITE_ENTRY and WRITE_EXCEPTION (O21): the payload's fields, and the exception list in date order. -/

set_option Elab.async false

namespace Sys2Proof.Machine

variable {s t u : State} {l : Link} {tag : Byte} {p : List Byte} {mask : Nat}

/-! ## The schedule entry record as WRITE_ENTRY carries it (R19, R182) -/

/-- The payload of WRITE_ENTRY carries an entry's fields, each in its range. -/
structure Entry.carried (e : Entry) (mask : Nat) (p : List Byte) : Prop where
  mask : arg p 1 = mask
  flags : arg p 2 < 2 ∧ (arg p 2).testBit 0 = e.enabled
  days : arg p 3 = e.days.toNat
  minute : arg16 p 4 = e.minute ∧ e.minute < 1440
  action : Action.ofCode (arg p 6) = some e.action
  arguments : arg p 7 = e.arg1 ∧ arg p 8 = e.arg2 ∧ e.action.argsOk e.arg1 e.arg2 = true
  priority : arg p 9 = e.priority ∧ e.priority ≤ 7

/-- The second argument of an action is at most 1 (R181). -/
theorem Action.arg2_le {a : Action} {arg1 arg2 : Nat} (h : a.argsOk arg1 arg2 = true) : arg2 ≤ 1 := by
  unfold Action.argsOk at h
  cases a <;> simp at h <;> omega

/-- One flag in a byte. -/
theorem flagsByte_one (a : Bool) : (flagsByte [a]).toNat < 2 ∧ (flagsByte [a]).toNat.testBit 0 = a := by
  revert a
  decide

/-- The entry record behind a field mask carries the entry. -/
theorem Entry.record_carried {e : Entry} (n : Fin 48) (form : p = byte n.val :: byte mask :: e.record)
    (short : mask < 32) (minute : e.minute < 1440) (priority : e.priority ≤ 7)
    (arguments : e.action.argsOk e.arg1 e.arg2 = true) (first : e.arg1 < 256) : e.carried mask p := by
  have days := e.days.isLt
  have second := Action.arg2_le arguments
  subst form
  exact
    { mask := arg_eq rfl (by omega)
      flags := flagsByte_one e.enabled
      days := arg_eq rfl (by omega)
      minute := ⟨arg16_eq rfl rfl (by omega), minute⟩
      action := by
        rw [arg_eq (k := e.action.code) rfl (by cases e.action <;> decide)]
        cases e.action <;> rfl
      arguments := ⟨arg_eq rfl first, arg_eq rfl (by omega), arguments⟩
      priority := ⟨arg_eq rfl (by omega), priority⟩ }

theorem Entry.writeWhen_carried {e : Entry} (h : e.carried mask p) (old : Entry) :
    old.writeWhen p = some { old with
      enabled := if mask.testBit 0 then e.enabled else old.enabled
      days := if mask.testBit 1 then e.days else old.days
      minute := if mask.testBit 2 then e.minute else old.minute } := by
  have days := e.days.isLt
  have fits : ((mask.testBit 1 && decide (128 ≤ arg p 3))
      || (mask.testBit 2 && decide (1440 ≤ arg16 p 4))) = false := by
    have minute := h.minute.2
    rw [h.days, h.minute.1, decide_eq_false (by omega), decide_eq_false (by omega)]
    simp
  unfold Entry.writeWhen
  rw [h.mask]
  dsimp only
  rw [if_neg (by simp [fits]), h.flags.2, h.days, h.minute.1, BitVec.ofNat_toNat, BitVec.setWidth_eq]

theorem Entry.writeAction_carried {e : Entry} (h : e.carried mask p) (old : Entry) :
    old.writeAction p = some { old with
      action := if mask.testBit 3 then e.action else old.action
      arg1 := if mask.testBit 3 then e.arg1 else old.arg1
      arg2 := if mask.testBit 3 then e.arg2 else old.arg2 } := by
  obtain ⟨first, second, fits⟩ := h.arguments
  unfold Entry.writeAction
  rw [h.mask, h.action, first, second]
  split
  · exact if_pos fits
  · rfl

theorem Entry.writePriority_carried {e : Entry} (h : e.carried mask p) (old : Entry) :
    old.writePriority p = some { old with priority := if mask.testBit 4 then e.priority else old.priority } := by
  unfold Entry.writePriority
  rw [h.mask, h.priority.1, if_pos h.priority.2]
  split
  · rfl
  · rfl

/-- An entry with the groups that a field mask selects taken from another. -/
def Entry.merged (old e : Entry) (mask : Nat) : Entry :=
  { enabled := if mask.testBit 0 then e.enabled else old.enabled
    days := if mask.testBit 1 then e.days else old.days
    minute := if mask.testBit 2 then e.minute else old.minute
    action := if mask.testBit 3 then e.action else old.action
    arg1 := if mask.testBit 3 then e.arg1 else old.arg1
    arg2 := if mask.testBit 3 then e.arg2 else old.arg2
    priority := if mask.testBit 4 then e.priority else old.priority }

theorem Entry.merged_eq (old e : Entry) (mask : Nat) :
    old.merged e mask =
      { enabled := (if mask.testBit 0 then e else old).enabled
        days := (if mask.testBit 1 then e else old).days
        minute := (if mask.testBit 2 then e else old).minute
        action := (if mask.testBit 3 then e else old).action
        arg1 := (if mask.testBit 3 then e else old).arg1
        arg2 := (if mask.testBit 3 then e else old).arg2
        priority := (if mask.testBit 4 then e else old).priority } := by
  simp only [Entry.merged, apply_ite Entry.enabled, apply_ite Entry.days, apply_ite Entry.minute,
    apply_ite Entry.action, apply_ite Entry.arg1, apply_ite Entry.arg2, apply_ite Entry.priority]

/-- The checks of WRITE_ENTRY let a record in range through, and write what its mask selects (R182). -/
theorem Entry.written_carried {e : Entry} (h : e.carried mask p) (short : mask < 32) (old : Entry) :
    old.written p = some (old.merged e mask) := by
  unfold Entry.written
  rw [h.mask, if_neg (not_or.mpr ⟨by omega, by have := h.flags.1; omega⟩), Entry.writeWhen_carried h,
    Option.bind_some, Entry.writeAction_carried h, Option.bind_some, Entry.writePriority_carried h]
  rfl

/-- WRITE_ENTRY as a command, its record in range (R182). -/
theorem State.bodyWriteEntry_carried {e : Entry} (t : State) (n : Fin 48) (h : e.carried mask p) (short : mask < 32)
    (index : arg p 0 = n.val) :
    t.bodyWriteEntry p
      = if t.conf.lock.on = true ∧ n.val < t.conf.lock.schedule then t.refuse .locked
        else (⟨.ok, ((t.conf.week.get n).merged e mask).record⟩, { t with conf := { t.conf with
          week := t.conf.week.set n.val ((t.conf.week.get n).merged e mask) n.isLt } }) := by
  have named : entryIndex (arg p 0) = some n := by
    rw [index]
    exact dif_pos n.isLt
  unfold State.bodyWriteEntry
  rw [named]
  dsimp only
  rw [Entry.written_carried h short]

/-! ## The exception list (R183) -/

/-- A date is before another by its year, then its month, then its day. -/
theorem Date.before_iff (d e : Date) : d.before e = true ↔
    d.year < e.year ∨ (d.year = e.year ∧ (d.month < e.month ∨ (d.month = e.month ∧ d.day < e.day))) := by
  simp [Date.before]

theorem Date.not_before_of_before {d e : Date} (h : d.before e = true) : ¬e.before d = true := by
  rw [Date.before_iff] at h ⊢
  omega

/-- A record of a date that no record holds goes in beside the others. -/
theorem insertException_new {r : ExceptionRecord} {es : List ExceptionRecord} (free : ∀ f ∈ es, f.date ≠ r.date) :
    (insertException r es).Perm (r :: es) := by
  induction es with
  | nil => exact .refl _
  | cons e es ih =>
    unfold insertException
    rw [if_neg (free e List.mem_cons_self)]
    split
    · exact .refl _
    · exact ((ih fun f mem => free f (List.mem_cons_of_mem e mem)).cons e).trans (List.Perm.swap r e es)

/-- A record of a date that a record holds takes its place, in a list in date order. -/
theorem insertException_held {r : ExceptionRecord} {es : List ExceptionRecord}
    (order : es.Pairwise fun f g => f.date.before g.date = true) (held : ∃ f ∈ es, f.date = r.date) :
    (insertException r es).length = es.length ∧ r ∈ insertException r es
      ∧ ∀ f, f.date ≠ r.date → (f ∈ insertException r es ↔ f ∈ es) := by
  induction es with
  | nil =>
    obtain ⟨f, mem, -⟩ := held
    cases mem
  | cons e es ih =>
    obtain ⟨first, rest⟩ := List.pairwise_cons.mp order
    obtain ⟨f, mem, date⟩ := held
    unfold insertException
    split
    · rename_i same
      refine ⟨rfl, List.mem_cons_self, fun g other => ?_⟩
      have not_new : g ≠ r := fun eq => other (congrArg _ eq)
      have not_old : g ≠ e := fun eq => other ((congrArg _ eq).trans same)
      simp [not_new, not_old]
    · rename_i other
      have later : f ∈ es := (List.mem_cons.mp mem).resolve_left fun eq => other (eq ▸ date)
      rw [if_neg (Date.not_before_of_before (date ▸ first f later))]
      obtain ⟨length, new, others⟩ := ih rest ⟨f, later, date⟩
      refine ⟨congrArg Nat.succ length, List.mem_cons_of_mem e new, fun g apart => ?_⟩
      rw [List.mem_cons, List.mem_cons, others g apart]

theorem monthLength_le (y m : Nat) : monthLength y m ≤ 31 := by
  unfold monthLength
  repeat' split
  all_goals omega

/-- A valid date fits its bytes (R178). -/
theorem Date.valid_fits {d : Date} (h : d.valid = true) : d.year < 65536 ∧ d.month < 256 ∧ d.day < 256 := by
  have longest := monthLength_le d.year d.month
  simp only [Date.valid, Bool.and_eq_true, decide_eq_true_eq] at h
  omega

theorem State.datePassed_iff (t : State) (d : Date) :
    t.datePassed d = true ↔ ∃ c, t.clock = some c ∧ d.before c.now.date = true := by
  unfold State.datePassed
  cases t.clock with
  | none => simp
  | some c => simp

/-- WRITE_EXCEPTION with a valid date, as the branches of R183. -/
theorem State.bodyWriteException_carried (t : State) (remove : Bool) (e : ExceptionRecord)
    (form : p = flagByte remove :: e.bytes) (valid : e.date.valid = true) :
    t.bodyWriteException p
      = if remove = true then t.exceptionsReplaced (t.conf.exceptions.filter fun f => f.date != e.date)
        else if ∃ c, t.clock = some c ∧ e.date.before c.now.date = true then t.refuse .badValue
        else if (¬∃ f ∈ t.conf.exceptions, f.date = e.date) ∧ 16 ≤ t.conf.exceptions.length then t.refuse .full
        else t.exceptionsReplaced (insertException e t.conf.exceptions) := by
  obtain ⟨year, month, day⟩ := Date.valid_fits valid
  have flag : onOff (arg p 0) = some remove := by
    subst form
    cases remove <;> rfl
  have date : exceptionDate p = e.date := by
    unfold exceptionDate
    subst form
    rw [arg16_eq (k := e.date.year) rfl rfl year, arg_eq (k := e.date.month) rfl month,
      arg_eq (k := e.date.day) rfl day]
  have actions : argByte p 5 = e.actions := by
    subst form
    show byte e.actions.toNat = e.actions
    simp [byte]
  have held : (!(t.conf.exceptions.any fun f => f.date == e.date)
      && decide (Config.exceptionPlaces ≤ t.conf.exceptions.length)) = true
      ↔ (¬∃ f ∈ t.conf.exceptions, f.date = e.date) ∧ 16 ≤ t.conf.exceptions.length := by
    rw [Bool.and_eq_true, decide_eq_true_eq]
    exact and_congr_left' (by simp)
  unfold State.bodyWriteException
  dsimp only
  rw [flag, date, actions]
  dsimp only
  rw [valid, Bool.not_true, if_neg Bool.false_ne_true, if_congr (t.datePassed_iff e.date) rfl rfl,
    if_congr held rfl rfl]

/-- Settles O21: the fields that the payloads carry, and what `insertException` makes of a list in date order. -/
theorem scheduleWritesPutTheirRecordsInPlace : Obligations.ScheduleWritesPutTheirRecordsInPlace := by
  intro s l tag t manages
  refine ⟨fun n mask e p form short minute priority arguments first takes => ?_,
    fun remove e p form valid places order takes => ?_⟩
  · have carried := Entry.record_carried n form short minute priority arguments first
    have index : arg p 0 = n.val := by
      subst form
      exact arg_eq rfl (by omega)
    have body := t.bodyWriteEntry_carried n carried short index
    have ran : exec (.writeEntry l tag p) s = .next ((t.bodyWriteEntry p).2.reply l
        ⟨0xAE, tag, (t.bodyWriteEntry p).1.result, (t.bodyWriteEntry p).1.payload⟩) :=
      congrArg Host.Outcome.next (State.request_managed takes manages _ (by subst form; rfl) (by decide) rfl)
    rw [body] at ran
    split
    · rename_i locked
      rw [ran, if_pos locked]
      rfl
    · rename_i free
      rw [if_neg free] at ran
      exact ⟨t.conf.week.get n, (t.conf.week.get n).merged e mask, rfl, Entry.merged_eq _ _ _, ran⟩
  · have body := t.bodyWriteException_carried remove e form valid
    have ran : exec (.writeException l tag p) s = .next ((t.bodyWriteException p).2.reply l
        ⟨0xB0, tag, (t.bodyWriteException p).1.result, (t.bodyWriteException p).1.payload⟩) :=
      congrArg Host.Outcome.next (State.request_managed takes manages _ (by subst form; rfl) (by decide) rfl)
    refine ⟨_, _, ran, ?_⟩
    rw [body]
    by_cases removes : remove = true
    · rw [if_pos removes, if_pos removes]
      exact ⟨rfl, List.filter_congr fun f _ => by rw [Bool.eq_iff_iff]; simp, rfl⟩
    rw [if_neg removes, if_neg removes]
    by_cases passed : ∃ c, t.clock = some c ∧ e.date.before c.now.date = true
    · rw [if_pos passed, if_pos passed]
      exact ⟨rfl, rfl, rfl⟩
    rw [if_neg passed, if_neg passed]
    by_cases held : ∃ f ∈ t.conf.exceptions, f.date = e.date
    · rw [if_pos held, if_neg (not_and_of_not_left _ (not_not_intro held))]
      obtain ⟨length, new, others⟩ := insertException_held order held
      exact ⟨rfl, length, new, others, rfl⟩
    rw [if_neg held]
    by_cases full : t.conf.exceptions.length = 16
    · rw [if_pos full, if_pos ⟨held, full.ge⟩]
      exact ⟨rfl, rfl, rfl⟩
    · rw [if_neg full, if_neg fun ⟨_, most⟩ => full (Nat.le_antisymm places most)]
      have added := insertException_new (r := e) fun f mem date => held ⟨f, mem, date⟩
      exact ⟨rfl, added.length_eq, fun f => added.mem_iff.trans List.mem_cons, rfl⟩

end Sys2Proof.Machine
end

section
/-! PROOFS. The clock (O52): SET_CLOCK with the purge and the reconstruction, the minute that starts, and the week table
fired in it. -/

set_option Elab.async false

namespace Sys2Proof.Machine

variable {s t u : State} {l : Link} {tag : Byte} {p : List Byte} {d : DateTime}

/-! ## SET_CLOCK (R179, R185, R189) -/

/-- A date-time as its seven bytes carry it. -/
theorem dateTimeAt_eq
    (form : p = be16 d.date.year ++ [byte d.date.month, byte d.date.day, byte d.hour, byte d.minute, byte d.second])
    (year : d.date.year < 65536) (month : d.date.month < 256) (day : d.date.day < 256) (hour : d.hour < 256)
    (minute : d.minute < 256) (second : d.second < 256) : dateTimeAt p = d := by
  subst form
  unfold dateTimeAt
  rw [arg16_eq (k := d.date.year) rfl rfl year, arg_eq (k := d.date.month) rfl month, arg_eq (k := d.date.day) rfl day,
    arg_eq (k := d.hour) rfl hour, arg_eq (k := d.minute) rfl minute, arg_eq (k := d.second) rfl second]

/-- A valid date-time fits its bytes (R178). -/
theorem DateTime.valid_fits (h : d.valid = true) :
    (d.date.year < 65536 ∧ d.date.month < 256 ∧ d.date.day < 256) ∧ d.hour < 256 ∧ d.minute < 256
      ∧ d.second < 256 := by
  simp only [DateTime.valid, Bool.and_eq_true, decide_eq_true_eq] at h
  obtain ⟨⟨⟨date, hour⟩, minute⟩, second⟩ := h
  exact ⟨Date.valid_fits date, by omega, by omega, by omega⟩

/-- The clock set, the passed exceptions purged, and the level not yet reconstructed (R179, R185). -/
def State.clockSet (t : State) (d : DateTime) : State :=
  { t with
    clock := some ⟨d, 0⟩, skip := true
    conf := { t.conf with exceptions := t.conf.exceptions.filter fun e => !e.date.before d.date } }

theorem State.bodySetClock_valid (t : State) (carries : dateTimeAt p = d) (valid : d.valid = true) :
    t.bodySetClock p = (⟨.ok, d.bytes⟩, (t.clockSet d).reconstruct) := by
  unfold State.bodySetClock
  dsimp only
  rw [carries, if_pos valid]
  rfl

theorem State.bodySetClock_invalid (t : State) (carries : dateTimeAt p = d) (invalid : d.valid = false) :
    t.bodySetClock p = t.refuse .badValue := by
  unfold State.bodySetClock
  dsimp only
  rw [carries, if_neg (by simp [invalid])]

theorem State.reconstruct_of_off (off : s.item 39 = 0) : s.reconstruct = s := if_pos off

/-- With the reconstruction on, the level becomes the one that the week table gives (R189). -/
theorem State.reconstruct_of_on {c : Clock} (on : s.item 39 ≠ 0) (clock : s.clock = some c) :
    s.reconstruct = match s.conf.levelAt c.now with
      | some v => s.setLevel v .scheduleRestore 0xFF
      | none => s := by
  unfold State.reconstruct
  rw [if_neg on, clock]
  rfl

theorem State.setLevel_frame (s : State) (v : Level) (k : LockoutCause) (b : Byte) :
    s.setLevel v k b = { s with
      control := (s.setLevel v k b).control, lectern := (s.setLevel v k b).lectern
      level := (s.setLevel v k b).level } := by
  unfold State.setLevel
  split
  · rfl
  · rfl

/-- The reconstruction changes the level and the links alone. -/
theorem State.reconstruct_frame (s : State) :
    s.reconstruct = { s with
      control := s.reconstruct.control, lectern := s.reconstruct.lectern, level := s.reconstruct.level } := by
  unfold State.reconstruct
  split
  · rfl
  · split
    · exact s.setLevel_frame _ _ _
    · rfl

/-! ## The minute that starts (R178, R186 to R188) -/

theorem DateTime.lastMinute_iff (d : DateTime) :
    d.lastMinute = true ↔ d.date = ⟨2099, 12, 31⟩ ∧ d.hour = 23 ∧ d.minute = 59 := by
  simp [DateTime.lastMinute, and_assoc]

theorem DateTime.midnight_iff (start : d.second = 0) : d.midnight = true ↔ d.hour = 0 ∧ d.minute = 0 := by
  simp [DateTime.midnight, start]

/-- A minute starts at its second 0. -/
theorem DateTime.nextMinute_second (d : DateTime) : d.nextMinute.second = 0 := by
  unfold DateTime.nextMinute
  repeat' split
  all_goals rfl

/-- Today's suppressed set (R186). -/
theorem suppressedOn_eq (es : List ExceptionRecord) (day : Date) :
    suppressedOn es day = ((es.find? fun e => decide (e.date = day)).map (·.actions)).getD 0 := by
  unfold suppressedOn
  have same : (fun e : ExceptionRecord => e.date == day) = fun e => decide (e.date = day) := by
    funext e
    rw [Bool.eq_iff_iff]
    simp
  rw [same]
  cases es.find? _ with
  | none => rfl
  | some e => rfl

/-- The blocks as a minute starts, before its entries fire (R178, R185). -/
def State.minuteBegun (s : State) (d : DateTime) : State :=
  { s with
    clock := some ⟨d, 0⟩, skip := false
    conf := { s.conf with exceptions :=
      if d.hour = 0 ∧ d.minute = 0 then s.conf.exceptions.filter fun e => !e.date.before d.date
      else s.conf.exceptions } }

theorem State.startMinute_eq (s : State) (start : d.second = 0) :
    s.startMinute d = (s.minuteBegun d).fireWeek d := by
  unfold State.startMinute State.minuteBegun
  dsimp only
  by_cases midnight : d.hour = 0 ∧ d.minute = 0
  · rw [if_pos ((DateTime.midnight_iff start).mpr midnight), if_pos midnight]
    rfl
  · rw [if_neg (mt (DateTime.midnight_iff start).mp midnight), if_neg midnight]

/-- The week table fires the entries that are due, in ascending index (R186). -/
theorem State.fireWeek_eq (s : State) (d : DateTime) :
    s.fireWeek d = ((List.finRange 48).filter fun n => (s.conf.week.get n).due d).foldl (fun u n =>
      if (suppressedOn s.conf.exceptions d.date).getLsbD (s.conf.week.get n).action.code then
        u.reportFired n.val (s.conf.week.get n) .suppressed none 0xFF d.minuteOfWeek
      else u.fire n.val (s.conf.week.get n) d.minuteOfWeek) s := by
  rw [List.foldl_filter]
  rfl

theorem Entry.due_eq (e : Entry) (d : DateTime) :
    e.due d = (e.enabled && e.days.getLsbD d.date.weekday && decide (e.minute = d.hour * 60 + d.minute)) := by
  unfold Entry.due DateTime.minuteOfDay
  rw [beq_eq_decide]

/-- SET_CLOCK as a command passes the checks (R6). -/
theorem State.setClock_ran (takes : s.linkTakes l ⟨0x32, tag, p⟩ t) (manages : t.mayManage l) (length : p.length = 7) :
    exec (.setClock l tag p) s = .next ((t.bodySetClock p).2.reply l
      ⟨0xB2, tag, (t.bodySetClock p).1.result, (t.bodySetClock p).1.payload⟩) :=
  congrArg Host.Outcome.next (State.request_managed takes manages _ (by rw [length]; rfl) (by decide) rfl)

/-- What the reconstruction makes of a clock just set, as the week table has it (R189). -/
theorem State.clockSet_reconstruct (t : State) (d : DateTime) (on : t.item 39 ≠ 0) :
    ((∀ n back, ¬(t.clockSet d).conf.timetabled d n back) → (t.clockSet d).reconstruct = t.clockSet d)
      ∧ ∀ v, (t.clockSet d).conf.restores d v →
        (t.clockSet d).reconstruct = if v = t.level then t.clockSet d
          else ({ t.clockSet d with level := v } : State).offer (.lockout ⟨.scheduleRestore, v, t.level, 0xFF⟩) := by
  have level := State.reconstruct_of_on (s := t.clockSet d) (c := ⟨d, 0⟩) on rfl
  refine ⟨fun none_stands => ?_, fun v restores => ?_⟩
  · rw [level, Stored.levelAt_of_none _ _ none_stands]
  · rw [level, Stored.levelAt_of_restores _ _ _ restores]
    rfl

/-- Settles O52: SET_CLOCK is the purge and the reconstruction, and MINUTE_START the fold of `State.fireWeek_eq` over the
entries that are due. -/
theorem theClockFiresTheWeekTable : Obligations.TheClockFiresTheWeekTable := by
  refine ⟨fun s l tag d p t manages form takes =>
      ⟨fun valid => ?_, fun invalid year month day hour minute second => ?_⟩,
    fun s unset => ⟨?_, ?_⟩, fun s c next begun due struck clock is_next is_begun is_due is_struck => ⟨?_, ?_⟩⟩
  · obtain ⟨⟨year, month, day⟩, hour, minute, second⟩ := DateTime.valid_fits valid
    have ran := State.setClock_ran takes manages (by subst form; rfl)
    rw [t.bodySetClock_valid (dateTimeAt_eq form year month day hour minute second) valid,
      show d.bytes = p from form.symm] at ran
    have frame := (t.clockSet d).reconstruct_frame
    have conf : (t.clockSet d).reconstruct.conf = (t.clockSet d).conf := by rw [frame]
    refine ⟨(t.clockSet d).reconstruct, ran, frame, fun off => ?_, fun on => ?_⟩
    · rw [State.reconstruct_of_off (s := t.clockSet d) off]
      rfl
    · dsimp only
      rw [conf]
      exact t.clockSet_reconstruct d on
  · have ran := State.setClock_ran takes manages (by subst form; rfl)
    rw [t.bodySetClock_invalid (dateTimeAt_eq form year month day hour minute second) invalid] at ran
    exact ran
  · simp only [exec, execMinuteStart, unset]
  · simp only [exec, execClockEnd, unset]
  · simp only [exec, execClockEnd, clock, DateTime.lastMinute_iff]
  · have standing : begun = s.minuteBegun next := is_begun
    have fired : s.startMinute next = due.foldl (fun u n =>
        if struck.getLsbD (s.conf.week.get n).action.code then
          u.reportFired n.val (s.conf.week.get n) .suppressed none 0xFF next.minuteOfWeek
        else u.fire n.val (s.conf.week.get n) next.minuteOfWeek) begun := by
      rw [State.startMinute_eq s (is_next ▸ DateTime.nextMinute_second _), State.fireWeek_eq, suppressedOn_eq, is_due,
        is_struck, standing]
      simp only [Entry.due_eq]
      rfl
    simp only [exec, execMinuteStart, clock, DateTime.lastMinute_iff, ← is_next, fired]
    rfl

end Sys2Proof.Machine
end

section
/-! PROOFS. The lines that the part drives: the demand lines, the fan, the select lines and the blank line follow the
states behind them through every operation of the lamps, the switch unit and the power unit (R67, R69, R129, R170; O56). -/

set_option Elab.async false

namespace Sys2Proof.Machine

variable {s t : State} {x : LampId}

/-! ## The invariant, field by field -/

/-- A lamp's demand line follows its state, and its wake timer runs in LIT alone (R67, R170). -/
def Lamp.driven (v : LampLevel) (m : Lamp) : Prop :=
  m.demand = demandOf m.state v ∧ (m.state ≠ .lit → m.wakeTimer = none)

/-- `linesDriven` lamp by lamp, so that an update of any other field is seen to keep it. -/
def State.driven (s : State) : Prop :=
  s.lampA.driven s.conf.lampLevel ∧ s.lampB.driven s.conf.lampLevel
    ∧ (s.fan = true ↔ s.lampA.state = .cooldown ∨ s.lampB.state = .cooldown ∨ s.recovery = true)
    ∧ s.sw = s.sw.drive

theorem State.driven_iff (s : State) : s.driven ↔ s.linesDriven := by
  constructor
  · rintro ⟨⟨demandA, wakeA⟩, ⟨demandB, wakeB⟩, fan, sw⟩
    exact ⟨fun x => by cases x <;> assumption, fan, sw, fun x => by cases x <;> assumption⟩
  · rintro ⟨demand, fan, sw, wake⟩
    exact ⟨⟨demand .a, wake .a⟩, ⟨demand .b, wake .b⟩, fan, sw⟩

/-- An update of none of the fields that the invariant reads. -/
theorem State.driven.of_same (h : s.driven) (lampA : t.lampA = s.lampA := by rfl) (lampB : t.lampB = s.lampB := by rfl)
    (level : t.conf.lampLevel = s.conf.lampLevel := by rfl) (fan : t.fan = s.fan := by rfl)
    (recovery : t.recovery = s.recovery := by rfl) (sw : t.sw = s.sw := by rfl) : t.driven := by
  unfold State.driven
  rw [lampA, lampB, level, fan, recovery, sw]
  exact h

theorem State.foldl_driven {α : Type} (f : State → α → State) (kept : ∀ (s : State) (a : α), s.driven → (f s a).driven)
    (as : List α) (h : s.driven) : (as.foldl f s).driven := by
  induction as generalizing s with
  | nil => exact h
  | cons a as ih => exact ih (kept s a h)

/-! ## The links, the power unit and the policy unit drive no line -/

theorem State.driven.offer (h : s.driven) (r : Report) : (s.offer r).driven := h.of_same

theorem State.driven.setLink (h : s.driven) (l : Link) (k : LinkState) : (s.setLink l k).driven :=
  h.of_same (by simp) (by simp) (by simp) (by simp) (by simp) (by simp)

theorem State.driven.reply (h : s.driven) (l : Link) (r : Reply) : (s.reply l r).driven := h.setLink l _

theorem State.driven.setPower (h : s.driven) (p : PowerUnit) : (s.setPower p).driven := h.of_same

theorem State.driven.reportPower (h : s.driven) (p : PowerState) (c : PowerCause) (o : PowerOutcome) :
    (s.reportPower p c o).driven := h.offer _

theorem State.driven.retestIdle (h : s.driven) : s.retestIdle.driven := h.setPower _

theorem State.policyOnly.driven (frame : s.policyOnly t) (h : s.driven) : t.driven := by
  rw [frame]
  exact h

theorem State.driven.closeWindow (h : s.driven) (e : ConfirmEvent) : (s.closeWindow e).driven := by
  unfold State.closeWindow
  split
  · exact h
  · exact h.of_same

theorem State.driven.endHold (h : s.driven) (c : CredCause) : (s.endHold c).driven := by
  unfold State.endHold
  split
  · exact h
  · exact h.of_same

/-! ## A lamp channel -/

theorem State.lampsOnly.conf (h : s.lampsOnly t) : t.conf = s.conf := by rw [h]
theorem State.lampsOnly.sw (h : s.lampsOnly t) : t.sw = s.sw := by rw [h]
theorem State.lampsOnly.recovery (h : s.lampsOnly t) : t.recovery = s.recovery := by rw [h]

/-- A lamp takes another record in the state in which it is, its lines as they were. -/
theorem State.driven.setLamp (h : s.driven) (x : LampId) (m : Lamp) (state : m.state = (s.lamp x).state := by rfl)
    (lines : (s.lamp x).driven s.conf.lampLevel → m.driven s.conf.lampLevel := by exact id) :
    (s.setLamp x m).driven := by
  obtain ⟨a, b, fan, sw⟩ := h
  cases x with
  | a => exact ⟨lines a, b, by rw [← show m.state = s.lampA.state from state] at fan; exact fan, sw⟩
  | b => exact ⟨a, lines b, by rw [← show m.state = s.lampB.state from state] at fan; exact fan, sw⟩

/-- A lamp channel that changes takes its lines and the fan with it, whatever it changes to. -/
theorem State.driven.putLamp (h : s.driven) (x : LampId) (m : Lamp) : (s.putLamp x m).driven := by
  obtain ⟨a, b, fan, sw⟩ := h
  have lines : Lamp.driven s.conf.lampLevel
      { m with demand := demandOf m.state s.conf.lampLevel
               wakeTimer := if m.state = .lit then m.wakeTimer else none } := ⟨rfl, fun dark => if_neg dark⟩
  cases x with
  | a => exact ⟨lines, b, by simp [State.putLamp, State.setLamp, State.driveFan, or_assoc], sw⟩
  | b => exact ⟨a, lines, by simp [State.putLamp, State.setLamp, State.driveFan, or_assoc], sw⟩

theorem State.driven.checkpoint (h : s.driven) : s.checkpoint.driven := by
  unfold State.checkpoint
  split
  · exact h.of_same
  · exact h.of_same

theorem State.driven.checkpointFor (h : s.driven) (x : LampId) : (s.checkpointFor x).driven :=
  (h.setLamp x { s.lamp x with litSeconds := 0 }).checkpoint

theorem State.driven.moveLamp (h : s.driven) (x : LampId) (f : Lamp → Lamp) (b : Bool) (c : LampCause) :
    (s.moveLamp x f b c).driven := by
  have moved := h.putLamp x (f (s.lamp x))
  unfold State.moveLamp
  split
  · exact (moved.checkpointFor x).offer _
  · exact moved.offer _

theorem State.driven.condition (h : s.driven) (x : LampId) (k : IncidentKind) : (s.condition x k).driven := by
  unfold State.condition
  exact (h.setLamp x _).offer _

theorem State.driven.conditionIf (h : s.driven) (b : Bool) (x : LampId) (k : IncidentKind) :
    (s.conditionIf b x k).driven := by
  unfold State.conditionIf
  split
  · exact h.condition x k
  · exact h

theorem State.driven.testThresholds (h : s.driven) (x : LampId) : (s.testThresholds x).driven := by
  unfold State.testThresholds
  exact (((h.setLamp x _).conditionIf _ x _).conditionIf _ x _).conditionIf _ x _

theorem State.driven.addWear (h : s.driven) (x : LampId) (n : Nat) : (s.addWear x n).driven :=
  (h.setLamp x _).testThresholds x

/-! ## The operations of the lamp channels -/

theorem State.driven.extinguish (h : s.driven) (x : LampId) (b : Bool) (c : LampCause) : (s.extinguish x b c).driven :=
  h.moveLamp x _ _ _

theorem State.driven.strikeFailed (h : s.driven) (x : LampId) (b : Bool) : (s.strikeFailed x b).1.driven := by
  have told (k : IncidentKind) := h.condition x k
  unfold State.strikeFailed
  dsimp only
  split
  · exact (told _).moveLamp x _ _ _
  · split
    · cases b with
      | true => exact ((told _).condition x _).moveLamp x _ _ _
      | false => exact (told _).moveLamp x _ _ _
    · split
      · exact (told _).moveLamp x _ _ _
      · exact (told _).moveLamp x _ _ _

theorem State.driven.faultInIgnite (h : s.driven) (x : LampId) : (s.faultInIgnite x).1.driven := by
  unfold State.faultInIgnite
  split
  · exact h.strikeFailed x true
  · exact (h.condition x _).moveLamp x _ _ _

theorem State.driven.takeFault (h : s.driven) (x : LampId) : (s.takeFault x).1.driven := by
  unfold State.takeFault
  split
  case h_1 => exact h.faultInIgnite x
  case h_2 => exact (h.condition x _).moveLamp x _ _ _
  case h_3 | h_4 | h_5 => exact (h.condition x _).extinguish x _ _
  all_goals exact h

theorem State.driven.ignite (h : s.driven) (x : LampId) : (s.ignite x).1.driven := by
  have struck : ({ s.putLamp x (s.lamp x).ignited with lastStruck := some x } : State).driven :=
    (h.putLamp x _).of_same
  have entered := ((struck.addWear x Config.strikeCharge).checkpointFor x).offer
  unfold State.ignite
  dsimp only
  split
  · exact State.driven.faultInIgnite (entered _) x
  · exact entered _

theorem State.driven.unavailable (h : s.driven) (x : LampId) : (s.unavailable x).1.driven := by
  unfold State.unavailable
  split
  · exact h.moveLamp x _ _ _
  · exact h.moveLamp x _ _ _

theorem State.driven.strike (h : s.driven) (x : LampId) : (s.strike x).1.driven := by
  unfold State.strike
  split
  · exact h.ignite x
  · exact h.unavailable x

theorem State.driven.reachDark (h : s.driven) (x : LampId) : (s.reachDark x).1.driven := by
  unfold State.reachDark
  dsimp only
  split
  · exact (h.moveLamp x _ _ _).strike x
  · exact h.moveLamp x _ _ _

theorem State.driven.cooled (h : s.driven) (x : LampId) : (s.cooled x).1.driven := by
  unfold State.cooled
  dsimp only
  split
  · exact h.moveLamp x _ _ _
  · split
    · exact (h.moveLamp x _ _ _).reachDark x
    · exact h.moveLamp x _ _ _

theorem State.driven.callLamp (h : s.driven) (x : LampId) : (s.callLamp x).1.driven := by
  unfold State.callLamp
  dsimp only
  split
  · exact h
  · split
    case h_1 | h_2 =>
      split
      · exact h.moveLamp x _ _ _
      · exact h
    case h_4 | h_5 =>
      split
      · exact h
      · exact h.moveLamp x _ _ _
    case h_3 => exact (h.setLamp x _).strike x
    all_goals exact h

theorem State.driven.releaseLamp (h : s.driven) (x : LampId) : (s.releaseLamp x).driven := by
  unfold State.releaseLamp
  split
  · exact h
  · split
    case h_3 | h_4 => exact h.extinguish x _ _
    case h_1 | h_2 | h_5 | h_6 | h_7 => exact h.moveLamp x _ _ _
    all_goals exact h

theorem State.driven.thermalLamp (h : s.driven) (x : LampId) : (s.thermalLamp x).driven := by
  unfold State.thermalLamp
  split
  case h_1 | h_2 | h_3 | h_4 => exact h.extinguish x _ _
  case h_5 => exact h.moveLamp x _ _ _
  case h_6 | h_7 =>
    split
    · exact h.moveLamp x _ _ _
    · exact h
  all_goals exact h

theorem State.driven.serviceLamp (h : s.driven) (x : LampId) : (s.serviceLamp x).driven := h.moveLamp x _ _ _

theorem State.driven.dimLamp (h : s.driven) (x : LampId) : (s.dimLamp x).driven := by
  unfold State.dimLamp
  split
  · exact h.moveLamp x _ _ _
  · exact h

theorem State.driven.undimLamp (h : s.driven) (x : LampId) : (s.undimLamp x).driven := by
  unfold State.undimLamp
  split
  · exact h.moveLamp x _ _ _
  · exact h

theorem State.driven.failover (h : s.driven) (x : LampId) (n : Nat) : (s.failover x n).1.driven := by
  induction n generalizing s x with
  | zero => exact h
  | succ n ih =>
    have called : (if (s.lamp (otherLamp x)).called then (s, false) else s.callLamp (otherLamp x)).1.driven := by
      split
      · exact h
      · exact h.callLamp _
    unfold State.failover
    generalize (if (s.lamp (otherLamp x)).called then (s, false) else s.callLamp (otherLamp x)) = r at *
    dsimp only
    split
    · exact h
    · split
      case h_1 | h_2 => exact h
      all_goals
        split
        · exact ih called _
        · exact called

theorem LampMove.settle_driven {r : LampMove} (h : r.1.driven) (x : LampId) : (LampMove.settle r x).1.driven := by
  unfold LampMove.settle
  split
  · exact h.failover x 2
  · exact h

theorem State.driven.callLamps (h : s.driven) (xs : List LampId) : (s.callLamps xs).driven := by
  induction xs generalizing s with
  | nil => exact h
  | cons x xs ih => exact ih (LampMove.settle_driven (h.callLamp x) x)

/-! ## Idle, the ways out of DIMMED, the switch unit and the monitor -/

theorem State.driven.leaveDimmed (h : s.driven) : s.leaveDimmed.driven :=
  (((((h.setPower _).undimLamp .a).undimLamp .b).setPower _).reportPower _ _ _).retestIdle

theorem State.driven.leaveMark (h : s.driven) : s.leaveMark.driven := ((h.setPower _).reportPower _ _ _).retestIdle

theorem State.driven.activity (h : s.driven) : s.activity.driven := by
  unfold State.activity
  split
  · exact h.leaveDimmed
  · split
    · exact h.leaveMark
    · split
      · exact h.setPower _
      · exact h
  all_goals exact h

theorem State.driven.signalReturned (h : s.driven) : s.signalReturned.driven := by
  unfold State.signalReturned
  split
  · split
    · exact h.leaveDimmed
    · exact h
  · split
    · exact h.leaveMark
    · exact h.retestIdle
  all_goals exact h.retestIdle

theorem State.driven.sourceSeen (h : s.driven) (b : Bool) : (s.sourceSeen b).driven := by
  unfold State.sourceSeen
  split
  · exact h.signalReturned
  · exact h.retestIdle

theorem State.driven.muteSeen (h : s.driven) : s.muteSeen.driven := by
  unfold State.muteSeen
  split
  · exact h.retestIdle
  · split
    · exact h.leaveDimmed
    · split
      · exact h.leaveMark
      · exact h.retestIdle
    all_goals exact h.retestIdle

/-- Lines that are driven already stay as they are. -/
@[simp] theorem SwitchUnit.drive_drive (v : SwitchUnit) : v.drive.drive = v.drive := rfl

/-- A switch unit that changes takes its lines with it, whatever it changes to. -/
theorem State.driven.putSwitch (h : s.driven) (v : SwitchUnit) : (s.putSwitch v).driven :=
  ⟨h.1, h.2.1, h.2.2.1, v.drive_drive.symm⟩

theorem State.driven.retestWatch (h : s.driven) : s.retestWatch.driven := by
  unfold State.retestWatch
  split
  · split
    · exact h.putSwitch _
    · exact h
  · exact h.putSwitch _

theorem State.driven.beginSwitch (h : s.driven) (i : InputId) (c : ReqClass) (p : Nat) (r : Option (Link × Byte)) :
    (s.beginSwitch i c p r).driven := (h.putSwitch _).retestWatch

theorem State.driven.startPending (h : s.driven) : s.startPending.driven := by
  unfold State.startPending
  split
  · exact h
  · dsimp only
    split
    · exact (h.putSwitch _).offer _
    · exact (h.putSwitch _).beginSwitch _ _ _ _

theorem State.driven.runPicture (h : s.driven) : s.runPicture.driven := h.of_same

theorem State.driven.sendUpdate (h : s.driven) (c : GeoCause) (b : Bool) : (s.sendUpdate c b).driven := h.of_same

theorem State.driven.dueUpdate (h : s.driven) (c : GeoCause) : (s.dueUpdate c).driven := by
  unfold State.dueUpdate
  split
  · exact h.of_same
  · exact h.sendUpdate _ _

theorem State.driven.sourceEvent (h : s.driven) : s.sourceEvent.driven := h.runPicture.dueUpdate _

theorem State.driven.completeSwitch (h : s.driven) (w : Switch) (o : SwitchOutcome) : (s.completeSwitch w o).driven := by
  have told := ((h.putSwitch { s.sw with
    selected := w.target, inFlight := none, hold := s.holdFor w.target w.cls w.priority }).runPicture).offer
  exact ((((told _).sendUpdate _ _).retestWatch).sourceSeen _).startPending

theorem State.driven.dropSwitch (h : s.driven) : s.dropSwitch.driven := by
  unfold State.dropSwitch
  split
  · exact h
  · exact (((h.putSwitch _).runPicture).offer _).sendUpdate _ _

theorem State.driven.dropPending (h : s.driven) (o : SwitchOutcome) : (s.dropPending o).driven := by
  unfold State.dropPending
  split
  · exact h
  · exact (h.putSwitch _).offer _

theorem State.driven.stopSwitching (h : s.driven) : s.stopSwitching.driven := (h.dropSwitch.dropPending _).putSwitch _

theorem State.driven.awaitedSignal (h : s.driven) (i : InputId) : (s.awaitedSignal i).driven := by
  unfold State.awaitedSignal
  split
  · exact h
  · split
    · split
      case h_1 | h_2 | h_3 => exact h.completeSwitch _ _
      all_goals exact h
    · exact h

theorem State.driven.setInput (h : s.driven) (i : InputId) (r : InputRecord) : (s.setInput i r).driven := h.of_same

theorem State.driven.signalChange (h : s.driven) (i : InputId) (r : InputRecord) (c : InputCause) :
    (s.signalChange i r c).driven := by
  have switched := (((h.setInput i r).offer (.inputState
    { input := i, state := ((s.setInput i r).input i).signal, previous := (s.input i).signal, cause := c
      format := (s.setInput i r).formatIndex i, width := ((s.setInput i r).input i).latest.width
      height := ((s.setInput i r).input i).latest.height
      rate := ((s.setInput i r).input i).latest.rate })).awaitedSignal i).retestWatch
  unfold State.signalChange
  dsimp only
  split
  · exact (switched.sourceEvent).sourceSeen _
  · exact switched

theorem State.driven.sleepInputs (h : s.driven) : s.sleepInputs.driven :=
  State.foldl_driven _ (fun s i h => by
    unfold State.sleepInput
    split
    · exact h
    · exact h.signalChange _ _ _) _ h

theorem State.driven.wakeInputs (h : s.driven) : s.wakeInputs.driven :=
  State.foldl_driven _ (fun _ _ h => h.signalChange _ _ _) _ h

theorem State.driven.rematch (h : s.driven) (n : Fin 16) (i : InputId) : (s.rematch n i).driven := by
  unfold State.rematch
  dsimp only
  split
  · split
    · split
      · exact h.signalChange _ _ _
      · exact h
    · exact h.signalChange _ _ _
  · exact h.signalChange _ _ _
  · exact h.setInput _ _
  all_goals exact h

/-! ## The power unit and thermal recovery -/

theorem State.driven.stopScan (h : s.driven) : s.stopScan.driven := h.of_same

theorem State.driven.startScan (h : s.driven) : s.startScan.driven := h.of_same

theorem State.driven.stopWake (h : s.driven) : s.stopWake.driven := by
  have stopped (m : Lamp) (k : m.driven s.conf.lampLevel) :
      ({ m with wakeTimer := none } : Lamp).driven s.conf.lampLevel := ⟨k.1, fun _ => rfl⟩
  obtain ⟨a, b, lines⟩ := h
  exact ⟨stopped _ a, stopped _ b, lines⟩

theorem State.driven.enterStarting (h : s.driven) (c : PowerCause) (o : PowerOutcome) : (s.enterStarting c o).driven := by
  have entered := h.setPower { s.power with state := .starting }
  unfold State.enterStarting
  dsimp only
  refine State.driven.reportPower ?_ _ _ _
  split
  · exact entered.stopScan.wakeInputs
  case h_2 | h_3 => exact (entered.setPower _).retestWatch
  all_goals exact entered

theorem State.driven.enterOn (h : s.driven) (c : PowerCause) (o : PowerOutcome) : (s.enterOn c o).driven :=
  (((h.setPower _).retestIdle).retestWatch).reportPower _ _ _

theorem State.driven.enterStopping (h : s.driven) (c : PowerCause) (o : PowerOutcome) : (s.enterStopping c o).driven :=
  ((((h.setPower _).stopWake).stopSwitching).closeWindow _).reportPower _ _ _

theorem State.driven.enterStandby (h : s.driven) (c : PowerCause) : (s.enterStandby c).driven := by
  have reported := ((((h.setPower { s.power with state := .standby, degraded := false }).sleepInputs).closeWindow
    .cancelledState).startScan).reportPower s.power.state c .none
  unfold State.enterStandby
  dsimp only
  split
  · exact reported.endHold _
  · exact reported

theorem State.driven.enterShutdown (h : s.driven) (c : PowerCause) : (s.enterShutdown c).driven :=
  (((((h.setPower _).stopWake).stopScan).sleepInputs).closeWindow _).reportPower _ _ _

theorem State.driven.tryStandby (h : s.driven) : s.tryStandby.driven := by
  unfold State.tryStandby
  split
  · exact h.enterStandby _
  · exact h

theorem State.driven.noLampInPlay (h : s.driven) : s.noLampInPlay.driven :=
  ((h.setPower _).enterStopping _ _).tryStandby

theorem State.driven.lampEvent (h : s.driven) (told : PlaySignal) : (s.lampEvent told).driven := by
  obtain ⟨d, move⟩ := s.lampEvent_move told
  have settled := h.setPower { s.power with degraded := d }
  generalize s.lampEvent told = v at move
  cases move with
  | stays => exact settled
  | tells => exact settled.reportPower _ _ _
  | lights => exact settled.enterOn _ _
  | darkens => exact settled.enterStarting _ _
  | stops => exact settled.noLampInPlay
  | rests => exact settled.tryStandby

theorem LampMove.finish_driven {r : LampMove} (h : r.1.driven) (x : LampId) : (LampMove.finish r x).driven :=
  (LampMove.settle_driven h x).lampEvent _

/-- Thermal recovery that is set or cleared takes the fan with it. -/
theorem State.driven.setRecovery (h : s.driven) (b : Bool) : (s.setRecovery b).driven := by
  obtain ⟨lampA, lampB, -, sw⟩ := h
  exact ⟨lampA, lampB, by simp [State.setRecovery, State.driveFan, or_assoc], sw⟩

theorem State.driven.endRecovery (h : s.driven) : s.endRecovery.driven := by
  unfold State.endRecovery
  split
  · exact ((h.offer _).setPower _).enterShutdown _
  · exact ((h.setRecovery _).offer _).tryStandby

theorem State.driven.tryEndRecovery (h : s.driven) : s.tryEndRecovery.driven := by
  unfold State.tryEndRecovery
  split
  · exact h.endRecovery
  · exact h

theorem State.driven.alarmPower (h : s.driven) : s.alarmPower.driven := by
  have off := h.setPower s.power.noIntent
  unfold State.alarmPower
  dsimp only
  split
  case h_1 | h_2 | h_3 => exact off.enterStopping _ _
  all_goals exact off

theorem State.driven.thermalAlarm (h : s.driven) : s.thermalAlarm.driven :=
  ((((((h.offer _).condition .a .thermal).condition .b .thermal).setRecovery true).thermalLamp .a).thermalLamp
    .b).alarmPower.tryEndRecovery

end Sys2Proof.Machine
end

section
/-! PROOFS. The owning blocks, the requests, the events and the resets keep the lines driven, and so every step (R67, R69,
R129, R170; O56). -/

set_option Elab.async false

namespace Sys2Proof.Machine

variable {s t : State} {x : LampId}

/-! ## The owning blocks -/

theorem State.driven.recordIntent (h : s.driven) (on : Bool) (a : Asker) : (s.recordIntent on a).driven := h.setPower _

theorem State.driven.takePowerOn (h : s.driven) (a : Asker) : (s.takePowerOn a).2.driven := by
  have called := h.callLamps s.planLamps
  have started : (s.startUpLamps a).2.driven := by
    unfold State.startUpLamps
    dsimp only
    split
    · exact (called.reportPower _ _ _).lampEvent _
    · exact ((called.recordIntent _ _).setPower _).enterStarting _ _
    · exact (called.recordIntent _ _).enterStarting _ _
  unfold State.takePowerOn
  split
  case h_1 | h_2 =>
    split
    · exact h
    · exact started
  case h_3 => exact h
  all_goals
    dsimp only
    split
    · exact h.recordIntent _ _
    · exact (h.recordIntent _ _).activity

theorem State.driven.takePowerOff (h : s.driven) (a : Asker) : (s.takePowerOff a).2.driven := by
  unfold State.takePowerOff
  split
  case h_1 | h_2 | h_3 =>
    exact ((((h.recordIntent false a).enterStopping .request .none).releaseLamp .a).releaseLamp .b).lampEvent _
  case h_4 | h_5 => exact h.recordIntent _ _
  case h_6 => exact h

theorem State.driven.offerSlot (h : s.driven) (i : InputId) (a : Asker) : (s.offerSlot i a).2.driven := by
  unfold State.offerSlot
  dsimp only
  split
  · split
    · exact (h.dropPending _).putSwitch _
    · exact h
  · split
    · exact (h.dropPending _).putSwitch _
    · exact h

theorem State.driven.takeSelect (h : s.driven) (i : InputId) (a : Asker) : (s.takeSelect i a).2.driven := by
  unfold State.takeSelect
  split
  case h_1 => exact h
  case h_2 | h_3 => exact (h.putSwitch _).sourceEvent
  all_goals
    split
    · exact h
    · split
      · exact h
      · split
        · exact h
        · split
          · exact h.beginSwitch _ _ _ _
          · exact h.offerSlot i a

theorem State.driven.takeMute (h : s.driven) (on : Bool) : (s.takeMute on).2.driven := by
  unfold State.takeMute
  split
  · exact h
  · dsimp only
    split
    · exact h
    · exact (h.putSwitch _).muteSeen

theorem State.driven.adoptGeometry (h : s.driven) (g : GeoValues) : (s.adoptGeometry g).driven := h.of_same

theorem State.driven.takeCandidate (h : s.driven) (g : GeoValues) (reply : List Byte) :
    (s.takeCandidate g reply).2.driven := by
  unfold State.takeCandidate
  split
  · exact h
  · split
    · exact (h.adoptGeometry g).dueUpdate _
    · exact h

/-- What stands of the lines while a change of the lamp level has still to reach the lamps of `xs`: all but the demand of
those in LIT (R90). -/
def State.levelled (s : State) (xs : List LampId) : Prop :=
  (∀ x, x ∈ xs ∧ (s.lamp x).state = .lit ∨ (s.lamp x).driven s.conf.lampLevel)
    ∧ (s.fan = true ↔ s.lampA.state = .cooldown ∨ s.lampB.state = .cooldown ∨ s.recovery = true)
    ∧ s.sw = s.sw.drive

/-- The level in force reaches one lamp more. -/
theorem State.levelled.relevelLamp {xs : List LampId} (h : s.levelled (x :: xs)) : (s.relevelLamp x).levelled xs := by
  obtain ⟨lamps, fan, sw⟩ := h
  unfold State.relevelLamp
  split
  · rename_i lit
    refine ⟨fun y => ?_, ?_, ?_⟩
    · by_cases same : y = x
      · refine .inr ?_
        rw [same, State.moveLamp, if_neg Bool.false_ne_true, State.reportLamp, State.lamp_offer, State.lamp_putLamp_same]
        exact ⟨by simp, fun dark => absurd lit (by simpa using dark)⟩
      · rw [State.lamp_moveLamp_other _ same, (s.moveLamp_frame x id false .level).conf]
        exact (lamps y).imp_left fun ⟨mem, lit⟩ => ⟨(List.mem_cons.mp mem).resolve_left same, lit⟩
    · cases x <;> simp [State.moveLamp, State.reportLamp, State.putLamp, State.setLamp, State.driveFan, or_assoc]
    · rw [(s.moveLamp_frame x id false .level).sw]
      exact sw
  · rename_i dark
    refine ⟨fun y => (lamps y).imp_left fun ⟨mem, lit⟩ => ⟨(List.mem_cons.mp mem).resolve_left ?_, lit⟩, fan, sw⟩
    rintro rfl
    exact dark lit

theorem State.driven.takeLevel (h : s.driven) (v : LampLevel) : (s.takeLevel v).2.driven := by
  unfold State.takeLevel
  split
  · exact h
  · dsimp only
    split
    · exact h
    · obtain ⟨a, b, fan, sw⟩ := h
      have unlit {m : Lamp} (k : m.driven s.conf.lampLevel) : m.state = .lit ∨ m.driven v := by
        by_cases lit : m.state = .lit
        · exact .inl lit
        · refine .inr ⟨k.1.trans ?_, k.2⟩
          cases phase : m.state <;> simp_all [demandOf]
      have begun : ({ s with conf := { s.conf with lampLevel := v } } : State).levelled [.a, .b] :=
        ⟨fun y => by
          cases y with
          | a => exact (unlit a).imp_left fun lit => ⟨by simp, lit⟩
          | b => exact (unlit b).imp_left fun lit => ⟨by simp, lit⟩, fan, sw⟩
      obtain ⟨lamps, fan', sw'⟩ := begun.relevelLamp.relevelLamp
      exact ⟨(lamps .a).resolve_left (by simp), (lamps .b).resolve_left (by simp), fan', sw'⟩

theorem State.driven.reshape (h : s.driven) : s.reshape.driven := by
  unfold State.reshape State.callUncalled
  split
  · exact h.callLamps _
  · split
    · exact h.releaseLamp _
    · exact h
  all_goals exact (h.releaseLamp _).callLamps _

theorem State.driven.takePlan (h : s.driven) (p : Plan) : (s.takePlan p).2.driven := by
  have planned : ({ s with conf := { s.conf with plan := p } } : State).driven := h
  unfold State.takePlan
  split
  · exact h
  · split
    · exact h
    · split
      · exact h
      · dsimp only
        split
        · exact planned.reshape.lampEvent _
        · exact planned.setPower _

theorem State.driven.setLevel (h : s.driven) (v : Level) (c : LockoutCause) (b : Byte) : (s.setLevel v c b).driven := by
  unfold State.setLevel
  split
  · exact h
  · exact h.of_same

theorem State.driven.takeLockout (h : s.driven) (v : Level) (a : Asker) : (s.takeLockout v a).2.driven := by
  unfold State.takeLockout
  split
  · exact h
  · exact h.setLevel _ _ _

theorem State.driven.takeSetRule (h : s.driven) (i : RuleId) (on : Bool) : (s.takeSetRule i on).2.driven := by
  unfold State.takeSetRule
  split
  · exact h
  · split
    · exact h
    · exact h.of_same

theorem State.driven.takeEnd (h : s.driven) : s.takeEnd.2.driven := by
  unfold State.takeEnd
  split
  · exact h
  · exact h.endHold _

/-- Whatever the operation, its owning block leaves the lines driven. -/
theorem State.driven.take (h : s.driven) (o : Operation) (a : Asker) : (s.take o a).2.driven := by
  cases o with
  | powerOn => exact h.takePowerOn a
  | powerOff => exact h.takePowerOff a
  | selectInput i => exact h.takeSelect i a
  | pictureMute on => exact h.takeMute on
  | setKeystone relative v w => exact h.takeCandidate _ _
  | setCorner k dx dy => exact h.takeCandidate _ _
  | recallGeometry p => exact h.takeCandidate _ _
  | setLampLevel v => exact h.takeLevel v
  | setLampPlan p => exact h.takePlan p
  | setLockout v => exact h.takeLockout v a
  | presentCredential token => exact h.of_same
  | endCredential => exact h.takeEnd
  | setRule i on => exact h.takeSetRule i on

theorem State.driven.operate (h : s.driven) (k : ReqClass) (o : Operation) (r : Option (Link × Byte)) (p : Option Nat) :
    (s.operate k o r p).2.driven := by
  have judged := (s.evaluate_frame k o p).driven h
  unfold State.operate
  dsimp only
  split
  · refine State.driven.take ?_ o _
    split
    · exact judged.activity
    · exact judged
  · exact judged

/-! ## Requests with and without a link -/

theorem State.driven.handled (h : s.driven) (l : Link) (kind tag : Byte) (payload : List Byte) {pass : State → State}
    (kept : ∀ {t : State}, t.driven → (pass t).driven) : (s.handled l kind tag payload pass).driven := by
  unfold State.handled
  split
  · exact h
  · dsimp only
    split
    · exact (h.setLink l _).reply l _
    · exact kept (h.setLink l _)

theorem State.driven.request (h : s.driven) (l : Link) (kind tag : Byte) (payload : List Byte) {body : State → Taken}
    (kept : ∀ {t : State}, t.driven → (body t).2.driven) : (s.request l kind tag payload body).driven :=
  h.handled l kind tag payload fun k => (kept k).reply l _

/-- A request that only reads. -/
theorem State.driven.read (h : s.driven) (l : Link) (kind tag : Byte) (payload : List Byte) {body : State → Taken}
    (same : ∀ t : State, (body t).2 = t) : (s.request l kind tag payload body).driven :=
  h.request l kind tag payload fun {t} k => by rw [same t]; exact k

theorem State.driven.operational (h : s.driven) (l : Link) (kind tag : Byte) (payload : List Byte)
    (o : Option Operation) : (s.operational l kind tag payload o).driven := by
  refine h.request l kind tag payload fun k => ?_
  cases o with
  | none => exact k
  | some o => exact k.operate _ o _ _

theorem State.driven.unlinked (h : s.driven) (k : ReqClass) (o : Operation) : (s.unlinked k o).driven :=
  h.operate k o none none

theorem State.driven.formKey (h : s.driven) (k : Key) (r : ReqClass) : (s.formKey k r).driven := by
  unfold State.formKey
  split
  · exact h.unlinked _ _
  · exact h

theorem State.driven.openWindow (h : s.driven) (r : ReqClass) : (s.openWindow r).driven := h.of_same

theorem State.driven.pressPower (h : s.driven) (r : ReqClass) : (s.pressPower r).driven := by
  unfold State.pressPower
  split
  case h_1 | h_2 => exact h.unlinked _ _
  case h_6 => exact h
  all_goals
    split
    · exact h.openWindow _
    · split
      · exact (h.closeWindow _).unlinked _ _
      · exact (h.closeWindow _).openWindow _

theorem State.driven.press (h : s.driven) (k : Key) (r : ReqClass) : (s.press k r).driven := by
  unfold State.press
  split
  · exact h.pressPower r
  all_goals exact (h.closeWindow _).formKey _ _

theorem State.driven.pressRemote (h : s.driven) (command : Byte) (b : Button) : (s.pressRemote command b).driven := by
  have heard (m : RemoteMemory) : ({ s with remote := m } : State).driven := h
  unfold State.pressRemote
  dsimp only
  split
  · exact (heard _).press _ _
  · exact ((heard _).closeWindow _).unlinked _ _

theorem State.driven.repeatRemote (h : s.driven) (command : Byte) (b : Button) : (s.repeatRemote command b).driven := by
  have heard (m : RemoteMemory) : ({ s with remote := m } : State).driven := h
  unfold State.repeatRemote
  split
  · exact h
  · split
    · exact (heard _).formKey _ _
    · exact h

theorem State.driven.autoChoice (h : s.driven) : s.autoChoice.driven := by
  unfold State.autoChoice
  split
  · split
    · exact h.unlinked _ _
    · exact h
  · exact h

theorem State.driven.signalSeen (h : s.driven) (i : InputId) (r : InputRecord) (c : InputCause) :
    (s.signalSeen i r c).driven := by
  unfold State.signalSeen
  dsimp only
  split
  · exact (h.signalChange i r c).autoChoice
  · exact h.signalChange i r c

/-! ## What the management requests do -/

theorem State.driven.holdChanged (h : s.driven) (x : LampId) : (s.holdChanged x).driven := by
  unfold State.holdChanged
  dsimp only
  split
  case h_1 =>
    split
    · exact LampMove.finish_driven (h.reachDark x) x
    · exact h
  case h_2 =>
    split
    · exact h.moveLamp x _ _ _
    · exact h
  case h_3 =>
    split
    · exact LampMove.finish_driven (h.strike x) x
    · exact h
  all_goals exact h

theorem State.driven.groupWritten (h : s.driven) (g : GroupId) : (s.groupWritten g).driven := by
  unfold State.groupWritten
  split
  · exact h.of_same
  · exact h.of_same

theorem State.driven.itemWritten (h : s.driven) (n : Nat) : (s.itemWritten n).driven := by
  unfold State.itemWritten
  split
  · exact (h.holdChanged _).holdChanged _
  · split
    · exact (h.testThresholds _).testThresholds _
    · split
      · exact h.retestWatch
      · split
        · exact h.groupWritten _
        · split
          · exact h.groupWritten _
          · split
            · exact h.sourceEvent
            · exact h

theorem State.driven.bodyWriteSetting (h : s.driven) (payload : List Byte) : (s.bodyWriteSetting payload).2.driven := by
  have written (n : Fin 104) (v : Nat) : (s.setItem n v).driven := h
  unfold State.bodyWriteSetting
  split
  · exact h
  · exact (written _ _).itemWritten _

theorem State.driven.bodyLearnBase (h : s.driven) (payload : List Byte) : (s.bodyLearnBase payload).2.driven :=
  State.foldl_driven _ (fun s i h => by
    unfold State.learnInput
    split
    · exact h.of_same
    · exact h) _ h

theorem State.driven.purge (h : s.driven) : s.purge.driven := by
  unfold State.purge
  split
  · exact h
  · exact h.of_same

theorem State.driven.reconstruct (h : s.driven) : s.reconstruct.driven := by
  unfold State.reconstruct
  split
  · exact h
  · split
    · exact h.setLevel _ _ _
    · exact h

theorem State.driven.bodySetClock (h : s.driven) (payload : List Byte) : (s.bodySetClock payload).2.driven := by
  have set (c : Clock) : ({ s with clock := some c, skip := true } : State).driven := h
  unfold State.bodySetClock
  dsimp only
  split
  · exact (set _).purge.reconstruct
  · exact h

theorem State.driven.bodyResetLampWear (h : s.driven) (payload : List Byte) :
    (s.bodyResetLampWear payload).2.driven := by
  unfold State.bodyResetLampWear
  split
  · exact h
  · rename_i x _
    split
    · have tested := (h.setLamp x (s.lamp x).renewed).testThresholds x
      dsimp only
      refine State.driven.checkpointFor ?_ x
      split
      · exact tested.serviceLamp x
      · exact tested
    · exact h

theorem State.driven.clearLamp (h : s.driven) (x : LampId) : (s.clearLamp x).2.driven := by
  unfold State.clearLamp
  split
  · exact (h.serviceLamp x).checkpoint
  case h_2 | h_3 => exact (h.setLamp x _).checkpoint
  all_goals exact h

theorem State.driven.rehold (h : s.driven) (x : LampId) : (s.rehold x).driven := by
  unfold State.rehold
  split
  · exact h
  · exact h.serviceLamp x

theorem State.driven.clearProjector (h : s.driven) : s.clearProjector.2.driven := by
  have clear : ({ s with latch := false } : State).driven := h
  unfold State.clearProjector
  split
  · exact h
  · exact (((((clear.setRecovery false).rehold .a).rehold .b).offer _).setPower _).enterStandby _

theorem State.driven.bodyServiceClear (h : s.driven) (payload : List Byte) : (s.bodyServiceClear payload).2.driven := by
  unfold State.bodyServiceClear
  split
  · exact h.clearProjector
  · split
    · exact h
    · exact h.clearLamp _

theorem State.driven.bodyWriteFormat (h : s.driven) (payload : List Byte) : (s.bodyWriteFormat payload).2.driven := by
  have written (v : Vector Format 16) : ({ s with conf := { s.conf with formats := v } } : State).driven := h
  unfold State.bodyWriteFormat
  split
  · rename_i n f _ _
    dsimp only
    exact State.foldl_driven (State.rematch n) (fun _ i k => k.rematch n i) _ (written _)
  · exact h

theorem State.driven.bodyStoreGeometry (h : s.driven) (payload : List Byte) :
    (s.bodyStoreGeometry payload).2.driven := by
  unfold State.bodyStoreGeometry
  split
  · exact h
  · exact h.of_same

theorem State.driven.bodyWriteRule (h : s.driven) (payload : List Byte) : (s.bodyWriteRule payload).2.driven := by
  unfold State.bodyWriteRule
  split
  · exact h
  · split
    · exact h
    · split
      · exact h
      · dsimp only
        split
        · exact h.of_same
        · exact h.of_same

theorem State.driven.bodyWriteMatrix (h : s.driven) (payload : List Byte) : (s.bodyWriteMatrix payload).2.driven := by
  unfold State.bodyWriteMatrix
  split
  · split
    · exact h
    · dsimp only
      split <;> split <;> exact h.of_same
  · exact h

theorem State.driven.bodyWriteCard (h : s.driven) (payload : List Byte) : (s.bodyWriteCard payload).2.driven := by
  unfold State.bodyWriteCard
  dsimp only
  split
  · split
    · exact h
    · exact h.of_same
  · exact h

theorem State.driven.bodyWriteGroups (h : s.driven) (payload : List Byte) : (s.bodyWriteGroups payload).2.driven := by
  unfold State.bodyWriteGroups
  dsimp only
  split
  · exact h
  · exact h.of_same

theorem State.driven.bodySetTableLock (h : s.driven) (payload : List Byte) : (s.bodySetTableLock payload).2.driven := by
  unfold State.bodySetTableLock
  dsimp only
  split
  · exact h
  · exact h.of_same
  · split
    · exact h
    · split
      · exact h
      · exact h.of_same

theorem State.driven.bodyWriteEntry (h : s.driven) (payload : List Byte) : (s.bodyWriteEntry payload).2.driven := by
  unfold State.bodyWriteEntry
  split
  · exact h
  · split
    · exact h
    · split
      · exact h
      · exact h.of_same

theorem State.driven.bodyWriteException (h : s.driven) (payload : List Byte) :
    (s.bodyWriteException payload).2.driven := by
  have replaced (es : List ExceptionRecord) : (s.exceptionsReplaced es).2.driven := h.of_same
  unfold State.bodyWriteException
  dsimp only
  split
  · exact h
  · split
    · exact h
    · split
      · exact replaced _
      · split
        · exact h
        · split
          · exact h
          · exact replaced _

theorem State.driven.commitTaken (h : s.driven) (l : Link) (tag : Byte) : (s.commitTaken l tag).driven := by
  unfold State.commitTaken
  split
  · exact h.reply _ _
  · exact (h.setLink l _).of_same

/-! ## The events of the lamps and of the thermal alarm -/

theorem State.driven.ranOut (h : s.driven) (x : LampId) : (s.ranOut x).driven := h.setLamp x _

theorem State.driven.heldOut (h : s.driven) (x : LampId) : (s.heldOut x).driven := h.setLamp x _

theorem exec_litSense_driven (h : s.driven) (x : LampId) : ∃ t, exec (.litSense x) s = .next t ∧ t.driven := by
  refine ⟨_, rfl, ?_⟩
  split
  · exact LampMove.finish_driven (h.moveLamp x _ _ _) x
  · exact h

theorem exec_strikeWindowExpiry_driven (h : s.driven) (x : LampId) :
    ∃ t, exec (.strikeWindowExpiry x) s = .next t ∧ t.driven := by
  refine ⟨_, rfl, ?_⟩
  split
  · exact LampMove.finish_driven ((h.ranOut x).strikeFailed x _) x
  · exact h

theorem exec_retryWaitExpiry_driven (h : s.driven) (x : LampId) :
    ∃ t, exec (.retryWaitExpiry x) s = .next t ∧ t.driven := by
  refine ⟨_, rfl, ?_⟩
  split
  · unfold State.retryWaited
    split
    · exact h.ranOut x
    · exact LampMove.finish_driven ((h.ranOut x).strike x) x
  · exact h

theorem exec_retryHoldReached_driven (h : s.driven) (x : LampId) :
    ∃ t, exec (.retryHoldReached x) s = .next t ∧ t.driven := by
  refine ⟨_, rfl, ?_⟩
  split
  · exact LampMove.finish_driven ((h.heldOut x).strike x) x
  · exact h

theorem exec_ballastFault_driven (h : s.driven) (x : LampId) :
    ∃ t, exec (.ballastFault x) s = .next t ∧ t.driven := by
  have asserted := h.setLamp x { s.lamp x with faultLine := true }
  refine ⟨_, rfl, ?_⟩
  split
  case h_1 | h_2 | h_3 | h_4 => exact asserted
  all_goals exact LampMove.finish_driven (asserted.takeFault x) x

theorem exec_warmupExpiry_driven (h : s.driven) (x : LampId) (weak : Bool) :
    ∃ t, exec (.warmupExpiry x weak) s = .next t ∧ t.driven := by
  have sampled := (h.ranOut x).conditionIf weak x .arcWeak
  refine ⟨_, rfl, ?_⟩
  split
  · refine LampMove.finish_driven ?_ x
    unfold State.warmed
    split
    · exact sampled.extinguish x _ _
    · exact sampled.moveLamp x _ _ _
  · exact h

theorem exec_cooldownExpiry_driven (h : s.driven) (x : LampId) :
    ∃ t, exec (.cooldownExpiry x) s = .next t ∧ t.driven := by
  refine ⟨_, rfl, ?_⟩
  split
  · exact (LampMove.finish_driven ((h.ranOut x).cooled x) x).tryEndRecovery
  · exact h

theorem exec_holdReached_driven (h : s.driven) (x : LampId) : ∃ t, exec (.holdReached x) s = .next t ∧ t.driven := by
  refine ⟨_, rfl, ?_⟩
  split
  · exact LampMove.finish_driven ((h.heldOut x).reachDark x) x
  · exact h

theorem exec_litSecond_driven (h : s.driven) (x : LampId) : ∃ t, exec (.litSecond x) s = .next t ∧ t.driven := by
  have counted := (h.setLamp x { s.lamp x with fraction := 0, litSeconds := (s.lamp x).litSeconds + 1 }).addWear x
    (litUnits (s.lamp x).state s.conf.lampLevel)
  refine ⟨_, rfl, ?_⟩
  split
  · dsimp only
    split
    · exact counted.checkpointFor x
    · exact counted
  · exact h

theorem exec_thermalAlarm_driven (h : s.driven) : ∃ t, exec .thermalAlarm s = .next t ∧ t.driven := by
  have asserted : ({ s with thermalInput := true } : State).driven := h
  refine ⟨_, rfl, ?_⟩
  split
  · exact h.of_same
  · exact asserted.thermalAlarm

theorem exec_wakeTimerExpiry_driven (h : s.driven) (x : LampId) :
    ∃ t, exec (.wakeTimerExpiry x) s = .next t ∧ t.driven := by
  refine ⟨_, rfl, ?_⟩
  split
  · exact ((h.setLamp x { s.lamp x with wakeTimer := none } rfl (fun k => ⟨k.1, fun _ => rfl⟩)).condition x
      .wakeLate).setLamp x _
  · exact h

/-! ## The events of the monitor, the switch unit, the power unit, the clock and the keys -/

theorem exec_measurement_driven (h : s.driven) (i : InputId) (sync : Bool) (width height rate : BitVec 16) :
    ∃ t, exec (.measurement i sync width height rate) s = .next t ∧ t.driven := by
  refine ⟨_, rfl, ?_⟩
  split
  · dsimp only
    split
    · exact h.signalSeen i _ _
    · exact h.setInput i _
  · exact h

theorem exec_acquireTimeout_driven (h : s.driven) (i : InputId) :
    ∃ t, exec (.acquireTimeout i) s = .next t ∧ t.driven := by
  refine ⟨_, rfl, ?_⟩
  split
  · exact h.signalSeen i _ _
  · exact h

theorem exec_blankEnd_driven (h : s.driven) : ∃ t, exec .blankEnd s = .next t ∧ t.driven := by
  refine ⟨_, rfl, ?_⟩
  split
  · exact h
  · split
    · exact h.putSwitch _
    · exact h

theorem exec_settleExpiry_driven (h : s.driven) : ∃ t, exec .settleExpiry s = .next t ∧ t.driven := by
  refine ⟨_, rfl, ?_⟩
  split
  · exact h
  · split
    · split
      case h_2 => exact h.putSwitch _
      all_goals exact h.completeSwitch _ _
    · exact h

theorem exec_sourceHoldExpiry_driven (h : s.driven) : ∃ t, exec .sourceHoldExpiry s = .next t ∧ t.driven := by
  refine ⟨_, rfl, ?_⟩
  split
  · exact h
  · exact (h.putSwitch _).autoChoice

theorem exec_lossGraceExpiry_driven (h : s.driven) : ∃ t, exec .lossGraceExpiry s = .next t ∧ t.driven := by
  refine ⟨_, rfl, ?_⟩
  split
  · exact (h.putSwitch _).autoChoice
  · exact h

theorem exec_idleExpiry_driven (h : s.driven) : ∃ t, exec .idleExpiry s = .next t ∧ t.driven := by
  have expired : (s.setPower { s.power with idle := none }).idleExpired.driven := by
    unfold State.idleExpired
    split
    · exact (((h.setPower _).dimLamp .a).dimLamp .b).setPower _
    · exact (h.setPower _).setPower _
  refine ⟨_, rfl, ?_⟩
  split
  · exact (expired.reportPower _ _ _).setPower _
  · exact h

theorem exec_autoOffExpiry_driven (h : s.driven) : ∃ t, exec .autoOffExpiry s = .next t ∧ t.driven := by
  have asked := (h.setPower { s.power with autoOff := none }).operate .auto .powerOff none none
  refine ⟨_, rfl, ?_⟩
  split
  · dsimp only
    split
    · exact asked.setPower _
    · exact asked
  · exact h

theorem State.driven.samples {w : State × Option InputId} (h : w.1.driven) (g : GroupId)
    (samples : Vector (BitVec 16) 8) (is : List InputId) : (is.foldl (State.sample g samples) w).1.driven := by
  induction is generalizing w with
  | nil => exact h
  | cons i is ih =>
    refine ih ?_
    unfold State.sample
    split
    · exact h
    · dsimp only
      split
      · split
        · exact h.of_same
        · exact h.of_same
      · exact h.of_same

theorem exec_scanInterval_driven (h : s.driven) (g : GroupId) (samples : Vector (BitVec 16) 8) :
    ∃ t, exec (.scanInterval g samples) s = .next t ∧ t.driven := by
  refine ⟨_, rfl, ?_⟩
  split
  · have sampled := State.driven.samples (w := (s, none)) h g samples (List.finRange 8)
    dsimp only
    split
    · split
      · have woken := State.driven.operate (s := State.restartInterval _ g) (sampled.of_same) .auto .powerOn none none
        unfold State.scanWakeUp
        dsimp only
        split
        · exact woken
        · exact woken.unlinked _ _
      · exact sampled.of_same
    · exact sampled.of_same
  · exact h

theorem State.driven.fire (h : s.driven) (n : Nat) (e : Entry) (minute : Nat) : (s.fire n e minute).driven := by
  unfold State.fire
  split
  · exact (h.offer _).offer _
  · split
    · exact h.offer _
    · exact (h.operate _ _ _ _).offer _

theorem State.driven.startMinute (h : s.driven) (d : DateTime) : (s.startMinute d).driven := by
  have fired {s : State} (h : s.driven) : (s.fireWeek d).driven :=
    State.foldl_driven _ (fun s n h => by
      unfold State.handleEntry
      dsimp only
      split
      · split
        · exact h.offer _
        · exact h.fire _ _ _
      · exact h) _ h
  have begun (c : Clock) : ({ s with clock := some c, skip := false } : State).driven := h
  unfold State.startMinute
  dsimp only
  refine fired ?_
  split
  · exact (begun _).purge
  · exact begun _

theorem exec_minuteStart_driven (h : s.driven) : ∃ t, exec .minuteStart s = .next t ∧ t.driven := by
  refine ⟨_, rfl, ?_⟩
  split
  · exact h
  · split
    · exact h
    · exact h.startMinute _

theorem exec_clockEnd_driven (h : s.driven) : ∃ t, exec .clockEnd s = .next t ∧ t.driven := by
  refine ⟨_, rfl, ?_⟩
  split
  · exact h
  · split
    · exact h.of_same
    · exact h

theorem exec_countDownDecrement_driven (h : s.driven) (i : RuleId) :
    ∃ t, exec (.countDownDecrement i) s = .next t ∧ t.driven := by
  refine ⟨_, rfl, ?_⟩
  split
  · split
    · exact h.of_same
    · exact h.of_same
  · exact h

theorem exec_keyRepeat_driven (h : s.driven) (k : Key) : ∃ t, exec (.keyRepeat k) s = .next t ∧ t.driven := by
  have held (m : Keypad) : ({ s with keypad := m } : State).driven := h
  refine ⟨_, rfl, ?_⟩
  split
  · exact (held _).formKey _ _
  · exact h

theorem exec_remoteCode_driven (h : s.driven) (address command : Byte) (again : Bool) :
    ∃ t, exec (.remoteCode address command again) s = .next t ∧ t.driven := by
  refine ⟨_, rfl, ?_⟩
  split
  · split
    · exact h
    · split
      · exact h.repeatRemote _ _
      · exact h.pressRemote _ _
  · exact h

/-! ## The links and the store -/

theorem exec_frameStall_driven (h : s.driven) (l : Link) : ∃ t, exec (.frameStall l) s = .next t ∧ t.driven := by
  refine ⟨_, rfl, ?_⟩
  split
  · exact h
  · exact h.setLink l _

theorem exec_frameSendEnd_driven (h : s.driven) (l : Link) : ∃ t, exec (.frameSendEnd l) s = .next t ∧ t.driven := by
  refine ⟨_, rfl, ?_⟩
  split
  · exact h
  · exact (h.setLink l _).of_same

theorem exec_unknownKind_driven (h : s.driven) (l : Link) (kind tag : Byte) (payload : List Byte) :
    ∃ t, exec (.unknownKind l kind tag payload) s = .next t ∧ t.driven := by
  refine ⟨_, rfl, ?_⟩
  split
  · exact h
  · exact h.read l kind tag payload fun _ => rfl

theorem exec_settingsWriteEnd_driven (h : s.driven) : ∃ t, exec .settingsWriteEnd s = .next t ∧ t.driven := by
  refine ⟨_, rfl, ?_⟩
  split
  · exact h
  · rename_i w _
    exact State.driven.reply ((h.setLink w.link { s.link w.link with awaiting := false }).of_same) _ _

theorem exec_lampWriteEnd_driven (h : s.driven) : ∃ t, exec .lampWriteEnd s = .next t ∧ t.driven := by
  refine ⟨_, rfl, ?_⟩
  split
  · exact h
  · split
    · exact h.of_same
    · exact h.of_same

/-! ## The resets, whatever stood before -/

theorem Lamp.started_driven (m : Lamp) (found : Option LampEntry) (v : LampLevel) : (m.started found).driven v := by
  refine ⟨?_, fun _ => rfl⟩
  unfold Lamp.started
  dsimp only
  split <;> rfl

theorem Lamp.started_not_cooling (m : Lamp) (found : Option LampEntry) : (m.started found).state ≠ .cooldown := by
  unfold Lamp.started
  dsimp only
  split <;> simp

/-- A reset clears every block with its lines at rest (R92, R119, R129). -/
theorem State.cleared_driven (s : State) (c : ResetCause) : (s.cleared c).driven :=
  ⟨Lamp.started_driven _ _ _, Lamp.started_driven _ _ _,
    iff_of_false nofun fun lamps => lamps.elim (Lamp.started_not_cooling _ _)
      fun rest => rest.elim (Lamp.started_not_cooling _ _) nofun, rfl⟩

theorem State.restored_driven (s : State) (c : ResetCause) : (s.restored c).driven := by
  have flagged : ({ s.cleared c with
      lampA := (s.cleared c).flagged (s.cleared c).lampA
      lampB := (s.cleared c).flagged (s.cleared c).lampB } : State).driven := s.cleared_driven c
  unfold State.restored State.startGeometry
  dsimp only
  split
  · exact flagged.startScan.purge.adoptGeometry _
  · exact flagged.startScan.purge.adoptGeometry _

theorem State.driven.announce (h : s.driven) (r : Report) (c : GeoCause) : (s.announce r c).driven :=
  (((((h.offer _).offer _).reconstruct).reportPower _ _ _).offer _).offer _ |>.sendUpdate _ _

theorem State.driven.uncleanOff (h : s.driven) (a b : Bool) : (s.uncleanOff a b).driven := by
  have told := (h.conditionIf a .a .uncleanOff).conditionIf b .b .uncleanOff
  unfold State.uncleanOff
  dsimp only
  split
  · exact told.checkpoint
  · exact told

theorem State.driven.resume (h : s.driven) (c : ResetCause) (lit : Bool) : (s.resume c lit).driven := by
  unfold State.resume
  split
  · exact h.unlinked _ _
  · exact h

theorem State.startUp_driven (s : State) (c : ResetCause) : (s.startUp c).driven := by
  have unclean := ((s.restored_driven c).announce (s.startReport c) ((s.cleared c).startGeoCause)).uncleanOff
    (s.lampsFound.any (·.a.lit)) (s.lampsFound.any (·.b.lit))
  unfold State.startUp
  dsimp only
  refine State.driven.resume ?_ _ _
  split
  · exact unclean.thermalAlarm
  · exact unclean

theorem exec_restartReset_driven (h : s.driven) : ∃ t, exec .restartReset s = .next t ∧ t.driven := by
  refine ⟨_, rfl, ?_⟩
  split
  · exact s.startUp_driven _
  · exact h

/-! ## Every step -/

/-- Every command keeps the lines driven. -/
theorem exec_driven (c : Instr) (h : s.driven) : ∃ t, exec c s = .next t ∧ t.driven := by
  cases c with
  | linkByteReceived l b stop => exact ⟨_, rfl, h.setLink l _⟩
  | frameStall l => exact exec_frameStall_driven h l
  | unknownKind l kind tag payload => exact exec_unknownKind_driven h l kind tag payload
  | frameSendEnd l => exact exec_frameSendEnd_driven h l
  | powerOn | powerOff | selectInput | pictureMute | setKeystone | setCorner | recallGeometry | setLampLevel
  | setLampPlan | setLockout | presentCredential | endCredential => exact ⟨_, rfl, h.operational _ _ _ _ _⟩
  | countDownDecrement i => exact exec_countDownDecrement_driven h i
  | readStatus l tag p => exact ⟨_, rfl, h.request l _ tag p fun k => k.setLink l _⟩
  | readLamp l tag p => exact ⟨_, rfl, h.read l _ tag p (State.bodyReadLamp_state p)⟩
  | readInput l tag p => exact ⟨_, rfl, h.read l _ tag p (State.bodyReadInput_state p)⟩
  | readGeometry l tag p => exact ⟨_, rfl, h.read l _ tag p (State.bodyReadGeometry_state p)⟩
  | readRule l tag p => exact ⟨_, rfl, h.read l _ tag p (State.bodyReadRule_state p)⟩
  | readMatrix l tag p => exact ⟨_, rfl, h.read l _ tag p (State.bodyReadMatrix_state p)⟩
  | readCard l tag p => exact ⟨_, rfl, h.read l _ tag p (State.bodyReadCard_state p)⟩
  | readGroups l tag p => exact ⟨_, rfl, h.read l _ tag p fun _ => rfl⟩
  | readEntry l tag p => exact ⟨_, rfl, h.read l _ tag p (State.bodyReadEntry_state p)⟩
  | readExceptions l tag p => exact ⟨_, rfl, h.read l _ tag p fun _ => rfl⟩
  | readClock l tag p => exact ⟨_, rfl, h.read l _ tag p State.bodyReadClock_state⟩
  | readFormat l tag p => exact ⟨_, rfl, h.read l _ tag p (State.bodyReadFormat_state p)⟩
  | readSetting l tag p => exact ⟨_, rfl, h.read l _ tag p (State.bodyReadSetting_state p)⟩
  | readIncidents l tag p => exact ⟨_, rfl, h.read l _ tag p (State.bodyReadIncidents_state p)⟩
  | restart l tag p => exact ⟨_, rfl, h.read l _ tag p fun _ => rfl⟩
  | storeGeometry l tag p => exact ⟨_, rfl, h.request l _ tag p (·.bodyStoreGeometry p)⟩
  | writeRule l tag p => exact ⟨_, rfl, h.request l _ tag p (·.bodyWriteRule p)⟩
  | writeMatrix l tag p => exact ⟨_, rfl, h.request l _ tag p (·.bodyWriteMatrix p)⟩
  | writeCard l tag p => exact ⟨_, rfl, h.request l _ tag p (·.bodyWriteCard p)⟩
  | writeGroups l tag p => exact ⟨_, rfl, h.request l _ tag p (·.bodyWriteGroups p)⟩
  | writeEntry l tag p => exact ⟨_, rfl, h.request l _ tag p (·.bodyWriteEntry p)⟩
  | writeException l tag p => exact ⟨_, rfl, h.request l _ tag p (·.bodyWriteException p)⟩
  | setClock l tag p => exact ⟨_, rfl, h.request l _ tag p (·.bodySetClock p)⟩
  | writeFormat l tag p => exact ⟨_, rfl, h.request l _ tag p (·.bodyWriteFormat p)⟩
  | writeSetting l tag p => exact ⟨_, rfl, h.request l _ tag p (·.bodyWriteSetting p)⟩
  | learnBase l tag p => exact ⟨_, rfl, h.request l _ tag p (·.bodyLearnBase p)⟩
  | setTableLock l tag p => exact ⟨_, rfl, h.request l _ tag p (·.bodySetTableLock p)⟩
  | commit l tag p => exact ⟨_, rfl, h.handled l _ tag p (·.commitTaken l tag)⟩
  | serviceClear l tag p => exact ⟨_, rfl, h.request l _ tag p (·.bodyServiceClear p)⟩
  | resetLampWear l tag p => exact ⟨_, rfl, h.request l _ tag p (·.bodyResetLampWear p)⟩
  | restartReset => exact exec_restartReset_driven h
  | supplyApplied | supplyDip | resetLine => exact ⟨_, rfl, s.startUp_driven _⟩
  | keyPress k => exact ⟨_, rfl, State.driven.press (s := { s with keypad := s.keypad.set k true }) h k .panel⟩
  | keyRelease k => exact ⟨_, rfl, h.of_same⟩
  | keyRepeat k => exact exec_keyRepeat_driven h k
  | remoteCode address command again => exact exec_remoteCode_driven h address command again
  | confirmationWindowExpiry => exact ⟨_, rfl, h.closeWindow _⟩
  | holdExpiry => exact ⟨_, rfl, h.endHold _⟩
  | litSense x => exact exec_litSense_driven h x
  | strikeWindowExpiry x => exact exec_strikeWindowExpiry_driven h x
  | retryWaitExpiry x => exact exec_retryWaitExpiry_driven h x
  | retryHoldReached x => exact exec_retryHoldReached_driven h x
  | ballastFault x => exact exec_ballastFault_driven h x
  | warmupExpiry x weak => exact exec_warmupExpiry_driven h x weak
  | cooldownExpiry x => exact exec_cooldownExpiry_driven h x
  | holdReached x => exact exec_holdReached_driven h x
  | litSecond x => exact exec_litSecond_driven h x
  | thermalAlarm => exact exec_thermalAlarm_driven h
  | thermalInputRelease => exact ⟨_, rfl, h.of_same⟩
  | atLevel x => exact ⟨_, rfl, h.setLamp x _ rfl fun k => ⟨k.1, fun _ => rfl⟩⟩
  | atLevelRelease x | ballastFaultRelease x => exact ⟨_, rfl, h.setLamp x _⟩
  | wakeTimerExpiry x => exact exec_wakeTimerExpiry_driven h x
  | measurement i sync width height rate => exact exec_measurement_driven h i sync width height rate
  | acquireTimeout i => exact exec_acquireTimeout_driven h i
  | blankEnd => exact exec_blankEnd_driven h
  | settleExpiry => exact exec_settleExpiry_driven h
  | deferralExpiry => exact ⟨_, rfl, h.dropPending _⟩
  | sourceHoldExpiry => exact exec_sourceHoldExpiry_driven h
  | lossGraceExpiry => exact exec_lossGraceExpiry_driven h
  | idleExpiry => exact exec_idleExpiry_driven h
  | autoOffExpiry => exact exec_autoOffExpiry_driven h
  | scanInterval g samples => exact exec_scanInterval_driven h g samples
  | minuteStart => exact exec_minuteStart_driven h
  | clockEnd => exact exec_clockEnd_driven h
  | settingsWriteEnd => exact exec_settingsWriteEnd_driven h
  | lampWriteEnd => exact exec_lampWriteEnd_driven h

theorem Lamp.driven.tick {v : LampLevel} {m : Lamp} (h : m.driven v) : m.tick.driven v :=
  ⟨h.1, fun dark => by
    show m.wakeTimer.tick = none
    rw [h.2 dark]
    rfl⟩

/-- Only the switch unit's timers run on in an idle millisecond. -/
theorem SwitchUnit.drive_tick (v : SwitchUnit) : v.tick.drive = v.drive.tick := by
  unfold SwitchUnit.drive SwitchUnit.tick
  cases v.inFlight <;> rfl

theorem State.driven.tick (h : s.driven) : s.tick.driven := by
  obtain ⟨a, b, fan, sw⟩ := h
  exact ⟨a.tick, b.tick, fan, (congrArg SwitchUnit.tick sw).trans s.sw.drive_tick.symm⟩

/-- Settles O56: an idle step leaves the lines to the states behind them, and so does every command (`exec_driven`). -/
theorem everyStepKeepsTheLinesDriven : Obligations.EveryStepKeepsTheLinesDriven := by
  intro s t lines ran
  have h := s.driven_iff.mpr lines
  rw [← State.driven_iff]
  unfold step at ran
  split at ran
  · obtain rfl := Host.Outcome.next.inj ran
    exact h.tick
  · rename_i c rest _
    obtain ⟨t', ran', driven⟩ := exec_driven c (s := { s with pending := rest }) h
    obtain rfl : t' = t := Host.Outcome.next.inj (ran'.symm.trans ran)
    exact driven

end Sys2Proof.Machine
end

section
/-! PROOFS. What an entry to a power state and a lamp event leave of the lamps and of the power unit: the power state and
the degraded mark follow the lamps, and all else that a lamp event reads stays as it was (R164, R165). -/

set_option Elab.async false

namespace Sys2Proof.Machine

variable {s t u : State} {x y : LampId}

/-! ## Changes that leave the lamps and the power state alone -/

/-- Only the links, the window, the credential hold, the source path, the scan groups and the power unit's timers with the
idle-expired mark differ: the lamps with their lines, thermal recovery, the power state and the intent are as they
were. -/
def State.calm (s t : State) : Prop :=
  t =
    { s with
      control := t.control, lectern := t.lectern, window := t.window, hold := t.hold, inputs := t.inputs, sw := t.sw
      geo := t.geo, scaler := t.scaler, scan := t.scan
      power := { s.power with
        idle := t.power.idle, autoOff := t.power.autoOff, idleExpired := t.power.idleExpired } }

theorem State.calm.refl (s : State) : s.calm s := rfl

theorem State.calm.trans (h : s.calm t) (k : t.calm u) : s.calm u := by
  refine Eq.trans k ?_
  rw [h]

theorem State.linksOnly.calm (h : s.linksOnly t) : s.calm t := by
  cases s; cases t
  simp only [State.linksOnly, State.calm, State.mk.injEq] at *
  simp_all

theorem State.calm.lamp (h : s.calm t) (x : LampId) : t.lamp x = s.lamp x := by
  cases x <;> (rw [h]; rfl)
theorem State.calm.lampA (h : s.calm t) : t.lampA = s.lampA := h.lamp .a
theorem State.calm.lampB (h : s.calm t) : t.lampB = s.lampB := h.lamp .b
theorem State.calm.fan (h : s.calm t) : t.fan = s.fan := by rw [h]
theorem State.calm.recovery (h : s.calm t) : t.recovery = s.recovery := by rw [h]
theorem State.calm.lastStruck (h : s.calm t) : t.lastStruck = s.lastStruck := by rw [h]
theorem State.calm.latch (h : s.calm t) : t.latch = s.latch := by rw [h]
theorem State.calm.thermalInput (h : s.calm t) : t.thermalInput = s.thermalInput := by rw [h]
theorem State.calm.conf (h : s.calm t) : t.conf = s.conf := by rw [h]
theorem State.calm.state (h : s.calm t) : t.power.state = s.power.state := by rw [h]
theorem State.calm.intent (h : s.calm t) : t.power.intent = s.power.intent := by rw [h]
theorem State.calm.intentClass (h : s.calm t) : t.power.intentClass = s.power.intentClass := by rw [h]
theorem State.calm.intentPriority (h : s.calm t) : t.power.intentPriority = s.power.intentPriority := by rw [h]
theorem State.calm.degraded (h : s.calm t) : t.power.degraded = s.power.degraded := by rw [h]

theorem State.reportPower_calm (s : State) (p : PowerState) (c : PowerCause) (o : PowerOutcome) :
    s.calm (s.reportPower p c o) := rfl
theorem State.retestIdle_calm (s : State) : s.calm s.retestIdle := rfl
theorem State.leaveMark_calm (s : State) : s.calm s.leaveMark := rfl
theorem State.putSwitch_calm (s : State) (v : SwitchUnit) : s.calm (s.putSwitch v) := rfl
theorem State.runPicture_calm (s : State) : s.calm s.runPicture := rfl
theorem State.stopScan_calm (s : State) : s.calm s.stopScan := rfl
theorem State.startScan_calm (s : State) : s.calm s.startScan := rfl

theorem State.closeWindow_calm (s : State) (e : ConfirmEvent) : s.calm (s.closeWindow e) := by
  unfold State.closeWindow
  split <;> rfl
theorem State.endHold_calm (s : State) (c : CredCause) : s.calm (s.endHold c) := by
  unfold State.endHold
  split <;> rfl
theorem State.dueUpdate_calm (s : State) (c : GeoCause) : s.calm (s.dueUpdate c) := by
  unfold State.dueUpdate
  split <;> rfl
theorem State.sourceEvent_calm (s : State) : s.calm s.sourceEvent := s.runPicture_calm.trans (State.dueUpdate_calm _ _)

theorem State.retestWatch_calm (s : State) : s.calm s.retestWatch := by
  unfold State.retestWatch
  split
  · split <;> rfl
  · rfl

/-- Outside DIMMED the power unit's sight of the source moves its timers and its mark alone. -/
theorem State.signalReturned_calm (lit : s.power.state ≠ .dimmed) : s.calm s.signalReturned := by
  unfold State.signalReturned
  split
  · exact absurd ‹_› lit
  · split
    · exact s.leaveMark_calm
    · exact s.retestIdle_calm
  all_goals exact s.retestIdle_calm

theorem State.sourceSeen_calm (lit : s.power.state ≠ .dimmed) (b : Bool) : s.calm (s.sourceSeen b) := by
  unfold State.sourceSeen
  split
  · exact State.signalReturned_calm lit
  · exact s.retestIdle_calm

theorem State.startPending_calm (s : State) : s.calm s.startPending := by
  unfold State.startPending
  split
  · rfl
  · dsimp only
    split
    · rfl
    · exact ((s.putSwitch_calm _).trans (State.putSwitch_calm _ _)).trans (State.retestWatch_calm _)

theorem State.completeSwitch_calm (lit : s.power.state ≠ .dimmed) (w : Switch) (o : SwitchOutcome) :
    s.calm (s.completeSwitch w o) := by
  let sent := ((s.putSwitch
    { s.sw with selected := w.target, inFlight := none, hold := s.holdFor w.target w.cls w.priority }).runPicture.reportSwitch
      w.target o w.cls w.priority w.origin).sendUpdate .source true
  have watched : s.calm sent.retestWatch := State.calm.trans (t := sent) rfl sent.retestWatch_calm
  exact (watched.trans (State.sourceSeen_calm (by rw [watched.state]; exact lit) _)).trans (State.startPending_calm _)

theorem State.dropSwitch_calm (s : State) : s.calm s.dropSwitch := by
  unfold State.dropSwitch
  split <;> rfl
theorem State.dropPending_calm (s : State) (o : SwitchOutcome) : s.calm (s.dropPending o) := by
  unfold State.dropPending
  split <;> rfl
theorem State.stopSwitching_calm (s : State) : s.calm s.stopSwitching :=
  (s.dropSwitch_calm.trans (State.dropPending_calm _ _)).trans (State.putSwitch_calm _ _)

theorem State.awaitedSignal_calm (lit : s.power.state ≠ .dimmed) (i : InputId) : s.calm (s.awaitedSignal i) := by
  unfold State.awaitedSignal
  split
  · rfl
  · split
    · split
      case h_1 | h_2 | h_3 => exact State.completeSwitch_calm lit _ _
      all_goals rfl
    · rfl

theorem State.signalChange_calm (lit : s.power.state ≠ .dimmed) (i : InputId) (r : InputRecord) (c : InputCause) :
    s.calm (s.signalChange i r c) := by
  let told := (s.setInput i r).reportInput i (s.input i).signal c
  have reported : s.calm told := rfl
  have switched : s.calm (told.awaitedSignal i).retestWatch :=
    (reported.trans (State.awaitedSignal_calm (s := told) lit i)).trans (State.retestWatch_calm _)
  have sourced := switched.trans (State.sourceEvent_calm _)
  unfold State.signalChange
  dsimp only
  split
  · exact sourced.trans (State.sourceSeen_calm (by rw [sourced.state]; exact lit) _)
  · exact switched

theorem State.foldl_calm (f : State → InputId → State)
    (kept : ∀ {s : State} (i : InputId), s.power.state ≠ .dimmed → s.calm (f s i)) (is : List InputId)
    (lit : s.power.state ≠ .dimmed) : s.calm (is.foldl f s) := by
  induction is generalizing s with
  | nil => rfl
  | cons i is ih =>
    have first := kept i lit
    exact first.trans (ih (by rw [first.state]; exact lit))

theorem State.sleepInputs_calm (lit : s.power.state ≠ .dimmed) : s.calm s.sleepInputs :=
  State.foldl_calm _ (fun i lit => by
    unfold State.sleepInput
    split
    · rfl
    · exact State.signalChange_calm lit _ _ _) _ lit

theorem State.wakeInputs_calm (lit : s.power.state ≠ .dimmed) : s.calm s.wakeInputs :=
  State.foldl_calm _ (fun _ lit => State.signalChange_calm lit _ _ _) _ lit

/-! ## Entries to the power states (R165) -/

/-- An update of the power unit's timers and mark alone. -/
theorem State.setPower_calm (s : State) (p : PowerUnit) (state : p.state = s.power.state := by rfl)
    (intent : p.intent = s.power.intent := by rfl) (cls : p.intentClass = s.power.intentClass := by rfl)
    (priority : p.intentPriority = s.power.intentPriority := by rfl)
    (degraded : p.degraded = s.power.degraded := by rfl) : s.calm (s.setPower p) := by
  cases p
  simp only [State.calm, State.setPower] at *
  subst_vars
  rfl

theorem State.enterOn_calm (s : State) (c : PowerCause) (o : PowerOutcome) :
    (s.setPower { s.power with state := .on }).calm (s.enterOn c o) :=
  ((State.retestIdle_calm _).trans (State.retestWatch_calm _)).trans (State.reportPower_calm _ _ _ _)

theorem State.enterStarting_calm (s : State) (c : PowerCause) (o : PowerOutcome) :
    (s.setPower { s.power with state := .starting }).calm (s.enterStarting c o) := by
  unfold State.enterStarting
  dsimp only
  refine State.calm.trans ?_ (State.reportPower_calm _ _ _ _)
  split
  · exact (State.stopScan_calm _).trans (State.wakeInputs_calm (show PowerState.starting ≠ .dimmed by decide))
  case h_2 | h_3 => exact (State.setPower_calm _ _).trans (State.retestWatch_calm _)
  all_goals rfl

/-- The entry to STARTING leaves the window and the credential hold. -/
theorem State.enterStarting_window (s : State) (c : PowerCause) (o : PowerOutcome) :
    (s.enterStarting c o).window = s.window ∧ (s.enterStarting c o).hold = s.hold := by
  unfold State.enterStarting
  simp only [State.reportPower, State.offer_window, State.offer_hold]
  split
  · rw [State.wakeInputs_frame]
    exact ⟨rfl, rfl⟩
  case h_2 | h_3 =>
    rw [State.retestWatch_frame]
    exact ⟨rfl, rfl⟩
  all_goals exact ⟨rfl, rfl⟩

/-- STANDBY clears the degraded mark, and leaves the lamps. -/
theorem State.enterStandby_calm (s : State) (c : PowerCause) :
    (s.setPower { s.power with state := .standby, degraded := false }).calm (s.enterStandby c) := by
  let off := s.setPower { s.power with state := .standby, degraded := false }
  have reported : off.calm
      (((off.sleepInputs.closeWindow .cancelledState).startScan).reportPower s.power.state c .none) :=
    (((State.sleepInputs_calm (show PowerState.standby ≠ .dimmed by decide)).trans (State.closeWindow_calm _ _)).trans
      (State.startScan_calm _)).trans (State.reportPower_calm _ _ _ _)
  unfold State.enterStandby
  dsimp only
  split
  · exact reported.trans (State.endHold_calm _ _)
  · exact reported

/-- STOPPING clears the degraded mark and stops the wake timers. -/
theorem State.enterStopping_calm (s : State) (c : PowerCause) (o : PowerOutcome) :
    (s.setPower { s.power with state := .stopping, degraded := false }).stopWake.calm (s.enterStopping c o) := by
  let entered := (s.setPower { s.power.stopTimers with state := .stopping, degraded := false }).stopWake
  have begun : (s.setPower { s.power with state := .stopping, degraded := false }).stopWake.calm entered := rfl
  exact ((begun.trans entered.stopSwitching_calm).trans (State.closeWindow_calm _ _)).trans
    (State.reportPower_calm _ _ _ _)

/-- SHUTDOWN clears the degraded mark and stops the wake timers. -/
theorem State.enterShutdown_calm (s : State) (c : PowerCause) :
    (s.setPower { s.power with state := .shutdown, degraded := false }).stopWake.calm (s.enterShutdown c) := by
  let entered := (s.setPower { s.power.stopTimers with state := .shutdown, degraded := false }).stopWake.stopScan
  have begun : (s.setPower { s.power with state := .shutdown, degraded := false }).stopWake.calm entered := rfl
  have awake : entered.power.state ≠ .dimmed := nofun
  have slept : entered.calm entered.sleepInputs := State.sleepInputs_calm awake
  unfold State.enterShutdown
  exact ((begun.trans slept).trans (entered.sleepInputs.closeWindow_calm _)).trans (State.reportPower_calm _ _ _ _)

/-! ## The tests on lamp events (R164) -/

/-- A lamp that is neither alight nor cooling, as STANDBY asks (R164). -/
theorem LampState.not_busy_iff (p : LampState) :
    ¬ p.busy = true ↔ p ∈ [LampState.dark, .retryWait, .hot, .out] := by
  cases p <;> decide

/-- STOPPING goes on to STANDBY exactly where recovery is clear and no lamp is alight or cooling (R164). -/
def State.mayRest (s : State) : Prop :=
  s.recovery = false ∧ s.lampA.state ∈ [LampState.dark, .retryWait, .hot, .out]
    ∧ s.lampB.state ∈ [LampState.dark, .retryWait, .hot, .out]

theorem State.tryStandby_of_mayRest (stopping : s.power.state = .stopping) (rests : s.mayRest) :
    s.tryStandby = s.enterStandby .lamps := by
  obtain ⟨cool, a, b⟩ := rests
  exact if_pos ⟨stopping, by simp [cool], (LampState.not_busy_iff _).mpr a, (LampState.not_busy_iff _).mpr b⟩

theorem State.tryStandby_of_not_mayRest (busy : ¬ s.mayRest) : s.tryStandby = s :=
  if_neg fun ⟨_, cool, a, b⟩ =>
    busy ⟨Bool.eq_false_iff.mpr cool, (LampState.not_busy_iff _).mp a, (LampState.not_busy_iff _).mp b⟩

theorem State.tryStandby_of_other (other : s.power.state ≠ .stopping) : s.tryStandby = s :=
  if_neg fun h => other h.1

end Sys2Proof.Machine
end

section
/-! PROOFS. The lamp channels, operation by operation: what a move, an incident, a threshold test, a checkpoint and a
strike make of the lamp, and that each leaves the other lamp as it was (R67, R72, R91, R96, R100, R106). -/

set_option Elab.async false

namespace Sys2Proof.Machine

variable {s t : State} {x : LampId}

/-! ## Moves, incidents and checkpoints -/

theorem otherLamp_ne (x : LampId) : otherLamp x ≠ x := by cases x <;> nofun

@[simp] theorem otherLamp_otherLamp (x : LampId) : otherLamp (otherLamp x) = x := by cases x <;> rfl

/-- Every lamp is a given one or its partner. -/
theorem lamp_cases (x y : LampId) : y = x ∨ y = otherLamp x := by cases x <;> cases y <;> simp [otherLamp]

/-- A lamp record as a move leaves it: the demand and the wake timer follow the state, and a checkpoint restarts the lit
seconds (R67, R100, R170). -/
def State.moved (s : State) (checkpointed : Bool) (m : Lamp) : Lamp :=
  { m with
    demand := demandOf m.state s.conf.lampLevel
    wakeTimer := if m.state = .lit then m.wakeTimer else none
    litSeconds := if checkpointed then 0 else m.litSeconds }

@[simp] theorem State.lamp_checkpointFor_same (s : State) (x : LampId) :
    (s.checkpointFor x).lamp x = { s.lamp x with litSeconds := 0 } := by
  simp [State.checkpointFor]

@[simp] theorem State.partner_checkpointFor (s : State) (x : LampId) :
    (s.checkpointFor x).lamp (otherLamp x) = s.lamp (otherLamp x) := by
  rw [State.checkpointFor, State.lamp_checkpoint, State.lamp_setLamp_other _ (otherLamp_ne x)]

@[simp] theorem State.partner_setLamp (s : State) (x : LampId) (m : Lamp) :
    (s.setLamp x m).lamp (otherLamp x) = s.lamp (otherLamp x) := s.lamp_setLamp_other (otherLamp_ne x) m

@[simp] theorem State.partner_putLamp (s : State) (x : LampId) (m : Lamp) :
    (s.putLamp x m).lamp (otherLamp x) = s.lamp (otherLamp x) := s.lamp_putLamp_other (otherLamp_ne x) m

@[simp] theorem State.partner_moveLamp (s : State) (x : LampId) (f : Lamp → Lamp) (b : Bool) (c : LampCause) :
    (s.moveLamp x f b c).lamp (otherLamp x) = s.lamp (otherLamp x) := s.lamp_moveLamp_other (otherLamp_ne x) f b c

@[simp] theorem State.lamp_moveLamp_same (s : State) (x : LampId) (f : Lamp → Lamp) (b : Bool) (c : LampCause) :
    (s.moveLamp x f b c).lamp x = s.moved b (f (s.lamp x)) := by
  unfold State.moveLamp State.reportLamp State.moved
  cases b <;> simp

@[simp] theorem State.lamp_condition_same (s : State) (x : LampId) (k : IncidentKind) :
    (s.condition x k).lamp x
      = { s.lamp x with history := (s.incidentOf x k :: (s.lamp x).history).take Config.historyPlaces } := by
  simp [State.condition]

@[simp] theorem State.partner_condition (s : State) (x : LampId) (k : IncidentKind) :
    (s.condition x k).lamp (otherLamp x) = s.lamp (otherLamp x) := by
  simp [State.condition]

/-- A checkpoint begins a lamp write, or takes the waiting place of the one in flight (R193). -/
theorem State.checkpoint_requested (s : State) :
    s.checkpoint.lampWrite.isSome = true ∧ (s.lampWrite.isSome = true → s.checkpoint.waitingCheckpoint = true) := by
  unfold State.checkpoint State.beginLampWrite
  cases s.lampWrite <;> simp

/-! ## The thresholds (R96, R106) -/

/-- A lamp's history receives records, the first of them first, and each is reported (R106 to R108). -/
def State.noted (s : State) (x : LampId) (is : List Incident) : State :=
  (s.setLamp x { s.lamp x with
    history := if is = [] then (s.lamp x).history
      else (is.reverse ++ (s.lamp x).history).take Config.historyPlaces }).offers (is.map (.incident x))

theorem State.noted_nil (s : State) (x : LampId) : s.noted x [] = s := s.setLamp_lamp x

theorem State.condition_noted (s : State) (x : LampId) (k : IncidentKind) :
    s.condition x k = s.noted x [s.incidentOf x k] := rfl

theorem State.setLamp_setLamp (s : State) (x : LampId) (m n : Lamp) : (s.setLamp x m).setLamp x n = s.setLamp x n := by
  cases x <;> rfl

@[simp] theorem State.lamp_noted_same (s : State) (x : LampId) (is : List Incident) :
    (s.noted x is).lamp x = { s.lamp x with
      history := if is = [] then (s.lamp x).history
        else (is.reverse ++ (s.lamp x).history).take Config.historyPlaces } := by
  simp [State.noted]

@[simp] theorem State.partner_noted (s : State) (x : LampId) (is : List Incident) :
    (s.noted x is).lamp (otherLamp x) = s.lamp (otherLamp x) := by
  simp [State.noted]

/-- A history cut to its places and joined again keeps no more than its places. -/
theorem take_append_take {α : Type} (n : Nat) (xs ys : List α) : (xs ++ ys.take n).take n = (xs ++ ys).take n := by
  rw [List.take_append, List.take_append, List.take_take, Nat.min_eq_left (Nat.sub_le _ _)]

theorem State.offers_setLamp (s : State) (rs : List Report) (x : LampId) (m : Lamp) :
    (s.offers rs).setLamp x m = (s.setLamp x m).offers rs :=
  State.offers_map (fun u => u.setLamp x m) (fun _ _ => by cases x <;> rfl) s rs

theorem State.noted_noted (s : State) (x : LampId) (is js : List Incident) :
    (s.noted x is).noted x js = s.noted x (is ++ js) := by
  have history : ∀ h : List Incident,
      (if js = [] then (if is = [] then h else (is.reverse ++ h).take Config.historyPlaces)
        else (js.reverse ++ (if is = [] then h else (is.reverse ++ h).take Config.historyPlaces)).take
          Config.historyPlaces)
        = if is ++ js = [] then h else ((is ++ js).reverse ++ h).take Config.historyPlaces := by
    intro h
    cases js with
    | nil => simp
    | cons j js =>
      cases is with
      | nil => simp
      | cons i is => simpa using (take_append_take _ ((j :: js).reverse) ((i :: is).reverse ++ h))
  rw [State.noted, State.lamp_noted_same, history, State.noted, State.noted, State.offers_setLamp,
    State.setLamp_setLamp, List.map_append, State.offers_append]

/-- The records of a condition that arises in some case alone. -/
def State.incidentIf (s : State) (b : Bool) (x : LampId) (k : IncidentKind) : List Incident :=
  if b then [s.incidentOf x k] else []

/-- The notes of a lamp do not reach into the record of its next condition. -/
theorem State.incidentOf_noted (s : State) (x : LampId) (is : List Incident) (k : IncidentKind) :
    (s.noted x is).incidentOf x k = s.incidentOf x k := by
  simp [State.incidentOf, State.dateTime, State.noted]

theorem State.conditionIf_noted (s : State) (x : LampId) (is : List Incident) (b : Bool) (k : IncidentKind) :
    (s.noted x is).conditionIf b x k = s.noted x (is ++ s.incidentIf b x k) := by
  cases b with
  | false => simp [State.conditionIf, State.incidentIf]
  | true =>
    calc (s.noted x is).condition x k = (s.noted x is).noted x [s.incidentOf x k] := by
          rw [State.condition_noted, State.incidentOf_noted]
      _ = s.noted x (is ++ [s.incidentOf x k]) := s.noted_noted x _ _

/-- The crossings that a test of the thresholds finds, in their order (R96). -/
def State.crossings (s : State) (x : LampId) : List Incident :=
  s.incidentIf (decide (s.warningAt ≤ (s.lamp x).wear) && !(s.lamp x).warning) x .wearWarn
    ++ s.incidentIf (decide (s.endAt ≤ (s.lamp x).wear) && !(s.lamp x).endOfLife) x .wearEnd
    ++ s.incidentIf (decide (s.expiryAt ≤ (s.lamp x).wear) && !(s.lamp x).expired) x .expired

theorem State.incidentIf_flagged (s : State) (x : LampId) (b : Bool) (k : IncidentKind) :
    (s.setLamp x (s.flagged (s.lamp x))).incidentIf b x k = s.incidentIf b x k := by
  simp [State.incidentIf, State.incidentOf, State.flagged, State.dateTime]

/-- A test of the thresholds sets the flags by the wear and notes each crossing. -/
theorem State.testThresholds_noted (s : State) (x : LampId) :
    s.testThresholds x = (s.setLamp x (s.flagged (s.lamp x))).noted x (s.crossings x) := by
  have start (b : Bool) (k : IncidentKind) := (s.setLamp x (s.flagged (s.lamp x))).conditionIf_noted x [] b k
  rw [State.noted_nil] at start
  unfold State.testThresholds
  dsimp only
  rw [start, State.conditionIf_noted, State.conditionIf_noted]
  simp only [State.incidentIf_flagged, List.nil_append]
  rfl

theorem State.lamp_testThresholds_same (s : State) (x : LampId) :
    (s.testThresholds x).lamp x = { s.flagged (s.lamp x) with
      history := if s.crossings x = [] then (s.lamp x).history
        else ((s.crossings x).reverse ++ (s.lamp x).history).take Config.historyPlaces } := by
  rw [State.testThresholds_noted, State.lamp_noted_same, State.lamp_setLamp_same]
  rfl

@[simp] theorem State.partner_testThresholds (s : State) (x : LampId) :
    (s.testThresholds x).lamp (otherLamp x) = s.lamp (otherLamp x) := by
  simp [State.testThresholds_noted]

@[simp] theorem State.partner_addWear (s : State) (x : LampId) (n : Nat) :
    (s.addWear x n).lamp (otherLamp x) = s.lamp (otherLamp x) := by
  simp [State.addWear]

end Sys2Proof.Machine
end

section
/-! PROOFS. SET_LAMP_LEVEL and the service requests of a lamp (R67, R83, R90, R103, R117; O35, O24). -/

set_option Elab.async false

namespace Sys2Proof.Machine

variable {s t : State} {x : LampId}

/-! ## Moves without a checkpoint -/

/-- Only the links, the lamps and the fan line differ: what the moves that store nothing can reach. -/
def State.linesOnly (s t : State) : Prop :=
  t = { s with control := t.control, lectern := t.lectern, lampA := t.lampA, lampB := t.lampB, fan := t.fan }

theorem State.linesOnly.refl (s : State) : s.linesOnly s := rfl

theorem State.linesOnly.trans {u : State} (h : s.linesOnly t) (k : t.linesOnly u) : s.linesOnly u := by
  refine Eq.trans k ?_
  rw [h]

theorem State.moveLamp_lines (s : State) (x : LampId) (f : Lamp → Lamp) (c : LampCause) :
    s.linesOnly (s.moveLamp x f false c) := by
  cases x <;> rfl

theorem State.relevelLamp_lines (s : State) (x : LampId) : s.linesOnly (s.relevelLamp x) := by
  unfold State.relevelLamp
  split
  · exact s.moveLamp_lines x id .level
  · rfl

/-! ## The lamp level (O35) -/

/-- A lamp as the level in force leaves it: in LIT it takes the demand of the level (R90). -/
def Lamp.levelled (v : LampLevel) (m : Lamp) : Lamp := if m.state = .lit then { m with demand := demandOf .lit v } else m

theorem State.lamp_relevelLamp_same (s : State) (x : LampId) :
    (s.relevelLamp x).lamp x = (s.lamp x).levelled s.conf.lampLevel := by
  unfold State.relevelLamp Lamp.levelled
  split
  · rename_i lit
    simp [State.moved, lit]
  · rfl

@[simp] theorem State.partner_relevelLamp (s : State) (x : LampId) :
    (s.relevelLamp x).lamp (otherLamp x) = s.lamp (otherLamp x) := by
  unfold State.relevelLamp
  split
  · exact s.partner_moveLamp x _ _ _
  · rfl

/-- Both lamps take the level, whichever is asked. -/
theorem State.lamp_relevelled (s : State) (x : LampId) :
    ((s.relevelLamp .a).relevelLamp .b).lamp x = (s.lamp x).levelled s.conf.lampLevel := by
  cases x with
  | a => exact (State.partner_relevelLamp _ .b).trans (s.lamp_relevelLamp_same .a)
  | b =>
    rw [State.lamp_relevelLamp_same, (s.relevelLamp_frame .a).conf]
    exact congrArg (Lamp.levelled _) (s.partner_relevelLamp .a)

theorem LampLevel.arg_code (v : LampLevel) : LampLevel.ofCode (arg [byte v.code] 0) = some v := by cases v <;> rfl

/-- Settles O35: the two releveled lamps, one after the other. -/
theorem lampLevelReachesTheLampsInLit : Obligations.LampLevelReachesTheLampsInLit := by
  intro s l tag v t pr u takes permits
  have ran : exec (.setLampLevel l tag [byte v.code]) s
      = .next ((u.takeLevel v).2.answer l 0x17 tag (u.takeLevel v).1) := by
    show Host.Outcome.next (s.operational l 0x17 tag [byte v.code] ((LampLevel.ofCode _).map .setLampLevel)) = _
    rw [LampLevel.arg_code, Option.map_some, State.operational_permitted takes rfl rfl permits]
    rfl
  rw [ran]
  unfold State.takeLevel
  refine ⟨fun down => ?_, fun up => ?_⟩
  · rw [if_pos down]
    rfl
  · let levelled : State := { u with conf := { u.conf with lampLevel := v } }
    rw [if_neg up]
    refine ⟨_, rfl, ?_, fun same => if_pos same, fun other => ?_⟩
    · dsimp only
      split
      · rename_i same
        rw [same]
      · exact ((levelled.relevelLamp_frame .a).trans (State.relevelLamp_frame _ .b)).conf
    · dsimp only
      rw [if_neg other]
      have lines := (levelled.relevelLamp_lines .a).trans (State.relevelLamp_lines _ .b)
      refine ⟨?_, fun x => ?_⟩
      · have conf : ((levelled.relevelLamp .a).relevelLamp .b).conf = levelled.conf := by rw [lines]
        rw [conf]
        exact lines
      · rw [levelled.lamp_relevelled x]
        unfold Lamp.levelled
        cases x <;> cases v <;> rfl

/-! ## The service requests of a lamp (O24) -/

/-- A lamp returned to service in HOT, its hold counted from now (R83). -/
def Lamp.served (m : Lamp) : Lamp :=
  { m with state := .hot, demand := .off, out := false, since := 0, called := false, pendingOff := false
           waiting := false, timer := none, wakeTimer := none }

theorem State.lamp_serviceLamp_same (s : State) (x : LampId) : (s.serviceLamp x).lamp x = (s.lamp x).served := by
  unfold State.serviceLamp
  rw [State.lamp_moveLamp_same]
  rfl

@[simp] theorem State.partner_serviceLamp (s : State) (x : LampId) :
    (s.serviceLamp x).lamp (otherLamp x) = s.lamp (otherLamp x) := s.partner_moveLamp x _ _ _

theorem State.serviceLamp_lines (s : State) (x : LampId) : s.linesOnly (s.serviceLamp x) := s.moveLamp_lines x _ _

theorem lampOf_arg_lampCode (x : LampId) : lampOf (arg [byte (lampCode x)] 0) = some x := by cases x <;> rfl

/-- A management request of its length under a TECH hold is decided by its body. -/
theorem State.request_tech {l : Link} {kind tag : Byte} {payload : List Byte}
    (takes : s.linkTakes l ⟨kind, tag, payload⟩ t) (tech : t.techHold = true) (body : State → Taken)
    (n : requestLength kind = some payload.length) (other : kind ≠ 0x3D) :
    s.request l kind tag payload body
      = (body t).2.reply l ⟨replyKind kind, tag, (body t).1.result, (body t).1.payload⟩ :=
  State.request_served body takes (State.management_passes n other (.inr tech) (.inr tech))

theorem State.bodyServiceClear_lamp (s : State) (x : LampId) :
    s.bodyServiceClear [byte (lampCode x)] = s.clearLamp x := by
  unfold State.bodyServiceClear
  rw [if_neg (by cases x <;> decide), lampOf_arg_lampCode]

/-- A request that changes lamp `x` to `n`, leaves the other, and asks for a checkpoint. -/
structure State.servesLamp (s : State) (x : LampId) (n : Lamp) (t : State) : Prop where
  frame : s.lampsOnly t
  partner : t.lamp (otherLamp x) = s.lamp (otherLamp x)
  asked : t.lampWrite.isSome = true
  waits : s.lampWrite.isSome = true → t.waitingCheckpoint = true
  lamp : t.lamp x = n

/-- A checkpoint asked for after a change of the one lamp. -/
theorem State.servesLamp.of_checkpoint {n : Lamp} (frame : s.lampsOnly t) (write : t.lampWrite = s.lampWrite)
    (partner : t.lamp (otherLamp x) = s.lamp (otherLamp x)) (lamp : t.lamp x = n) : s.servesLamp x n t.checkpoint where
  frame := frame.trans t.checkpoint_frame
  partner := by rw [State.lamp_checkpoint, partner]
  asked := t.checkpoint_requested.1
  waits := by
    rw [← write]
    exact t.checkpoint_requested.2
  lamp := by rw [State.lamp_checkpoint, lamp]

/-- SERVICE_CLEAR of a lamp (R117). -/
theorem State.clearLamp_out (out : (s.lamp x).state = .out) :
    ∃ u, s.clearLamp x = (⟨.ok, u.lampRecordBytes x⟩, u) ∧ s.servesLamp x (s.lamp x).served u := by
  refine ⟨(s.serviceLamp x).checkpoint, ?_, .of_checkpoint (s.serviceLamp_frame x) ?_ (s.partner_serviceLamp x)
    (s.lamp_serviceLamp_same x)⟩
  · unfold State.clearLamp
    rw [out]
  · rw [s.serviceLamp_lines x]

theorem State.clearLamp_inService (state : (s.lamp x).state = .dark ∨ (s.lamp x).state = .hot) :
    ∃ u, s.clearLamp x = (⟨.ok, u.lampRecordBytes x⟩, u) ∧ s.servesLamp x { s.lamp x with wakeLate := 0 } u := by
  refine ⟨(s.setLamp x { s.lamp x with wakeLate := 0 }).checkpoint, ?_, .of_checkpoint (s.setLamp_frame x _) (by simp)
    (s.partner_setLamp x _) (s.lamp_setLamp_same x _)⟩
  unfold State.clearLamp
  obtain state | state := state
  · rw [state]
  · rw [state]

/-! ### RESET_LAMP_WEAR -/

/-- A lamp with no wear, tested for its thresholds at its renewal (R96, R103). -/
def State.retested (s : State) (x : LampId) : State := (s.setLamp x (s.lamp x).renewed).testThresholds x

/-- The lamp record that a RESET_LAMP_WEAR leaves, the flags and the history as the test of the thresholds gives them. -/
def State.resetWear (s : State) (x : LampId) : Lamp :=
  { if (s.lamp x).state = .out then ((s.retested x).lamp x).served else (s.retested x).lamp x with litSeconds := 0 }

theorem State.bodyResetLampWear_serves (state : (s.lamp x).state = .dark ∨ (s.lamp x).state = .out) :
    ∃ u, s.bodyResetLampWear [byte (lampCode x)] = (⟨.ok, u.lampRecordBytes x⟩, u)
      ∧ s.servesLamp x (s.resetWear x) u := by
  let served := if (s.lamp x).state = .out then (s.retested x).serviceLamp x else s.retested x
  have tested : s.lampsOnly (s.retested x) := (s.setLamp_frame x _).trans (State.testThresholds_frame _ x)
  have write : (s.retested x).lampWrite = s.lampWrite := by
    rw [State.retested, State.testThresholds_noted]
    simp [State.noted]
  have partner : (s.retested x).lamp (otherLamp x) = s.lamp (otherLamp x) := by
    simp [State.retested]
  have done : s.lampsOnly served ∧ served.lampWrite = s.lampWrite
      ∧ served.lamp (otherLamp x) = s.lamp (otherLamp x)
      ∧ served.lamp x = if (s.lamp x).state = .out then ((s.retested x).lamp x).served else (s.retested x).lamp x := by
    by_cases out : (s.lamp x).state = .out
    · simp only [served, if_pos out]
      refine ⟨tested.trans (State.serviceLamp_frame _ x), ?_, ?_, State.lamp_serviceLamp_same _ x⟩
      · rw [(s.retested x).serviceLamp_lines x]
        exact write
      · rw [State.partner_serviceLamp, partner]
    · simp only [served, if_neg out]
      exact ⟨tested, write, partner, trivial⟩
  obtain ⟨frame, write, partner, lamp⟩ := done
  refine ⟨served.checkpointFor x, ?_, .of_checkpoint (frame.trans (served.setLamp_frame x _)) (by simpa using write)
    (by rw [State.partner_setLamp, partner]) (by rw [State.lamp_setLamp_same, lamp]; rfl)⟩
  unfold State.bodyResetLampWear
  rw [lampOf_arg_lampCode]
  exact if_pos state

/-- The renewed record keeps nothing of the wear (R103). -/
theorem State.lamp_retested (s : State) (x : LampId) :
    (s.retested x).lamp x = { (s.lamp x).renewed with
      warning := ((s.retested x).lamp x).warning, endOfLife := ((s.retested x).lamp x).endOfLife
      expired := ((s.retested x).lamp x).expired, history := ((s.retested x).lamp x).history } := by
  rw [State.retested, State.lamp_testThresholds_same, State.lamp_setLamp_same]
  rfl

/-- With a rated life of its range a renewed lamp crosses the warning threshold alone, where the margin is at least the
rated life (R96, R103). -/
theorem State.lamp_retested_rated (life : 500 ≤ s.item 11) (x : LampId) :
    (s.retested x).lamp x = { (s.lamp x).renewed with
      warning := decide (s.item 11 ≤ s.item 12)
      history := if s.item 11 ≤ s.item 12 then [⟨.wearWarn, .note, (s.lamp x).state, 0, s.clock.map (·.now)⟩]
        else [] } := by
  have kept (n : Fin 104) : (s.setLamp x (s.lamp x).renewed).item n = s.item n := by
    unfold State.item
    rw [State.setLamp_conf]
  have warns : (s.setLamp x (s.lamp x).renewed).warningAt ≤ 0 ↔ s.item 11 ≤ s.item 12 := by
    simp only [State.warningAt, kept, Config.unitsPerHour]
    omega
  have lives : ¬ (s.setLamp x (s.lamp x).renewed).endAt ≤ 0 := by
    simp only [State.endAt, kept, Config.unitsPerHour]
    omega
  have lasts : ¬ (s.setLamp x (s.lamp x).renewed).expiryAt ≤ 0 := by
    simp only [State.expiryAt, kept, Config.unitsPerHour]
    omega
  have noWear : (s.lamp x).renewed.wear = 0 := rfl
  have crossed : (s.setLamp x (s.lamp x).renewed).crossings x
      = if s.item 11 ≤ s.item 12 then [⟨.wearWarn, .note, (s.lamp x).state, 0, s.clock.map (·.now)⟩] else [] := by
    simp [State.crossings, State.incidentIf, noWear, warns, lives, lasts, State.incidentOf, IncidentKind.classIn,
      State.dateTime]
    simp [Lamp.renewed]
  rw [State.retested, State.lamp_testThresholds_same, State.lamp_setLamp_same, crossed]
  simp only [State.flagged, noWear, warns, lives, lasts]
  split
  · rfl
  · rfl

/-- Settles O24: the four lamp states of SERVICE_CLEAR, and the renewed lamp of RESET_LAMP_WEAR. -/
theorem lampServiceRequestsRenewTheLamp : Obligations.LampServiceRequestsRenewTheLamp := by
  intro s l tag x t tech
  constructor
  · intro takes
    have ran : exec (.serviceClear l tag [byte (lampCode x)]) s
        = .next ((t.clearLamp x).2.reply l ⟨0xB9, tag, (t.clearLamp x).1.result, (t.clearLamp x).1.payload⟩) := by
      refine (congrArg Host.Outcome.next (State.request_tech takes tech _ rfl (by decide))).trans ?_
      rw [t.bodyServiceClear_lamp x]
      rfl
    rw [ran]
    split
    · rename_i out
      obtain ⟨u, taken, serves⟩ := t.clearLamp_out out
      refine ⟨u, by rw [taken], serves.frame, serves.partner, ⟨serves.asked, serves.waits⟩, ?_⟩
      rw [if_pos out]
      exact serves.lamp
    case h_2 state | h_3 state =>
      obtain ⟨u, taken, serves⟩ := t.clearLamp_inService (x := x) (by simp [state])
      refine ⟨u, by rw [taken], serves.frame, serves.partner, ⟨serves.asked, serves.waits⟩, ?_⟩
      rw [if_neg (by simp [state])]
      exact serves.lamp
    all_goals
      rename_i state
      unfold State.clearLamp
      rw [state]
      rfl
  · intro takes
    have ran : exec (.resetLampWear l tag [byte (lampCode x)]) s
        = .next ((t.bodyResetLampWear [byte (lampCode x)]).2.reply l ⟨0xBA, tag,
            (t.bodyResetLampWear [byte (lampCode x)]).1.result, (t.bodyResetLampWear [byte (lampCode x)]).1.payload⟩) :=
      congrArg Host.Outcome.next (State.request_tech takes tech _ rfl (by decide))
    rw [ran]
    split
    · rename_i state
      obtain ⟨u, taken, serves⟩ := t.bodyResetLampWear_serves state
      refine ⟨u, by rw [taken], serves.frame, serves.partner, serves.asked, ?_⟩
      rw [serves.lamp]
      unfold State.resetWear
      obtain dark | out := state
      · rw [if_neg (by simp [dark]), if_neg (by simp [dark]), t.lamp_retested x]
        refine ⟨rfl, rfl, rfl, rfl, rfl, rfl, dark, fun out => absurd out (by simp [dark]), serves.waits, fun life => ?_⟩
        rw [if_neg (by simp [dark]), t.lamp_retested_rated life]
        rfl
      · rw [if_pos out, if_pos out, t.lamp_retested x]
        refine ⟨rfl, rfl, rfl, rfl, rfl, rfl, rfl, fun _ => rfl, serves.waits, fun life => ?_⟩
        rw [if_pos out, t.lamp_retested_rated life]
        rfl
    · rename_i other
      unfold State.bodyResetLampWear
      rw [lampOf_arg_lampCode]
      dsimp only
      rw [if_neg other]
      rfl

end Sys2Proof.Machine
end

section
/-! PROOFS. Strikes and calls: what a strike, a failed strike, a ballast fault and a call make of the lamp, and that each
leaves the other lamp as it was (R70, R72, R74, R76). -/

set_option Elab.async false

namespace Sys2Proof.Machine

variable {s t u : State} {x : LampId}

/-! ## The other lamp -/

@[simp] theorem State.partner_strikeFailed (s : State) (x : LampId) (b : Bool) :
    (s.strikeFailed x b).1.lamp (otherLamp x) = s.lamp (otherLamp x) := by
  unfold State.strikeFailed
  dsimp only
  split
  · simp
  · split
    · cases b <;> simp
    · split <;> simp

@[simp] theorem State.partner_faultInIgnite (s : State) (x : LampId) :
    (s.faultInIgnite x).1.lamp (otherLamp x) = s.lamp (otherLamp x) := by
  unfold State.faultInIgnite
  split <;> simp

@[simp] theorem State.partner_extinguish (s : State) (x : LampId) (b : Bool) (c : LampCause) :
    (s.extinguish x b c).lamp (otherLamp x) = s.lamp (otherLamp x) := s.partner_moveLamp x _ _ _

/-- A strike as it is entered, before a fault that stands asserted (R72). -/
def State.igniteEntered (s : State) (x : LampId) : State :=
  (({ s.putLamp x (s.lamp x).ignited with lastStruck := some x } : State).addWear x
    Config.strikeCharge).checkpointFor x |>.reportLamp x (s.lamp x).state .strike

theorem State.ignite_eq (s : State) (x : LampId) :
    s.ignite x = if (s.lamp x).faultLine then (s.igniteEntered x).faultInIgnite x else (s.igniteEntered x, false) := rfl

@[simp] theorem State.partner_igniteEntered (s : State) (x : LampId) :
    (s.igniteEntered x).lamp (otherLamp x) = s.lamp (otherLamp x) := by
  unfold State.igniteEntered State.reportLamp
  rw [State.lamp_offer, State.partner_checkpointFor, State.partner_addWear]
  exact s.partner_putLamp x _

@[simp] theorem State.partner_ignite (s : State) (x : LampId) :
    (s.ignite x).1.lamp (otherLamp x) = s.lamp (otherLamp x) := by
  rw [State.ignite_eq]
  split <;> simp

@[simp] theorem State.partner_unavailable (s : State) (x : LampId) :
    (s.unavailable x).1.lamp (otherLamp x) = s.lamp (otherLamp x) := by
  unfold State.unavailable
  split <;> simp

@[simp] theorem State.partner_strike (s : State) (x : LampId) :
    (s.strike x).1.lamp (otherLamp x) = s.lamp (otherLamp x) := by
  unfold State.strike
  split <;> simp

@[simp] theorem State.partner_callLamp (s : State) (x : LampId) :
    (s.callLamp x).1.lamp (otherLamp x) = s.lamp (otherLamp x) := by
  unfold State.callLamp
  dsimp only
  split
  · rfl
  · split
    case h_1 | h_2 => split <;> simp
    case h_3 => simp
    case h_4 | h_5 => split <;> simp
    all_goals rfl

@[simp] theorem State.partner_releaseLamp (s : State) (x : LampId) :
    (s.releaseLamp x).lamp (otherLamp x) = s.lamp (otherLamp x) := by
  unfold State.releaseLamp
  split
  · rfl
  · split <;> simp

@[simp] theorem State.partner_thermalLamp (s : State) (x : LampId) :
    (s.thermalLamp x).lamp (otherLamp x) = s.lamp (otherLamp x) := by
  unfold State.thermalLamp
  split
  case h_6 | h_7 => split <;> simp
  all_goals simp

/-! ## A strike (R72) -/

theorem Lamp.available_iff (m : Lamp) : m.available = true ↔ m.out = false ∧ m.expired = false := by
  simp [Lamp.available]

theorem Lamp.unavailable_iff (m : Lamp) : m.available = false ↔ m.out = true ∨ m.expired = true := by
  simp [Lamp.available, ← Bool.not_eq_true, imp_iff_not_or]

/-- `n` is the lamp `m` as its strike leaves it: the attempt, the strike count, the strike charge with its crossings, and
the strike window (R72, R95). -/
def Lamp.struck (m n : Lamp) : Prop :=
  n = { m with
    state := .ignite, demand := .ignite, attempts := m.attempts + 1, timer := some 2000
    strikeCount := min (m.strikeCount + 1) 65535, wear := min (m.wear + 600) 4294967295
    litSeconds := 0, wakeTimer := none, warning := n.warning, endOfLife := n.endOfLife, expired := n.expired
    history := n.history }

/-- `u` is what a strike of lamp `x` leaves: the lamp struck, the other as it was. -/
structure State.strikesLamp (s : State) (x : LampId) (u : State) : Prop where
  frame : s.lampsOnly u
  partner : u.lamp (otherLamp x) = s.lamp (otherLamp x)
  lastStruck : u.lastStruck = some x
  lamp : (s.lamp x).struck (u.lamp x)

theorem State.lastStruck_checkpointFor (s : State) (x : LampId) : (s.checkpointFor x).lastStruck = s.lastStruck := by
  unfold State.checkpointFor State.checkpoint State.beginLampWrite
  split <;> simp

theorem State.lastStruck_addWear (s : State) (x : LampId) (n : Nat) : (s.addWear x n).lastStruck = s.lastStruck := by
  simp [State.addWear, State.testThresholds_noted, State.noted]

theorem State.igniteEntered_frame (s : State) (x : LampId) : s.lampsOnly (s.igniteEntered x) := by
  let lit : State := { s.putLamp x (s.lamp x).ignited with lastStruck := some x }
  have put : s.lampsOnly lit := by cases x <;> rfl
  exact ((put.trans (State.addWear_frame _ _ _)).trans (State.checkpointFor_frame _ _)).trans
    (State.reportLamp_frame _ _ _ _).toLamps

theorem State.lamp_igniteEntered (s : State) (x : LampId) : (s.lamp x).struck ((s.igniteEntered x).lamp x) := by
  have put : ({ s.putLamp x (s.lamp x).ignited with lastStruck := some x } : State).lamp x
      = s.moved false (s.lamp x).ignited := s.lamp_putLamp_same x _
  unfold State.igniteEntered State.reportLamp State.addWear
  rw [State.lamp_offer, State.lamp_checkpointFor_same, State.lamp_testThresholds_same, State.lamp_setLamp_same, put]
  rfl

theorem State.igniteEntered_strikes (s : State) (x : LampId) : s.strikesLamp x (s.igniteEntered x) where
  frame := s.igniteEntered_frame x
  partner := s.partner_igniteEntered x
  lastStruck := by
    unfold State.igniteEntered State.reportLamp
    rw [State.offer_lastStruck, State.lastStruck_checkpointFor, State.lastStruck_addWear]
  lamp := s.lamp_igniteEntered x

/-- A lamp that is available, its ballast free of a fault, is struck. -/
theorem State.strike_healthy (fit : (s.lamp x).available = true) (sound : (s.lamp x).faultLine = false) :
    ∃ u, s.strike x = (u, false) ∧ s.strikesLamp x u := by
  refine ⟨s.igniteEntered x, ?_, s.igniteEntered_strikes x⟩
  unfold State.strike
  rw [if_pos fit, State.ignite_eq, sound]
  rfl

/-- A lamp that is not available at its strike ends its call, and leaves play (R72, R75). -/
theorem State.strike_unavailable (unfit : (s.lamp x).available = false) :
    s.strike x = (if (s.lamp x).state = .retryWait then s.moveLamp x s.endedDark true .unavailable
      else s.moveLamp x (fun m => { m with called := false, waiting := false }) false .unavailable, true) := by
  unfold State.strike State.unavailable
  rw [unfit, if_neg Bool.false_ne_true]
  split
  · rename_i waits
    rw [if_pos waits]
  · rename_i other
    rw [if_neg other]

/-! ## A call (R70) -/

/-- `u` is what a call of lamp `x` leaves: the lamp called, the other as it was. -/
structure State.callsLamp (s : State) (x : LampId) (u : State) : Prop where
  frame : s.lampsOnly u
  partner : u.lamp (otherLamp x) = s.lamp (otherLamp x)
  lastStruck : u.lastStruck = if (s.lamp x).state = .dark then some x else s.lastStruck
  called : (u.lamp x).called = true
  makes : s.callMakes (s.lamp x) (u.lamp x)

/-- The call of a lamp that can be called. -/
theorem State.callLamp_callable (callable : (s.lamp x).callable) :
    ∃ u, s.callLamp x = (u, false) ∧ s.callsLamp x u := by
  obtain ⟨inService, fresh, state⟩ := callable
  have fit : (!(s.lamp x).available) = false := by simp [Lamp.available, inService, fresh]
  have moved (f : Lamp → Lamp) (u : State) (eq : u = s.moveLamp x f false .call) (light : (s.lamp x).state ≠ .dark)
      (called : (f (s.lamp x)).called = true) (makes : s.callMakes (s.lamp x) (s.moved false (f (s.lamp x)))) :
      s.callsLamp x u := by
    subst eq
    refine ⟨s.moveLamp_frame x _ _ _, s.partner_moveLamp x _ _ _, ?_, ?_, ?_⟩
    · rw [if_neg light, s.moveLamp_lines x f .call]
    · rw [State.lamp_moveLamp_same]
      exact called
    · rw [State.lamp_moveLamp_same]
      exact makes
  unfold State.callLamp
  dsimp only
  rw [fit, if_neg Bool.false_ne_true]
  split
  case h_1 is | h_2 is =>
    rw [is] at state
    refine ⟨_, if_pos state, moved _ _ rfl (by simp [is]) rfl ?_⟩
    simp [State.callMakes, State.moved, is, demandOf]
  case h_3 is =>
    rw [is] at state
    let begun := s.setLamp x (s.newPowerOn (s.lamp x))
    have lamp : begun.lamp x = s.newPowerOn (s.lamp x) := s.lamp_setLamp_same x _
    obtain ⟨u, struck, strikes⟩ := begun.strike_healthy (x := x) (by rw [lamp]; exact (Lamp.available_iff _).mpr ⟨inService, fresh⟩)
      (by rw [lamp]; exact state)
    refine ⟨u, struck, (s.setLamp_frame x _).trans strikes.frame, strikes.partner.trans (s.partner_setLamp x _), ?_, ?_, ?_⟩
    · rw [if_pos is]
      exact strikes.lastStruck
    · rw [strikes.lamp, lamp]
      rfl
    · have made := strikes.lamp
      rw [lamp] at made
      unfold State.callMakes
      rw [is, made]
      exact ⟨rfl, rfl, rfl, rfl, rfl, rfl, rfl, rfl, rfl⟩
  case h_4 is | h_5 is =>
    rw [is] at state
    refine ⟨_, if_neg (by simpa using state), moved _ _ rfl (by simp [is]) rfl ?_⟩
    simp [State.callMakes, State.moved, State.newPowerOn, is, demandOf]
  all_goals
    rename_i is
    rw [is] at state
    exact state.elim

/-- A lamp that is not available is not called. -/
theorem State.callLamp_unavailable (unfit : (s.lamp x).available = false) : s.callLamp x = (s, false) := by
  unfold State.callLamp
  dsimp only
  rw [unfit]
  rfl

end Sys2Proof.Machine
end

section
/-! PROOFS. A lamp event and the failover before it: the power unit follows the lamps, a lamp that has left play hands over
to its partner, and where there is none the projector stops (R85, R89, R164). -/

set_option Elab.async false

namespace Sys2Proof.Machine

variable {s t u v : State} {x : LampId} {told : PlaySignal}

/-! ## The power unit after a lamp event (R164) -/

/-- The power unit goes to a state with a degraded mark, and the lamps stay. -/
def State.becomes (s : State) (p : PowerState) (d : Bool) (v : State) : Prop :=
  (s.setPower { s.power with state := p, degraded := d }).calm v

/-- The degraded mark after a lamp event: set by a DEGRADED signal, and otherwise kept only under DUAL with fewer than two
lamps called. -/
def State.markedBy (s : State) (told : PlaySignal) : Bool :=
  s.power.degraded && decide (s.conf.plan = .dual) && decide (s.calledCount ≠ 2) || told == .degraded

theorem State.calledCount_ne_two (s : State) : decide (s.calledCount ≠ 2) = !(s.lampA.called && s.lampB.called) := by
  unfold State.calledCount
  cases s.lampA.called <;> cases s.lampB.called <;> rfl

theorem State.markedBy_eq (s : State) (told : PlaySignal) :
    s.markedBy told = (decide (told = .degraded) || (s.power.degraded && decide (s.conf.plan = .dual)
      && !(s.lampA.called && s.lampB.called))) := by
  unfold State.markedBy
  rw [State.calledCount_ne_two, Bool.or_comm]
  cases told <;> rfl

theorem State.allCalledLit_iff (s : State) : s.allCalledLit = true ↔ (s.lampA.called = true ∨ s.lampB.called = true)
    ∧ (s.lampA.called = true → s.lampA.state = .lit) ∧ (s.lampB.called = true → s.lampB.state = .lit) := by
  unfold State.allCalledLit State.calledCount
  cases s.lampA.called <;> cases s.lampB.called <;> simp

theorem Lamp.shines_iff (m : Lamp) : m.shines = true ↔ m.called = true ∧ (m.state = .lit ∨ m.state = .dimmed) := by
  simp [Lamp.shines]

theorem State.lampEvent_starting (is : s.power.state = .starting) (inPlay : told ≠ .noLamp) :
    s.becomes (if s.allCalledLit then .on else .starting) (s.markedBy told) (s.lampEvent told) := by
  let marked := s.setPower { s.power with degraded := s.markedBy told }
  have event : s.lampEvent told =
      if s.allCalledLit then marked.enterOn .lamps (if told = .degraded then .degraded else .none)
      else if told = .degraded then marked.reportPower s.power.state .lamps .degraded else marked := by
    unfold State.lampEvent
    rw [is]
    cases told with
    | noLamp => exact absurd rfl inPlay
    | none | degraded => rfl
  have stays : s.becomes .starting (s.markedBy told) marked := by
    unfold State.becomes
    rw [← is]
    exact State.calm.refl _
  rw [event]
  split
  · exact marked.enterOn_calm _ _
  · split
    · exact stays.trans (State.reportPower_calm _ _ _ _)
    · exact stays

theorem State.lampEvent_alight (is : s.power.state = .on ∨ s.power.state = .dimmed) (inPlay : told ≠ .noLamp) :
    s.becomes (if s.lampA.shines || s.lampB.shines then s.power.state else .starting) (s.markedBy told)
      (s.lampEvent told) := by
  let marked := s.setPower { s.power with degraded := s.markedBy told }
  have event : s.lampEvent told =
      if !s.lampA.shines && !s.lampB.shines then
        marked.enterStarting .lamps (if told = .degraded then .degraded else .none)
      else if told = .degraded then marked.reportPower s.power.state .lamps .degraded else marked := by
    unfold State.lampEvent
    obtain is | is := is <;> rw [is] <;> cases told
    case inl.noLamp | inr.noLamp => exact absurd rfl inPlay
    all_goals rfl
  have dark : (!s.lampA.shines && !s.lampB.shines) = !(s.lampA.shines || s.lampB.shines) := by
    rw [Bool.not_or]
  have stays : s.becomes s.power.state (s.markedBy told) marked := State.calm.refl _
  rw [event, dark]
  cases s.lampA.shines || s.lampB.shines with
  | false => exact marked.enterStarting_calm _ _
  | true =>
    rw [if_pos rfl, if_neg (by decide)]
    split
    · exact stays.trans (State.reportPower_calm _ _ _ _)
    · exact stays

/-- STOPPING is left for STANDBY where the lamps let it (R164). -/
theorem State.tryStandby_becomes (stopping : s.power.state = .stopping) :
    ∃ p d, s.becomes p d s.tryStandby ∧ (s.mayRest → p = .standby) ∧ (¬ s.mayRest → p = .stopping)
      ∧ (s.power.degraded = false → d = false) := by
  by_cases rests : s.mayRest
  · rw [State.tryStandby_of_mayRest stopping rests]
    exact ⟨_, _, s.enterStandby_calm _, fun _ => rfl, fun busy => absurd rests busy, fun _ => rfl⟩
  · rw [State.tryStandby_of_not_mayRest rests, ← stopping]
    exact ⟨_, _, State.calm.refl s, fun rest => absurd rest rests, fun _ => rfl, id⟩

theorem State.lampEvent_stopping (is : s.power.state = .stopping) :
    ∃ p d, s.becomes p d (s.lampEvent told) ∧ (s.mayRest → p = .standby) ∧ (¬ s.mayRest → p = .stopping) := by
  have event : s.lampEvent told = s.settleDegraded.tryStandby := by
    unfold State.lampEvent
    rw [is]
  rw [event]
  obtain ⟨p, d, become, rests, stays, -⟩ := State.tryStandby_becomes (s := s.settleDegraded) is
  exact ⟨p, d, become, rests, stays⟩

theorem State.lampEvent_resting (is : s.power.state = .standby ∨ s.power.state = .shutdown) :
    ∃ d, s.becomes s.power.state d (s.lampEvent told) := by
  have event : s.lampEvent told = s.settleDegraded := by
    unfold State.lampEvent
    obtain is | is := is <;> rw [is]
  rw [event]
  exact ⟨_, State.calm.refl _⟩

theorem State.becomes.lamp {p : PowerState} {d : Bool} (h : s.becomes p d v) (x : LampId) : v.lamp x = s.lamp x := by
  rw [State.calm.lamp h]
  cases x <;> rfl

/-- The power unit follows the lamps where it goes to the state that the lamps give. -/
theorem State.becomes.follows {p : PowerState} {b d : Bool} (h : s.becomes p d v)
    (state : s.powerFollows b (s.setPower { s.power with state := p, degraded := d })) : s.powerFollows b v := by
  unfold State.powerFollows
  rw [h.lampA, h.lampB, h.state, h.intent, h.intentClass, h.intentPriority, h.degraded]
  exact state

/-- After a lamp event that leaves a lamp in play the power unit follows the lamps, and no lamp changes. -/
theorem State.lampEvent_follows (inPlay : told ≠ .noLamp ∨ s.power.state.running = false) :
    s.powerFollows (decide (told = .degraded)) (s.lampEvent told) ∧ (∀ x, (s.lampEvent told).lamp x = s.lamp x)
      ∧ (s.lampEvent told).lastStruck = s.lastStruck := by
  have shines := or_congr s.lampA.shines_iff s.lampB.shines_iff
  rw [← Bool.or_eq_true] at shines
  have running (is : s.power.state.running = true) : told ≠ .noLamp :=
    inPlay.resolve_right (by simp [is])
  cases is : s.power.state with
  | starting =>
    have become := s.lampEvent_starting is (running (by rw [is]; rfl))
    refine ⟨become.follows ⟨?_, rfl, rfl, rfl, fun _ => s.markedBy_eq told⟩, become.lamp, become.lastStruck⟩
    rw [is]
    exact if_congr s.allCalledLit_iff rfl rfl
  | on | dimmed =>
    have become := s.lampEvent_alight (by simp [is]) (running (by rw [is]; rfl))
    refine ⟨become.follows ⟨?_, rfl, rfl, rfl, fun _ => s.markedBy_eq told⟩, become.lamp, become.lastStruck⟩
    rw [is]
    exact if_congr shines rfl rfl
  | stopping =>
    obtain ⟨p, d, become, rests, stays⟩ := s.lampEvent_stopping (told := told) is
    refine ⟨become.follows ⟨?_, rfl, rfl, rfl, fun run => absurd run (by rw [is]; decide)⟩, become.lamp, become.lastStruck⟩
    rw [is]
    by_cases rest : s.mayRest
    · exact (rests rest).trans (if_pos rest).symm
    · exact (stays rest).trans (if_neg rest).symm
  | standby | shutdown =>
    obtain ⟨d, become⟩ := s.lampEvent_resting (told := told) (by simp [is])
    refine ⟨become.follows ⟨?_, rfl, rfl, rfl, fun run => absurd run (by rw [is]; decide)⟩, become.lamp, become.lastStruck⟩
    rw [is]
    rfl

/-! ## No lamp in play (R89, R164) -/

theorem State.stopSwitching_power (s : State) : s.stopSwitching.power = s.power := by
  unfold State.stopSwitching State.dropPending State.dropSwitch
  dsimp only
  split <;> split <;> rfl

theorem State.closeWindow_power (s : State) (e : ConfirmEvent) : (s.closeWindow e).power = s.power := by
  unfold State.closeWindow
  split <;> rfl

theorem State.lamp_stopWake (s : State) (x : LampId) : s.stopWake.lamp x = { s.lamp x with wakeTimer := none } := by
  cases x <;> rfl

/-- The intent is OFF, and the projector has entered STOPPING but for its report. -/
def State.failing (s : State) : State :=
  (({ s with power := { s.power.noIntent.stopTimers with state := .stopping, degraded := false } } : State).stopWake
    ).stopSwitching.closeWindow .cancelledState

theorem State.failing_power (s : State) :
    s.failing.power = { s.power.noIntent.stopTimers with state := .stopping, degraded := false } := by
  unfold State.failing
  rw [State.closeWindow_power, State.stopSwitching_power]
  rfl

theorem State.failing_calm (s : State) :
    ({ s with power := { s.power.noIntent.stopTimers with state := .stopping, degraded := false } } : State).stopWake.calm
      s.failing :=
  (State.stopSwitching_calm _).trans (State.closeWindow_calm _ _)

theorem State.lamp_failing (s : State) (x : LampId) : s.failing.lamp x = { s.lamp x with wakeTimer := none } :=
  (s.failing_calm.lamp x).trans (by cases x <;> rfl)

theorem State.lampEvent_noLamp_eq (running : s.power.state.running = true) :
    s.lampEvent .noLamp = (s.failing.reportPower s.power.state .lamps .startFailed).tryStandby := by
  have event : s.lampEvent .noLamp = s.settleDegraded.noLampInPlay := by
    unfold State.lampEvent
    dsimp only
    split <;> rename_i is
    case h_1 | h_2 | h_3 => rfl
    all_goals
      rw [is] at running
      exact absurd running (by decide)
  exact event

/-- In a power state that runs, a lamp event with no lamp in play stops the projector with START_FAILED. -/
theorem State.lampEvent_noLamp (running : s.power.state.running = true) :
    s.startFails (s.lampEvent .noLamp) ∧ ∀ x, (s.lampEvent .noLamp).lamp x = { s.lamp x with wakeTimer := none } := by
  let told := s.failing.reportPower s.power.state .lamps .startFailed
  have power : told.power = { s.power.noIntent.stopTimers with state := .stopping, degraded := false } := s.failing_power
  have recovery : told.recovery = s.recovery := s.failing_calm.recovery
  have plan : s.failing.conf.plan = s.conf.plan := by
    rw [s.failing_calm.conf]
    rfl
  obtain ⟨p, d, become, rests, stays, unmarked⟩ := told.tryStandby_becomes (by rw [power])
  have lampA : told.tryStandby.lampA = told.lampA := become.lamp .a
  have lampB : told.tryStandby.lampB = told.lampB := become.lamp .b
  rw [State.lampEvent_noLamp_eq running]
  refine ⟨⟨?_, ?_, ?_, ?_, ?_, s.failing, ?_, ?_, ?_, ?_⟩, fun x => (become.lamp x).trans (s.lamp_failing x)⟩
  · rw [become.state, lampA, lampB]
    by_cases rest : told.mayRest
    · rw [if_pos (by rw [← recovery]; exact rest)]
      exact rests rest
    · rw [if_neg (by rw [← recovery]; exact rest)]
      exact stays rest
  · rw [become.intent]
    exact congrArg PowerUnit.intent power
  · rw [become.intentClass]
    exact congrArg PowerUnit.intentClass power
  · rw [become.intentPriority]
    exact congrArg PowerUnit.intentPriority power
  · rw [become.degraded]
    exact unmarked (congrArg PowerUnit.degraded power)
  · rw [s.failing_power]
  · rw [s.failing_power]
    rfl
  · rw [s.failing_power]
    rfl
  · rw [lampA, lampB]
    unfold told State.reportPower
    rw [s.failing_power, plan]
    rfl

/-- A lamp event stops a lamp's wake timer at the most. -/
theorem State.lamp_lampEvent (told : PlaySignal) (still : (s.lamp x).wakeTimer = none) :
    (s.lampEvent told).lamp x = s.lamp x := by
  by_cases fails : told = .noLamp ∧ s.power.state.running = true
  · rw [fails.1, (State.lampEvent_noLamp fails.2).2 x]
    exact congrArg (fun w => { s.lamp x with wakeTimer := w }) still.symm
  · have inPlay : told ≠ .noLamp ∨ s.power.state.running = false := by
      rw [not_and_or, Bool.not_eq_true] at fails
      exact fails
    exact (State.lampEvent_follows inPlay).2.1 x

/-! ## Failover (R89) -/

/-- What the tests on a lamp event read of the state before it: the power unit, the recovery and the plan, which no move
of a lamp changes. -/
theorem State.lampsOnly.powerFollows (frame : s.lampsOnly t) (b : Bool) (h : t.powerFollows b v) :
    s.powerFollows b v := by
  unfold State.powerFollows at *
  rw [frame.power, frame.recovery, frame.conf] at h
  exact h

theorem State.lampsOnly.startFails (frame : s.lampsOnly t) (h : t.startFails v) : s.startFails v := by
  unfold State.startFails at *
  rw [frame.power, frame.recovery, frame.conf] at h
  exact h

/-- Neither a lamp that is out of service nor its record is touched by a failover, whichever lamp has left. -/
theorem State.lamp_failover (unfit : (s.lamp x).available = false) (y : LampId) (n : Nat) :
    (s.failover y n).1.lamp x = s.lamp x := by
  induction n generalizing s y with
  | zero => rfl
  | succ n ih =>
    have called : (if (s.lamp (otherLamp y)).called then (s, false) else s.callLamp (otherLamp y)).1.lamp x
        = s.lamp x := by
      split
      · rfl
      · obtain rfl | rfl := lamp_cases (otherLamp y) x
        · rw [State.callLamp_unavailable unfit]
        · exact s.partner_callLamp (otherLamp y)
    unfold State.failover
    generalize (if (s.lamp (otherLamp y)).called then (s, false) else s.callLamp (otherLamp y)) = r at *
    split
    · rfl
    · split
      case h_1 | h_2 => rfl
      all_goals
        dsimp only
        split
        · rw [ih (by rw [called]; exact unfit), called]
        · exact called

/-- A lamp that stays in play after its event, or is out of service, keeps its record through the failover and the tests
of the power unit, its wake timer apart. -/
theorem LampMove.lamp_finish {r : LampMove} (still : (r.1.lamp x).wakeTimer = none)
    (unfit : r.2 = true → (r.1.lamp x).available = false) : (LampMove.finish r x).lamp x = r.1.lamp x := by
  unfold LampMove.finish
  have settled : (LampMove.settle r x).1.lamp x = r.1.lamp x := by
    unfold LampMove.settle
    split
    · rename_i left
      exact State.lamp_failover (unfit left) x 2
    · rfl
  rw [State.lamp_lampEvent _ (by rw [settled]; exact still), settled]

/-- Where no lamp leaves play the power unit follows the lamps as the move has left them. -/
theorem LampMove.finish_stays {r : LampMove} (frame : s.lampsOnly r.1) (stays : r.2 = false) (x : LampId) :
    s.powerFollows false (LampMove.finish r x) ∧ (∀ y, (LampMove.finish r x).lamp y = r.1.lamp y)
      ∧ (LampMove.finish r x).lastStruck = r.1.lastStruck := by
  have event : LampMove.finish r x = r.1.lampEvent .none := by
    unfold LampMove.finish LampMove.settle
    rw [stays]
    rfl
  obtain ⟨follows, lamps, struck⟩ := r.1.lampEvent_follows (told := .none) (.inl nofun)
  rw [event]
  exact ⟨frame.powerFollows false follows, lamps, struck⟩

theorem State.calledCount_eq (s : State) (x : LampId) :
    s.calledCount = (s.lamp x).called.toNat + (s.lamp (otherLamp x)).called.toNat := by
  cases x with
  | a => rfl
  | b => exact Nat.add_comm _ _

/-- A called partner carries on: short under DUAL (R85, R89). -/
theorem State.calledSignal_of_partner (uncalled : (s.lamp x).called = false)
    (partner : (s.lamp (otherLamp x)).called = true) :
    s.calledSignal = if s.conf.plan = .dual then .degraded else .none := by
  unfold State.calledSignal
  rw [s.calledCount_eq x, uncalled, partner]
  simp

theorem State.calledSignal_of_none (uncalled : (s.lamp x).called = false)
    (partner : (s.lamp (otherLamp x)).called = false) : s.calledSignal = .noLamp := by
  unfold State.calledSignal
  rw [s.calledCount_eq x, uncalled, partner]
  rfl

theorem State.failover_eq (s : State) (x : LampId) (n : Nat) (on : s.power.intent = true)
    (shared : s.conf.plan = .dual ∨ s.conf.plan = .alternate) :
    s.failover x (n + 1) =
      let r := if (s.lamp (otherLamp x)).called then (s, false) else s.callLamp (otherLamp x)
      if r.2 then r.1.failover (otherLamp x) n else (r.1, r.1.calledSignal) := by
  rw [State.failover, on]
  obtain plan | plan := shared <;> rw [plan] <;> rfl

/-- A lamp event that carries on with the called set `u`. -/
theorem State.lampEvent_goesOn (frame : s.lampsOnly u) (uncalled : (u.lamp x).called = false)
    (partner : (u.lamp (otherLamp x)).called = true) :
    s.powerFollows (decide (s.conf.plan = .dual)) (u.lampEvent u.calledSignal)
      ∧ ∀ y, (u.lampEvent u.calledSignal).lamp y = u.lamp y := by
  rw [State.calledSignal_of_partner uncalled partner, frame.conf]
  by_cases dual : s.conf.plan = .dual
  · rw [if_pos dual, decide_eq_true dual]
    obtain ⟨follows, lamps, -⟩ := u.lampEvent_follows (told := .degraded) (.inl nofun)
    exact ⟨frame.powerFollows _ follows, lamps⟩
  · rw [if_neg dual, decide_eq_false dual]
    obtain ⟨follows, lamps, -⟩ := u.lampEvent_follows (told := .none) (.inl nofun)
    exact ⟨frame.powerFollows _ follows, lamps⟩

/-- A lamp whose call has ended leaves play: failover by the plan, and the power unit's tests (R89, R164). -/
theorem LampMove.finish_leaves {r : LampMove} (frame : s.lampsOnly r.1) (leaves : r.2 = true)
    (partner : r.1.lamp (otherLamp x) = s.lamp (otherLamp x)) (uncalled : (r.1.lamp x).called = false) :
    s.afterLeaving x (LampMove.finish r x) := by
  obtain ⟨t, left⟩ := r
  subst leaves
  show s.afterLeaving x ((t.failover x 2).1.lampEvent (t.failover x 2).2)
  refine ⟨fun off => ?_, fun on running => ⟨fun shared called => ?_, fun shared alone callable => ?_, fun unshared => ?_⟩⟩
  · have stays : t.failover x 2 = (t, .none) := by
      rw [State.failover, frame.power, off]
      rfl
    rw [stays]
    obtain ⟨follows, lamps, -⟩ := LampMove.finish_stays (r := (t, false)) frame rfl x
    exact ⟨follows, (lamps _).trans partner⟩
  · have carries : t.failover x 2 = (t, t.calledSignal) := by
      rw [State.failover_eq t x 1 (by rw [frame.power]; exact on) (by rw [frame.conf]; exact shared), partner, called]
      rfl
    rw [carries]
    obtain ⟨follows, lamps⟩ := State.lampEvent_goesOn frame uncalled (by rw [partner]; exact called)
    exact ⟨follows, (lamps _).trans partner⟩
  · obtain ⟨u, calls, call⟩ := t.callLamp_callable (x := otherLamp x) (by rw [partner]; exact callable)
    have carries : t.failover x 2 = (u, u.calledSignal) := by
      rw [State.failover_eq t x 1 (by rw [frame.power]; exact on) (by rw [frame.conf]; exact shared), partner, alone,
        if_neg Bool.false_ne_true, calls]
      rfl
    rw [carries]
    have kept : u.lamp x = t.lamp x := by simpa using call.partner
    obtain ⟨follows, lamps⟩ := State.lampEvent_goesOn (frame.trans call.frame) (by rw [kept]; exact uncalled) call.called
    refine ⟨follows, ?_⟩
    rw [lamps, ← partner]
    have makes := call.makes
    unfold State.callMakes State.item at *
    rw [frame.conf] at makes
    exact makes
  · have ends : t.failover x 2 = (t, .noLamp) := by
      by_cases shared : s.conf.plan = .dual ∨ s.conf.plan = .alternate
      · obtain ⟨alone, gone⟩ := unshared.resolve_left (not_not.mpr shared)
        have unfit : (t.lamp (otherLamp x)).available = false := by
          rw [partner]
          exact (Lamp.unavailable_iff _).mpr gone
        rw [State.failover_eq t x 1 (by rw [frame.power]; exact on) (by rw [frame.conf]; exact shared), partner, alone,
          if_neg Bool.false_ne_true, State.callLamp_unavailable unfit]
        exact congrArg (Prod.mk t) (State.calledSignal_of_none uncalled (by rw [partner]; exact alone))
      · rw [State.failover, frame.power, on, frame.conf]
        cases plan : s.conf.plan with
        | dual => exact absurd (.inl plan) shared
        | alternate => exact absurd (.inr plan) shared
        | fixedA | fixedB => rfl
    rw [ends]
    obtain ⟨fails, lamps⟩ := t.lampEvent_noLamp (by rw [frame.power]; exact running)
    exact ⟨frame.startFails fails, by rw [lamps, partner]⟩

/-! ## A lamp's move and what follows it -/

/-- A move of lamp `x` that leaves the other alone; where the lamp leaves play its call has ended and it is out of
service. -/
structure State.movesLamp (s : State) (x : LampId) (r : LampMove) : Prop where
  frame : s.lampsOnly r.1
  partner : r.1.lamp (otherLamp x) = s.lamp (otherLamp x)
  gone : r.2 = true → (r.1.lamp x).called = false ∧ (r.1.lamp x).available = false ∧ (r.1.lamp x).wakeTimer = none

/-- What is left at the end of a move: the lamp as the move left it, and failover or the power unit's tests alone. -/
structure State.concludes (s : State) (x : LampId) (r : LampMove) (v : State) : Prop where
  path : s.lampPathOnly v
  lamp : v.lamp x = r.1.lamp x
  leaves : r.2 = true → s.afterLeaving x v
  stays : r.2 = false → s.powerFollows false v ∧ v.lamp (otherLamp x) = s.lamp (otherLamp x)
  lastStruck : r.2 = false → v.lastStruck = r.1.lastStruck

theorem State.movesLamp.concludes {r : LampMove} (h : s.movesLamp x r) : s.concludes x r (LampMove.finish r x) where
  path := h.frame.toPath.trans (LampMove.finish_frame r x)
  lamp := by
    cases left : r.2 with
    | true =>
      obtain ⟨-, unfit, still⟩ := h.gone left
      exact LampMove.lamp_finish still fun _ => unfit
    | false => exact (LampMove.finish_stays h.frame left x).2.1 x
  leaves left := LampMove.finish_leaves h.frame left h.partner (h.gone left).1
  stays stays := by
    obtain ⟨follows, lamps, -⟩ := LampMove.finish_stays h.frame stays x
    exact ⟨follows, (lamps _).trans h.partner⟩
  lastStruck stays := (LampMove.finish_stays h.frame stays x).2.2

/-- A move of lamp `x` that stays in play. -/
theorem State.movesLamp.of_stays (frame : s.lampsOnly t) (partner : t.lamp (otherLamp x) = s.lamp (otherLamp x)) :
    s.movesLamp x (t, false) := ⟨frame, partner, nofun⟩

/-- The same move after an update of the lamp's own record. -/
theorem State.movesLamp.after_setLamp {m : Lamp} {r : LampMove} (h : (s.setLamp x m).movesLamp x r) :
    s.movesLamp x r where
  frame := (s.setLamp_frame x m).trans h.frame
  partner := h.partner.trans (s.partner_setLamp x m)
  gone := h.gone

end Sys2Proof.Machine
end

section
/-! PROOFS. How a strike and a retry wait end (R72 to R75, R82, R89, R164; O43). -/

set_option Elab.async false

namespace Sys2Proof.Machine

variable {s t u v : State} {x : LampId}

/-! ## The settling of a lamp in DARK or in HOT (R82) -/

theorem State.restrikeHold_setLamp (s : State) (x : LampId) (m : Lamp) :
    (s.setLamp x m).restrikeHold = s.restrikeHold := by
  unfold State.restrikeHold State.item
  rw [State.setLamp_conf]

/-- `n` has ended its call in DARK, or in HOT in its place where the lamp was extinguished `since` ago. -/
def State.darkened (s : State) (since : Nat) (n : Lamp) : Prop :=
  n.state = (if since < 1000 * max (s.item 8) (s.item 7) then .hot else .dark) ∧ n.demand = .off ∧ n.called = false
    ∧ n.pendingOff = false

theorem State.endedDark_darkened (s : State) (b : Bool) (m : Lamp) : s.darkened m.since (s.moved b (s.endedDark m)) := by
  unfold State.moved State.endedDark State.darkOrHot State.restrikeHold
  dsimp only
  split
  · rename_i short
    exact ⟨(if_pos short).symm, rfl, rfl, rfl⟩
  · rename_i long
    exact ⟨(if_neg long).symm, rfl, rfl, rfl⟩

theorem State.endedDark_unlit (s : State) (b : Bool) (m : Lamp) : (s.moved b (s.endedDark m)).wakeTimer = none := by
  unfold State.moved State.endedDark State.darkOrHot
  dsimp only
  split <;> rfl

/-! ## A strike that fails (R74) -/

@[simp] theorem State.moved_condition (s : State) (x : LampId) (k : IncidentKind) (b : Bool) (m : Lamp) :
    (s.condition x k).moved b m = s.moved b m := by
  unfold State.moved State.condition
  rw [State.offer_conf, State.setLamp_conf]

/-- The condition that a failed strike hands (R74, R76). -/
def strikeIncident (fault : Bool) : IncidentKind := if fault then .ballastFault else .strikeFail

theorem State.strikeFailed_uncalled (b : Bool) (uncalled : (s.lamp x).called = false) :
    s.strikeFailed x b = ((s.condition x (strikeIncident b)).moveLamp x s.endedDark true .strikeFailed, false) := by
  simp [State.strikeFailed, uncalled, strikeIncident]

theorem State.strikeFailed_exhausted (b : Bool) (called : (s.lamp x).called = true)
    (last : (s.lamp x).attempts = (s.lamp x).limit) :
    s.strikeFailed x b = (((if b then s.condition x .ballastFault else s).condition x .strikeExhausted).moveLamp x
      Lamp.outNow true .exhausted, true) := by
  cases b <;> simp [State.strikeFailed, called, last]

theorem State.strikeFailed_unavailable (b : Bool) (called : (s.lamp x).called = true)
    (more : (s.lamp x).attempts ≠ (s.lamp x).limit) (unfit : (s.lamp x).available = false) :
    s.strikeFailed x b = ((s.condition x (strikeIncident b)).moveLamp x s.endedDark true .unavailable, true) := by
  simp [State.strikeFailed, called, more, unfit, strikeIncident]

theorem State.strikeFailed_retry (b : Bool) (called : (s.lamp x).called = true)
    (more : (s.lamp x).attempts ≠ (s.lamp x).limit) (fit : (s.lamp x).available = true) :
    s.strikeFailed x b = ((s.condition x (strikeIncident b)).moveLamp x
      (fun m => { m with state := .retryWait, timer := some m.retryWaitMs }) false .strikeFailed, false) := by
  simp [State.strikeFailed, called, more, fit, strikeIncident]

/-- A failed strike takes a called lamp out of play at its last attempt, and where it is no longer available. -/
theorem State.strikeFailed_left (s : State) (x : LampId) (b : Bool) :
    (s.strikeFailed x b).2
      = ((s.lamp x).called && (decide ((s.lamp x).attempts = (s.lamp x).limit) || !(s.lamp x).available)) := by
  unfold State.strikeFailed
  dsimp only
  split
  · simp_all
  · split
    · simp_all
    · split <;> simp_all

theorem State.strikeFailed_moves (s : State) (x : LampId) (b : Bool) : s.movesLamp x (s.strikeFailed x b) where
  frame := s.strikeFailed_frame x b
  partner := s.partner_strikeFailed x b
  gone left := by
    rw [State.strikeFailed_left, Bool.and_eq_true, Bool.or_eq_true, decide_eq_true_iff, Bool.not_eq_true'] at left
    obtain ⟨called, left⟩ := left
    by_cases last : (s.lamp x).attempts = (s.lamp x).limit
    · rw [State.strikeFailed_exhausted b called last, State.lamp_moveLamp_same]
      exact ⟨rfl, rfl, rfl⟩
    · have unfit := left.resolve_left last
      rw [State.strikeFailed_unavailable b called last unfit, State.lamp_moveLamp_same, State.lamp_condition_same]
      exact ⟨rfl, unfit, s.endedDark_unlit true _⟩

/-- A strike that healthily begins stays in play. -/
theorem State.strikesLamp.moves (h : s.strikesLamp x u) : s.movesLamp x (u, false) :=
  .of_stays h.frame h.partner

/-! ## The end of a strike window and of a retry wait (O43) -/

theorem Lamp.timing_iff (m : Lamp) (p : LampState) : m.timing p = true ↔ m.state = p ∧ m.timer.isSome = true := by
  simp [Lamp.timing]

@[simp] theorem State.lamp_ranOut (s : State) (x : LampId) :
    (s.ranOut x).lamp x = { s.lamp x with since := (s.lamp x).since + (s.lamp x).timer.getD 0, timer := none } :=
  s.lamp_setLamp_same x _

@[simp] theorem State.lamp_heldOut (s : State) (x : LampId) :
    (s.heldOut x).lamp x = { s.lamp x with since := max (s.lamp x).since (1000 * max (s.item 8) (s.item 7)) } :=
  s.lamp_setLamp_same x _

theorem State.darkened_setLamp (s : State) (x : LampId) (m : Lamp) : (s.setLamp x m).darkened = s.darkened := by
  unfold State.darkened State.item
  rw [State.setLamp_conf]

/-- The end of a retry wait at which the lamp is not available: its call ends in DARK, or in HOT, and it leaves play
(R75, R89). -/
theorem State.retry_unavailable {n : Lamp} (waits : n.state = .retryWait) (unfit : n.available = false) :
    s.lampPathOnly (LampMove.finish ((s.setLamp x n).strike x) x)
      ∧ s.darkened n.since ((LampMove.finish ((s.setLamp x n).strike x) x).lamp x)
      ∧ s.afterLeaving x (LampMove.finish ((s.setLamp x n).strike x) x) := by
  have lamp := s.lamp_setLamp_same x n
  have struck := State.strike_unavailable (s := s.setLamp x n) (x := x) (by rw [lamp]; exact unfit)
  rw [lamp, if_pos waits] at struck
  have dark := (s.setLamp x n).endedDark_darkened true n
  have moves : (s.setLamp x n).movesLamp x ((s.setLamp x n).strike x) := by
    rw [struck]
    refine ⟨State.moveLamp_frame _ x _ _ _, State.partner_moveLamp _ x _ _ _, fun _ => ?_⟩
    rw [State.lamp_moveLamp_same, lamp]
    exact ⟨rfl, unfit, State.endedDark_unlit _ true n⟩
  have ends := moves.after_setLamp.concludes
  refine ⟨ends.path, ?_, ends.leaves (by rw [struck])⟩
  rw [ends.lamp, struck, State.lamp_moveLamp_same, lamp, ← s.darkened_setLamp x n]
  exact dark

/-- What a strike makes of a lamp, figure by figure. -/
theorem Lamp.struck.strikes {m n : Lamp} {y : Option LampId} (h : m.struck n) (last : y = some x) :
    n.state = .ignite ∧ n.demand = .ignite ∧ n.timer = some 2000 ∧ n.attempts = m.attempts + 1
      ∧ n.strikeCount = min (m.strikeCount + 1) 65535 ∧ n.wear = min (m.wear + 600) 4294967295 ∧ y = some x := by
  rw [h]
  exact ⟨rfl, rfl, rfl, rfl, rfl, rfl, last⟩

/-- A strike that healthily begins: the lamp struck, the power unit's tests behind it, and the other lamp as it was. -/
theorem State.strike_begins {n : Lamp} (fit : n.available = true) (sound : n.faultLine = false) :
    s.lampPathOnly (LampMove.finish ((s.setLamp x n).strike x) x)
      ∧ n.struck ((LampMove.finish ((s.setLamp x n).strike x) x).lamp x)
      ∧ (LampMove.finish ((s.setLamp x n).strike x) x).lastStruck = some x
      ∧ s.powerFollows false (LampMove.finish ((s.setLamp x n).strike x) x)
      ∧ (LampMove.finish ((s.setLamp x n).strike x) x).lamp (otherLamp x) = s.lamp (otherLamp x) := by
  have lamp := s.lamp_setLamp_same x n
  obtain ⟨u, struck, strikes⟩ := State.strike_healthy (s := s.setLamp x n) (x := x) (by rw [lamp]; exact fit)
    (by rw [lamp]; exact sound)
  have ends := strikes.moves.after_setLamp.concludes
  have made := strikes.lamp
  rw [lamp] at made
  rw [struck]
  exact ⟨ends.path, by rw [ends.lamp]; exact made, (ends.lastStruck rfl).trans strikes.lastStruck, ends.stays rfl⟩

/-- What a failed strike leaves of the lamp (R74, R76). -/
theorem State.strikeFailed_record (s : State) (x : LampId) (b : Bool) (m n : Lamp) (was : m = s.lamp x)
    (now : n = (s.strikeFailed x b).1.lamp x) :
    n.wear = m.wear ∧ n.strikeCount = m.strikeCount ∧ n.attempts = m.attempts ∧ n.faultLine = m.faultLine
      ∧ n.demand = .off
      ∧ n.history = (if m.called = true ∧ m.attempts = m.limit then
          s.incidentOf x .strikeExhausted ::
            (if b then (s.incidentOf x .ballastFault :: m.history).take 4 else m.history)
        else s.incidentOf x (strikeIncident b) :: m.history).take 4
      ∧ (if m.called = true ∧ m.attempts = m.limit then n.state = .out ∧ n.out = true ∧ n.called = false
        else if m.called = false ∨ m.out = true ∨ m.expired = true then s.darkened m.since n
        else n.state = .retryWait ∧ n.called = true
          ∧ n.timer = some (10000 * 2 ^ min (m.attempts - 1) m.cap)) := by
  subst was now
  by_cases last : (s.lamp x).called = true ∧ (s.lamp x).attempts = (s.lamp x).limit
  · rw [if_pos last, if_pos last, State.strikeFailed_exhausted b last.1 last.2, State.lamp_moveLamp_same,
      State.moved_condition, State.lamp_condition_same]
    cases b with
    | false => exact ⟨rfl, rfl, rfl, rfl, rfl, rfl, rfl, rfl, rfl⟩
    | true =>
      rw [if_pos rfl, State.lamp_condition_same, State.condition_noted, State.incidentOf_noted]
      exact ⟨rfl, rfl, rfl, rfl, rfl, rfl, rfl, rfl, rfl⟩
  · rw [if_neg last, if_neg last]
    by_cases ended : (s.lamp x).called = false ∨ (s.lamp x).out = true ∨ (s.lamp x).expired = true
    · have dark : ∃ c l,
          s.strikeFailed x b = ((s.condition x (strikeIncident b)).moveLamp x s.endedDark true c, l) := by
        by_cases called : (s.lamp x).called = true
        · have unfit := (Lamp.unavailable_iff _).mpr (ended.resolve_left (by simp [called]))
          exact ⟨_, _, State.strikeFailed_unavailable b called (fun is => last ⟨called, is⟩) unfit⟩
        · exact ⟨_, _, State.strikeFailed_uncalled b (Bool.eq_false_iff.mpr called)⟩
      obtain ⟨c, l, failed⟩ := dark
      rw [if_pos ended, failed, State.lamp_moveLamp_same, State.moved_condition, State.lamp_condition_same]
      have dark := s.endedDark_darkened true { s.lamp x with
        history := (s.incidentOf x (strikeIncident b) :: (s.lamp x).history).take Config.historyPlaces }
      exact ⟨rfl, rfl, rfl, rfl, dark.2.1, rfl, dark⟩
    · rw [not_or, Bool.not_eq_false, ← Lamp.unavailable_iff, Bool.not_eq_false] at ended
      obtain ⟨called, fit⟩ := ended
      rw [if_neg (by simpa [called, Lamp.available_iff] using fit),
        State.strikeFailed_retry b called (fun is => last ⟨called, is⟩) fit, State.lamp_moveLamp_same,
        State.moved_condition, State.lamp_condition_same]
      exact ⟨rfl, rfl, rfl, rfl, rfl, rfl, rfl, called, rfl⟩

/-- Settles O43: each clause is its operation's move of the lamp, concluded by `State.movesLamp.concludes`. -/
theorem strikesAndRetryWaitsEnd : Obligations.StrikesAndRetryWaitsEnd := by
  intro s x m was
  subst was
  refine ⟨?_, ?_, ?_, ?_⟩
  · split
    · rename_i striking
      have moves : s.movesLamp x
          (s.moveLamp x (fun m => { m with state := .warmup, timer := some (1000 * s.item 6) }) false .litSense, false) :=
        .of_stays (s.moveLamp_frame x _ _ _) (s.partner_moveLamp x _ _ _)
      have ends := moves.concludes
      refine ⟨_, congrArg Host.Outcome.next (if_pos striking), ends.path, ?_⟩
      rw [ends.lamp, State.lamp_moveLamp_same]
      exact ⟨rfl, rfl, rfl, rfl, rfl, rfl, rfl, rfl, ends.stays rfl⟩
    · rename_i other
      exact congrArg Host.Outcome.next (if_neg other)
  · split
    · rename_i timing
      have moves := ((s.ranOut x).strikeFailed_moves x false).after_setLamp
      have ends := moves.concludes
      have left := (s.ranOut x).strikeFailed_left x false
      obtain ⟨wear, -, attempts, -, demand, history, record⟩ :=
        (s.ranOut x).strikeFailed_record x false _ _ (s.lamp_ranOut x).symm ends.lamp
      rw [show (s.ranOut x).darkened = s.darkened from s.darkened_setLamp x _] at record
      refine ⟨_, congrArg Host.Outcome.next (if_pos ((Lamp.timing_iff _ _).mpr timing)), ends.path,
        wear, attempts, ?_, ?_, ?_⟩
      · rw [history]
        split <;> rfl
      · split
        · rename_i last
          obtain ⟨out, marked, uncalled⟩ := (if_pos last).mp record
          exact ⟨out, marked, uncalled, demand⟩
        · rename_i more
          have record := (if_neg more).mp record
          split
          · rename_i ended
            exact (if_pos ended).mp record
          · rename_i retries
            obtain ⟨waits, called, timer⟩ := (if_neg retries).mp record
            exact ⟨waits, called, demand, timer⟩
      · split
        · rename_i gone
          refine ends.leaves (left.trans ?_)
          simpa [Lamp.available, imp_iff_not_or] using gone
        · rename_i kept
          refine ends.stays (left.trans ?_)
          simpa [Lamp.available, imp_iff_not_or] using kept
    · rename_i other
      exact congrArg Host.Outcome.next (if_neg (by rw [Lamp.timing_iff]; exact other))
  · split
    · rename_i timing
      have ran : exec (.retryWaitExpiry x) s = .next ((s.ranOut x).retryWaited x) :=
        congrArg Host.Outcome.next (if_pos ((Lamp.timing_iff _ _).mpr timing))
      rw [ran]
      unfold State.retryWaited
      rw [s.lamp_ranOut x, show (s.ranOut x).restrikeHold = 1000 * max (s.item 8) (s.item 7) from
        s.restrikeHold_setLamp x _]
      split
      · rename_i gone
        have unfit := (Lamp.unavailable_iff _).mpr gone
        refine ⟨_, congrArg Host.Outcome.next (if_neg fun h => ?_), State.retry_unavailable timing.1 unfit⟩
        exact absurd h.1 (ne_true_of_eq_false unfit)
      · rename_i inService
        have fit : (s.lamp x).available = true := by
          rw [← Bool.not_eq_false, Lamp.unavailable_iff]
          exact inService
        split
        · rename_i short
          exact congrArg Host.Outcome.next (if_pos ⟨fit, short⟩)
        · rename_i long
          intro sound
          obtain ⟨path, lamp, last, stays⟩ := State.strike_begins (s := s) (x := x)
            (n := { s.lamp x with since := (s.lamp x).since + (s.lamp x).timer.getD 0, timer := none }) fit sound
          refine ⟨_, congrArg Host.Outcome.next (if_neg fun h => long h.2), path, ?_, stays⟩
          exact lamp.strikes last
    · rename_i other
      exact congrArg Host.Outcome.next (if_neg (by rw [Lamp.timing_iff]; exact other))
  · split
    · rename_i waits
      have ran : exec (.retryHoldReached x) s = .next (LampMove.finish ((s.heldOut x).strike x) x) :=
        congrArg Host.Outcome.next (if_pos ⟨waits.1, by simp [waits.2]⟩)
      rw [ran]
      split
      · rename_i gone
        exact ⟨_, rfl, State.retry_unavailable waits.1 ((Lamp.unavailable_iff _).mpr gone)⟩
      · rename_i inService
        intro sound
        have fit : (s.lamp x).available = true := by
          rw [← Bool.not_eq_false, Lamp.unavailable_iff]
          exact inService
        obtain ⟨path, lamp, last, stays⟩ := State.strike_begins (s := s) (x := x)
          (n := { s.lamp x with since := max (s.lamp x).since (1000 * max (s.item 8) (s.item 7)) }) fit sound
        exact ⟨_, rfl, path, lamp.strikes last, stays⟩
    · rename_i other
      exact congrArg Host.Outcome.next (if_neg (by rw [Option.isNone_iff_eq_none]; exact other))

end Sys2Proof.Machine
end

section
/-! PROOFS. A ballast fault, by the lamp's state (R68, R76, R80, R89, R164; O44). -/

set_option Elab.async false

namespace Sys2Proof.Machine

variable {s t u v : State} {x : LampId}

/-! ## A lamp marked out (R76) -/

/-- A double fault: the lamp is OUT, and the condition is the newest of its history. -/
theorem State.doubleFault_record (s : State) (x : LampId) (m n : Lamp) (was : m = s.lamp x)
    (now : n = ((s.condition x .double).moveLamp x Lamp.outNow true .double).lamp x) :
    n.wear = m.wear ∧ n.strikeCount = m.strikeCount ∧ n.faultLine = m.faultLine ∧ n.demand = .off
      ∧ n.state = .out ∧ n.out = true ∧ n.called = false ∧ n.pendingOff = false ∧ n.timer = none
      ∧ n.wakeTimer = none ∧ n.history.head?.map (fun r => (r.kind, r.cls)) = some (.double, .double) := by
  subst was now
  rw [State.lamp_moveLamp_same, State.moved_condition, State.lamp_condition_same]
  exact ⟨rfl, rfl, rfl, rfl, rfl, rfl, rfl, rfl, rfl, rfl, rfl⟩

theorem State.doubleFault_moves (s : State) (x : LampId) (b : Bool) :
    s.movesLamp x ((s.condition x .double).moveLamp x Lamp.outNow true .double, b) where
  frame := (s.condition_frame x _).trans (State.moveLamp_frame _ x _ _ _)
  partner := by simp
  gone _ := by
    rw [State.lamp_moveLamp_same]
    exact ⟨rfl, rfl, rfl⟩

/-- A lamp alight that is marked out and extinguished (R76, R80). -/
theorem State.markedOut_record (s : State) (x : LampId) (m n : Lamp) (was : m = s.lamp x) (alight : m.state ≠ .ignite)
    (now : n = ((s.condition x .ballastFault).extinguish x true .fault).lamp x) :
    n.wear = m.wear ∧ n.strikeCount = m.strikeCount ∧ n.faultLine = m.faultLine ∧ n.demand = .off
      ∧ n.state = .cooldown ∧ n.out = true ∧ n.called = false ∧ n.since = 0 ∧ n.timer = some (1000 * s.item 7)
      ∧ n.history.head?.map (fun r => (r.kind, r.cls)) = some (.ballastFault, .abort) := by
  subst was now
  have items : (s.condition x .ballastFault).item 7 = s.item 7 := by
    unfold State.item State.condition
    rw [State.offer_conf, State.setLamp_conf]
  unfold State.extinguish
  rw [State.lamp_moveLamp_same, State.lamp_condition_same]
  refine ⟨rfl, rfl, rfl, rfl, rfl, Bool.or_true _, rfl, rfl, congrArg (fun i => some (1000 * i)) items, ?_⟩
  exact congrArg (fun c => some (IncidentKind.ballastFault, c)) (if_neg alight)

theorem State.markedOut_moves (s : State) (x : LampId) (b : Bool) :
    s.movesLamp x ((s.condition x .ballastFault).extinguish x true .fault, b) where
  frame := (s.condition_frame x _).trans (State.extinguish_frame _ x _ _)
  partner := by simp
  gone _ := by
    unfold State.extinguish
    rw [State.lamp_moveLamp_same]
    exact ⟨rfl, (Lamp.unavailable_iff _).mpr (.inl (Bool.or_true _)), rfl⟩

/-! ## A fault in IGNITE (R76) -/

theorem State.faultInIgnite_first (first : (s.lamp x).attempts ≤ 1) : s.faultInIgnite x = s.strikeFailed x true :=
  if_pos first

theorem State.faultInIgnite_later (later : ¬ (s.lamp x).attempts ≤ 1) :
    s.faultInIgnite x = ((s.condition x .double).moveLamp x Lamp.outNow true .double, (s.lamp x).called) :=
  if_neg later

theorem State.faultInIgnite_moves (s : State) (x : LampId) : s.movesLamp x (s.faultInIgnite x) := by
  by_cases first : (s.lamp x).attempts ≤ 1
  · rw [State.faultInIgnite_first first]
    exact s.strikeFailed_moves x true
  · rw [State.faultInIgnite_later first]
    exact s.doubleFault_moves x _

/-- A fault takes a called lamp out of play at a later attempt, at its last, and where it is no longer available. -/
theorem State.faultInIgnite_left (s : State) (x : LampId) :
    (s.faultInIgnite x).2 = ((s.lamp x).called
      && (decide (2 ≤ (s.lamp x).attempts ∨ (s.lamp x).attempts = (s.lamp x).limit) || (s.lamp x).out
        || (s.lamp x).expired)) := by
  by_cases first : (s.lamp x).attempts ≤ 1
  · have notLater : ¬ 2 ≤ (s.lamp x).attempts := by omega
    rw [State.faultInIgnite_first first, State.strikeFailed_left]
    simp [notLater, Lamp.available, Bool.or_assoc]
  · have later : 2 ≤ (s.lamp x).attempts := by omega
    rw [State.faultInIgnite_later first]
    simp [later]

/-- What a move concludes, in the shape of the two ends that it can have. -/
theorem State.concludes.ends {r : LampMove} (h : s.concludes x r v) :
    if r.2 = true then s.afterLeaving x v else s.powerFollows false v ∧ v.lamp (otherLamp x) = s.lamp (otherLamp x) := by
  split
  · rename_i left
    exact h.leaves left
  · rename_i stays
    exact h.stays (Bool.eq_false_iff.mpr stays)

/-- The fault line of a lamp stands asserted (R68). -/
def State.faulted (s : State) (x : LampId) : State := s.setLamp x { s.lamp x with faultLine := true }

theorem State.lamp_faulted (s : State) (x : LampId) : (s.faulted x).lamp x = { s.lamp x with faultLine := true } :=
  s.lamp_setLamp_same x _

theorem exec_ballastFault_resting (resting : (s.lamp x).state ∈ [LampState.dark, .cooldown, .hot, .out]) :
    exec (.ballastFault x) s = .next (s.faulted x) := by
  refine congrArg Host.Outcome.next ?_
  dsimp only
  split
  case h_1 | h_2 | h_3 | h_4 => rfl
  all_goals simp_all

theorem exec_ballastFault_busy (busy : (s.lamp x).state ∉ [LampState.dark, .cooldown, .hot, .out]) :
    exec (.ballastFault x) s = .next (LampMove.finish ((s.faulted x).takeFault x) x) := by
  refine congrArg Host.Outcome.next ?_
  dsimp only
  split
  case h_1 | h_2 | h_3 | h_4 => simp_all
  all_goals rfl

/-- Settles O44: the four ends of a fault, each concluded by `State.movesLamp.concludes`. -/
theorem ballastFaultsActByTheLampsState : Obligations.BallastFaultsActByTheLampsState := by
  intro s x m was
  subst was
  have lamp := s.lamp_faulted x
  refine ⟨rfl, ?_⟩
  split
  case h_1 is | h_2 is | h_3 is | h_4 is => exact exec_ballastFault_resting (by simp [is])
  case h_5 is =>
    have taken : (s.faulted x).takeFault x = (s.faulted x).faultInIgnite x := by
      rw [State.takeFault, lamp, is]
    have ends := ((s.faulted x).faultInIgnite_moves x).after_setLamp.concludes
    have left := (s.faulted x).faultInIgnite_left x
    have fault := exec_ballastFault_busy (s := s) (x := x) (by simp [is])
    rw [taken] at fault
    rw [lamp] at left
    have concluded := ends.ends
    rw [left] at concluded
    refine ⟨_, fault, ends.path, ?_⟩
    by_cases first : (s.lamp x).attempts ≤ 1
    · have failed := State.faultInIgnite_first (s := s.faulted x) (x := x) (by rw [lamp]; exact first)
      obtain ⟨wear, strikes, -, line, demand, history, record⟩ :=
        (s.faulted x).strikeFailed_record x true _ _ lamp.symm
          (ends.lamp.trans (congrArg (fun r : LampMove => r.1.lamp x) failed))
      rw [show (s.faulted x).darkened = s.darkened from s.darkened_setLamp x _] at record
      refine ⟨line, wear, strikes, demand, concluded, fun later => absurd later (by omega), fun once => ?_⟩
      have cls : ((s.faulted x).incidentOf x .ballastFault).cls = .retry := by
        rw [State.incidentOf, lamp]
        exact if_pos is
      split
      · rename_i last
        have last : (s.lamp x).called = true ∧ (s.lamp x).attempts = (s.lamp x).limit := ⟨last.1, once.trans last.2.symm⟩
        obtain ⟨out, -, uncalled⟩ := (if_pos last).mp record
        refine ⟨out, uncalled, ?_⟩
        rw [history.trans (congrArg (List.take 4) (if_pos last))]
        rfl
      · rename_i more
        have more : ¬((s.lamp x).called = true ∧ (s.lamp x).attempts = (s.lamp x).limit) :=
          fun h => more ⟨h.1, h.2.symm.trans once⟩
        have record := (if_neg more).mp record
        refine ⟨?_, ?_⟩
        · rw [history.trans (congrArg (List.take 4) (if_neg more))]
          exact congrArg (fun c => some (IncidentKind.ballastFault, c)) cls
        · split
          · rename_i ended
            obtain ⟨state, -, uncalled, -⟩ := (if_pos ended).mp record
            exact ⟨uncalled, state⟩
          · rename_i retries
            obtain ⟨waits, called, timer⟩ := (if_neg retries).mp record
            refine ⟨called, waits, timer.trans ?_⟩
            rw [once]
            simp
    · have double := State.faultInIgnite_later (s := s.faulted x) (x := x) (by rw [lamp]; exact first)
      obtain ⟨wear, strikes, line, demand, out, marked, uncalled, unpending, -, -, kind⟩ :=
        (s.faulted x).doubleFault_record x _ _ lamp.symm
          (ends.lamp.trans (congrArg (fun r : LampMove => r.1.lamp x) double))
      exact ⟨line, wear, strikes, demand, concluded, fun _ => ⟨out, marked, uncalled, unpending, kind⟩,
        fun once => absurd once (by omega)⟩
  case h_6 is =>
    have taken : (s.faulted x).takeFault x
        = (((s.faulted x).condition x .double).moveLamp x Lamp.outNow true .double, true) := by
      rw [State.takeFault, lamp, is]
    have ends := ((s.faulted x).doubleFault_moves x true).after_setLamp.concludes
    have fault := exec_ballastFault_busy (s := s) (x := x) (by simp [is])
    rw [taken] at fault
    obtain ⟨wear, strikes, line, demand, out, marked, uncalled, unpending, timer, -, kind⟩ :=
      (s.faulted x).doubleFault_record x _ _ lamp.symm ends.lamp
    exact ⟨_, fault, ends.path, line, wear, strikes, ends.ends, out, demand, marked, uncalled, timer, kind⟩
  case h_7 is | h_8 is | h_9 is =>
    have taken : (s.faulted x).takeFault x
        = (((s.faulted x).condition x .ballastFault).extinguish x true .fault, (s.lamp x).called) := by
      rw [State.takeFault, lamp, is]
    have ends := ((s.faulted x).markedOut_moves x (s.lamp x).called).after_setLamp.concludes
    have fault := exec_ballastFault_busy (s := s) (x := x) (by simp [is])
    rw [taken] at fault
    obtain ⟨wear, strikes, line, demand, cooling, marked, uncalled, since, timer, kind⟩ :=
      (s.faulted x).markedOut_record x _ _ lamp.symm (by simp [is]) ends.lamp
    have items : (s.faulted x).item 7 = s.item 7 := by
      unfold State.item
      rw [State.faulted, State.setLamp_conf]
    exact ⟨_, fault, ends.path, line, wear, strikes, ends.ends, cooling, demand, marked, uncalled, since,
      items ▸ timer, kind⟩

end Sys2Proof.Machine
end

section
/-! PROOFS. The end of a warm-up, a cooldown, the restrike hold and thermal recovery (R77, R81, R82, R89, R114, R115, R164;
O45). -/

set_option Elab.async false

namespace Sys2Proof.Machine

variable {s t u v : State} {x : LampId}

/-! ## Reaching DARK (R82) -/

/-- A move after another of the same lamp. -/
theorem State.movesLamp.after {r : LampMove} (h : t.movesLamp x r) (frame : s.lampsOnly t)
    (partner : t.lamp (otherLamp x) = s.lamp (otherLamp x)) : s.movesLamp x r :=
  ⟨frame.trans h.frame, h.partner.trans partner, h.gone⟩

theorem State.unavailable_dark (other : (s.lamp x).state ≠ .retryWait) (unfit : (s.lamp x).available = false) :
    s.strike x = (s.moveLamp x (fun m => { m with called := false, waiting := false }) false .unavailable, true) := by
  rw [State.strike_unavailable unfit, if_neg other]

/-- A strike of a lamp in DARK, whatever stands in its way. -/
theorem State.strike_moves (dark : (s.lamp x).state = .dark) : s.movesLamp x (s.strike x) := by
  cases fit : (s.lamp x).available with
  | false =>
    rw [State.unavailable_dark (by simp [dark]) fit]
    have frame := s.moveLamp_frame x (fun m => { m with called := false, waiting := false }) false .unavailable
    refine ⟨frame, s.partner_moveLamp x _ _ _, fun _ => ?_⟩
    rw [State.lamp_moveLamp_same]
    refine ⟨rfl, fit, ?_⟩
    unfold State.moved
    rw [dark]
    rfl
  | true =>
    have entered := s.igniteEntered_strikes x
    unfold State.strike
    rw [if_pos fit, State.ignite_eq]
    split
    · exact (State.faultInIgnite_moves _ x).after entered.frame entered.partner
    · exact entered.moves

/-- A lamp in HOT on its way to DARK, before a strike of a waiting one. -/
def State.darkNow (s : State) (x : LampId) : State :=
  s.moveLamp x (fun m => { m with state := .dark, waiting := false }) false .ready

theorem State.lamp_darkNow (s : State) (x : LampId) :
    (s.darkNow x).lamp x = { s.lamp x with state := .dark, demand := .off, waiting := false, wakeTimer := none } :=
  s.lamp_moveLamp_same x _ _ _

theorem State.reachDark_eq (s : State) (x : LampId) :
    s.reachDark x = if (s.lamp x).waiting then (s.darkNow x).strike x else (s.darkNow x, false) := rfl

theorem State.darkNow_moves (s : State) (x : LampId) : s.movesLamp x (s.darkNow x, false) :=
  .of_stays (s.moveLamp_frame x _ _ _) (s.partner_moveLamp x _ _ _)

theorem State.reachDark_moves (s : State) (x : LampId) : s.movesLamp x (s.reachDark x) := by
  rw [State.reachDark_eq]
  split
  · exact (State.strike_moves (by rw [State.lamp_darkNow])).after (s.darkNow_moves x).frame (s.darkNow_moves x).partner
  · exact s.darkNow_moves x

/-- A lamp `m` as it has reached DARK: idle there, struck from there, or taken out of play there (R82). -/
structure State.reaches (x : LampId) (m : Lamp) (r : LampMove) : Prop where
  idle : m.waiting = false → r.2 = false
    ∧ r.1.lamp x = { m with state := .dark, demand := .off, waiting := false, wakeTimer := none }
  ends : m.waiting = true → m.available = false → r.2 = true
    ∧ r.1.lamp x
      = { m with state := .dark, demand := .off, waiting := false, called := false, wakeTimer := none }
  strikes : m.waiting = true → m.available = true → m.faultLine = false → r.2 = false ∧ r.1.lastStruck = some x
    ∧ Lamp.struck { m with state := .dark, demand := .off, waiting := false, wakeTimer := none } (r.1.lamp x)

theorem State.reachDark_reaches (s : State) (x : LampId) : State.reaches x (s.lamp x) (s.reachDark x) where
  idle idle := by
    rw [State.reachDark_eq, idle]
    exact ⟨rfl, s.lamp_darkNow x⟩
  ends waiting unfit := by
    have dark := s.lamp_darkNow x
    rw [State.reachDark_eq, waiting, if_pos rfl,
      State.unavailable_dark (by rw [dark]; nofun) (by rw [dark]; exact unfit), State.lamp_moveLamp_same, dark]
    exact ⟨rfl, rfl⟩
  strikes waiting fit sound := by
    have dark := s.lamp_darkNow x
    obtain ⟨u, struck, strikes⟩ := (s.darkNow x).strike_healthy (x := x) (by rw [dark]; exact fit)
      (by rw [dark]; exact sound)
    have lamp := strikes.lamp
    rw [dark] at lamp
    rw [State.reachDark_eq, waiting, if_pos rfl, struck]
    exact ⟨rfl, strikes.lastStruck, lamp⟩

/-! ## The end of a cooldown (R81) -/

theorem State.cooled_out (out : (s.lamp x).out = true) :
    s.cooled x = (s.moveLamp x (fun m => { m with state := .out, timer := none }) true .cooled, false) := if_pos out

/-- A lamp cooled into HOT. -/
def State.hotNow (s : State) (x : LampId) : State :=
  s.moveLamp x (fun m => { m with state := .hot, timer := none }) false .cooled

theorem State.cooled_short (inService : (s.lamp x).out = false) (short : (s.lamp x).since < s.restrikeHold) :
    s.cooled x = (s.hotNow x, false) := by
  unfold State.cooled
  rw [inService, if_neg Bool.false_ne_true]
  exact if_neg (by omega)

theorem State.cooled_long (inService : (s.lamp x).out = false) (long : ¬ (s.lamp x).since < s.restrikeHold) :
    s.cooled x = (s.hotNow x).reachDark x := by
  unfold State.cooled
  rw [inService, if_neg Bool.false_ne_true]
  exact if_pos (by omega)

theorem State.lamp_hotNow (s : State) (x : LampId) :
    (s.hotNow x).lamp x = { s.lamp x with state := .hot, demand := .off, timer := none, wakeTimer := none } :=
  s.lamp_moveLamp_same x _ _ _

theorem State.hotNow_moves (s : State) (x : LampId) : s.movesLamp x (s.hotNow x, false) :=
  .of_stays (s.moveLamp_frame x _ _ _) (s.partner_moveLamp x _ _ _)

theorem State.cooled_moves (s : State) (x : LampId) : s.movesLamp x (s.cooled x) := by
  cases out : (s.lamp x).out with
  | true =>
    rw [State.cooled_out out]
    exact .of_stays (s.moveLamp_frame x _ _ _) (s.partner_moveLamp x _ _ _)
  | false =>
    by_cases short : (s.lamp x).since < s.restrikeHold
    · rw [State.cooled_short out short]
      exact s.hotNow_moves x
    · rw [State.cooled_long out short]
      exact (State.reachDark_moves _ x).after (s.hotNow_moves x).frame (s.hotNow_moves x).partner

/-! ## The end of thermal recovery (R114, R115) -/

/-- A move drives the fan, so the fan runs in thermal recovery (R69). -/
theorem State.fan_moveLamp (hot : s.recovery = true) (x : LampId) (f : Lamp → Lamp) (b : Bool) (c : LampCause) :
    (s.moveLamp x f b c).fan = true := by
  unfold State.moveLamp State.reportLamp State.checkpointFor State.checkpoint State.beginLampWrite
  cases b with
  | false => simp [State.putLamp, State.driveFan, hot]
  | true =>
    rw [State.offer_fan, if_pos rfl]
    split <;> simp [State.putLamp, State.driveFan, hot]

/-- The entry to SHUTDOWN leaves the lamps, their wake timers apart. -/
theorem State.lamp_enterShutdown (s : State) (c : PowerCause) (x : LampId) :
    (s.enterShutdown c).lamp x = { s.lamp x with wakeTimer := none } :=
  ((s.enterShutdown_calm c).lamp x).trans (State.lamp_stopWake _ x)

/-- The end of recovery with the latch set or the input asserted: SHUTDOWN, with recovery as it stands (R115). -/
theorem State.endRecovery_alarmed (alarmed : s.latch = true ∨ s.thermalInput = true) :
    s.endRecovery.recovery = s.recovery ∧ s.endRecovery.fan = s.fan ∧ s.endRecovery.latch = s.latch
      ∧ s.endRecovery.power.state = .shutdown ∧ s.endRecovery.power.intent = false
      ∧ s.endRecovery.lastStruck = s.lastStruck ∧ ∀ x, s.endRecovery.lamp x = { s.lamp x with wakeTimer := none } := by
  let off := (s.reportThermal .shutdown).setPower { s.power with intent := false }
  have ends : s.endRecovery = off.enterShutdown .thermal := if_pos (by simpa using alarmed)
  have calm := off.enterShutdown_calm .thermal
  rw [ends]
  exact ⟨calm.recovery, calm.fan, calm.latch, calm.state, calm.intent, calm.lastStruck, fun x =>
    (off.lamp_enterShutdown .thermal x).trans (by cases x <;> rfl)⟩

/-- STOPPING goes on to STANDBY at the most: the lamps, the recovery and the lines stay (R164). -/
theorem State.tryStandby_calm (s : State) : ∃ p d, s.becomes p d s.tryStandby := by
  by_cases stopping : s.power.state = .stopping
  · obtain ⟨p, d, become, -⟩ := s.tryStandby_becomes stopping
    exact ⟨p, d, become⟩
  · rw [State.tryStandby_of_other stopping]
    exact ⟨_, _, State.calm.refl s⟩

/-- The end of recovery with the latch clear and the input released: recovery clears with RECOVERED (R114). -/
theorem State.endRecovery_clear (latch : s.latch = false) (input : s.thermalInput = false) :
    s.endRecovery = ((s.setRecovery false).offer
        (.thermal { event := .recovered, input := false, recovery := false, latch := false })).tryStandby
      ∧ s.endRecovery.recovery = false ∧ s.endRecovery.fan = s.cooling ∧ s.endRecovery.latch = s.latch
      ∧ s.endRecovery.lastStruck = s.lastStruck ∧ ∀ x, s.endRecovery.lamp x = s.lamp x := by
  have ends : s.endRecovery = ((s.setRecovery false).reportThermal .recovered).tryStandby :=
    if_neg (by simp [latch, input])
  obtain ⟨p, d, become⟩ := ((s.setRecovery false).reportThermal .recovered).tryStandby_calm
  refine ⟨?_, ?_⟩
  · rw [ends]
    unfold State.reportThermal
    rw [State.setRecovery_thermalInput, State.setRecovery_latch, input, latch]
    rfl
  · rw [ends]
    refine ⟨become.recovery, become.fan.trans ?_, become.latch, become.lastStruck, fun x =>
      (become.lamp x).trans (by cases x <;> rfl)⟩
    exact Bool.or_false _

/-- The end of recovery touches no lamp but its wake timer. -/
theorem State.lamp_tryEndRecovery (s : State) (x : LampId) :
    (∃ k, s.tryEndRecovery.lamp x = { s.lamp x with wakeTimer := k }) ∧ s.tryEndRecovery.lastStruck = s.lastStruck := by
  unfold State.tryEndRecovery
  split
  · by_cases alarmed : s.latch = true ∨ s.thermalInput = true
    · obtain ⟨-, -, -, -, -, last, lamps⟩ := State.endRecovery_alarmed alarmed
      exact ⟨⟨none, lamps x⟩, last⟩
    · rw [not_or, Bool.not_eq_true, Bool.not_eq_true] at alarmed
      obtain ⟨-, -, -, -, last, lamps⟩ := State.endRecovery_clear alarmed.1 alarmed.2
      exact ⟨⟨_, lamps x⟩, last⟩
  · exact ⟨⟨_, rfl⟩, rfl⟩

/-! ## What a lamp that reaches DARK leaves (O45) -/

/-- `v` has lamp `x` in DARK, struck from there, or taken out of play there, as it was `m` before (R82). -/
def State.darkReached (x : LampId) (m : Lamp) (v : State) : Prop :=
  if m.waiting = true then
    if m.out = false ∧ m.expired = false then
      m.faultLine = false →
        (v.lamp x).state = .ignite ∧ (v.lamp x).demand = .ignite ∧ (v.lamp x).timer = some 2000
          ∧ (v.lamp x).attempts = m.attempts + 1 ∧ (v.lamp x).waiting = false ∧ v.lastStruck = some x
    else (v.lamp x).state = .dark ∧ (v.lamp x).called = false ∧ (v.lamp x).waiting = false
  else (v.lamp x).state = .dark ∧ (v.lamp x).demand = .off ∧ (v.lamp x).called = m.called

theorem State.reaches.darkReached {m : Lamp} {r : LampMove} (h : State.reaches x m r)
    (lamp : ∃ k, v.lamp x = { r.1.lamp x with wakeTimer := k }) (last : r.2 = false → v.lastStruck = r.1.lastStruck) :
    State.darkReached x m v := by
  obtain ⟨k, lamp⟩ := lamp
  unfold State.darkReached
  rw [lamp]
  split
  · rename_i waiting
    split
    · rename_i fit
      intro sound
      obtain ⟨stays, struck, made⟩ := h.strikes waiting ((Lamp.available_iff _).mpr fit) sound
      rw [made, last stays]
      exact ⟨rfl, rfl, rfl, rfl, rfl, struck⟩
    · rename_i unfit
      rw [← Lamp.available_iff, Bool.not_eq_true] at unfit
      rw [(h.ends waiting unfit).2]
      exact ⟨rfl, rfl, rfl⟩
  · rename_i idle
    rw [(h.idle (Bool.eq_false_iff.mpr idle)).2]
    exact ⟨rfl, rfl, rfl⟩

/-- What follows a lamp's way to DARK: failover where it leaves play there, and the power unit's tests alone otherwise. -/
theorem State.reaches.follows {m : Lamp} {r : LampMove} (h : State.reaches x m r) (ends : s.concludes x r v) :
    if m.waiting = true ∧ (m.out = true ∨ m.expired = true) then s.afterLeaving x v
    else (m.waiting = true → m.faultLine = false) →
      s.powerFollows false v ∧ v.lamp (otherLamp x) = s.lamp (otherLamp x) := by
  split
  · rename_i gone
    exact ends.leaves (h.ends gone.1 ((Lamp.unavailable_iff _).mpr gone.2)).1
  · rename_i inPlay
    intro sound
    refine ends.stays ?_
    by_cases waiting : m.waiting = true
    · have fit : m.available = true := by
        rw [← Bool.not_eq_false, Lamp.unavailable_iff]
        exact fun unfit => inPlay ⟨waiting, unfit⟩
      exact (h.strikes waiting fit (sound waiting)).1
    · exact (h.idle (Bool.eq_false_iff.mpr waiting)).1

/-! ## The end of a warm-up (R77) -/

@[simp] theorem State.lamp_conditionIf_same (s : State) (b : Bool) (x : LampId) (k : IncidentKind) :
    (s.conditionIf b x k).lamp x = { s.lamp x with
      history := if b then (s.incidentOf x k :: (s.lamp x).history).take Config.historyPlaces
        else (s.lamp x).history } := by
  unfold State.conditionIf
  split
  · exact s.lamp_condition_same x k
  · rfl

@[simp] theorem State.partner_conditionIf (s : State) (b : Bool) (x : LampId) (k : IncidentKind) :
    (s.conditionIf b x k).lamp (otherLamp x) = s.lamp (otherLamp x) := by
  unfold State.conditionIf
  split
  · exact s.partner_condition x k
  · rfl

/-- The lamp sampled at the end of its warm-up, a weak arc noted (R77). -/
def State.sampled (s : State) (x : LampId) (weak : Bool) : State := (s.ranOut x).conditionIf weak x .arcWeak

theorem State.sampled_frame (s : State) (x : LampId) (weak : Bool) : s.lampsOnly (s.sampled x weak) :=
  (s.setLamp_frame x _).trans (State.conditionIf_frame _ weak x _)

theorem State.lamp_sampled (s : State) (x : LampId) (weak : Bool) (warm : (s.lamp x).state = .warmup) :
    (s.sampled x weak).lamp x = { s.lamp x with
      since := (s.lamp x).since + (s.lamp x).timer.getD 0, timer := none
      history := if weak then
          ({ kind := .arcWeak, cls := .note, lampState := .warmup, wear := (s.lamp x).wear
             time := s.clock.map (·.now) } : Incident) :: (s.lamp x).history |>.take 4
        else (s.lamp x).history } := by
  have record : (s.ranOut x).incidentOf x .arcWeak
      = { kind := .arcWeak, cls := .note, lampState := .warmup, wear := (s.lamp x).wear
          time := s.clock.map (·.now) } := by
    unfold State.incidentOf State.dateTime
    rw [State.lamp_ranOut, warm, State.ranOut, State.setLamp_clock]
    rfl
  unfold State.sampled
  rw [State.lamp_conditionIf_same, record, State.lamp_ranOut]
  rfl

theorem State.partner_sampled (s : State) (x : LampId) (weak : Bool) :
    (s.sampled x weak).lamp (otherLamp x) = s.lamp (otherLamp x) := by
  unfold State.sampled State.ranOut
  rw [State.partner_conditionIf, State.partner_setLamp]

theorem State.partner_warmed (s : State) (x : LampId) : (s.warmed x).lamp (otherLamp x) = s.lamp (otherLamp x) := by
  unfold State.warmed
  split
  · exact s.partner_extinguish x _ _
  · exact s.partner_moveLamp x _ _ _

/-- Where the end of a warm-up takes the lamp (R77). -/
theorem State.lamp_warmed (s : State) (x : LampId) (m n : Lamp) (was : m = s.lamp x) (now : n = (s.warmed x).lamp x) :
    n.history = m.history
      ∧ if m.pendingOff = true then
          n.state = .cooldown ∧ n.demand = .off ∧ n.called = false ∧ n.since = 0 ∧ n.timer = some (1000 * s.item 7)
        else if s.power.state = .dimmed ∧ m.wakeLate < s.item 31 then
          n.state = .dimmed ∧ n.demand = .dim ∧ n.called = m.called
        else n.state = .lit ∧ n.called = m.called ∧ n.demand = (if s.conf.lampLevel = .full then .full else .eco) := by
  subst was now
  unfold State.warmed State.extinguish
  split
  · rw [State.lamp_moveLamp_same]
    exact ⟨rfl, rfl, rfl, rfl, rfl, rfl⟩
  · rw [State.lamp_moveLamp_same]
    refine ⟨rfl, ?_⟩
    unfold State.moved State.warmedTo
    split
    · exact ⟨rfl, rfl, rfl⟩
    · refine ⟨rfl, rfl, ?_⟩
      cases s.conf.lampLevel <;> rfl

/-! ## The last cooldown under thermal recovery (R114, R115) -/

theorem State.cooling_iff (s : State) (x : LampId) :
    s.cooling = true ↔ (s.lamp x).state = .cooldown ∨ (s.lamp (otherLamp x)).state = .cooldown := by
  cases x with
  | a => simp [State.cooling, otherLamp, State.lamp]
  | b => simp [State.cooling, otherLamp, State.lamp, or_comm]

theorem State.mayRest_iff (s : State) (x : LampId) : s.mayRest ↔ s.recovery = false
    ∧ (s.lamp x).state ∈ [LampState.dark, .retryWait, .hot, .out]
    ∧ (s.lamp (otherLamp x)).state ∈ [LampState.dark, .retryWait, .hot, .out] := by
  cases x with
  | a => exact Iff.rfl
  | b => exact and_congr_right fun _ => and_comm

/-- In recovery a lamp event leaves STANDBY and STOPPING as they are (R164). -/
theorem State.lampEvent_hot (hot : s.recovery = true) (rests : s.power.state = .standby ∨ s.power.state = .stopping)
    (told : PlaySignal) : ∃ d, s.becomes s.power.state d (s.lampEvent told) := by
  obtain standby | stopping := rests
  · exact State.lampEvent_resting (.inl standby)
  · obtain ⟨p, d, become, -, stays⟩ := State.lampEvent_stopping (told := told) stopping
    rw [stays fun rest => absurd rest.1 (by simp [hot])] at become
    rw [stopping]
    exact ⟨d, become⟩

/-- A cooled lamp that does not wait stays in play, and the fan runs on in recovery (R69, R81). -/
theorem State.cooled_rests (hot : s.recovery = true) (idle : (s.lamp x).waiting = false) :
    (s.cooled x).2 = false ∧ (s.cooled x).1.fan = true
      ∧ ((s.cooled x).1.lamp x).state ∈ [LampState.out, .hot, .dark] := by
  cases out : (s.lamp x).out with
  | true =>
    rw [State.cooled_out out, State.lamp_moveLamp_same]
    exact ⟨rfl, State.fan_moveLamp hot x _ _ _, by simp [State.moved]⟩
  | false =>
    by_cases short : (s.lamp x).since < s.restrikeHold
    · rw [State.cooled_short out short, State.lamp_hotNow]
      exact ⟨rfl, State.fan_moveLamp hot x _ _ _, by simp⟩
    · have still : ((s.hotNow x).lamp x).waiting = false := by rw [State.lamp_hotNow, idle]
      have warm : (s.hotNow x).recovery = true := by rw [(s.hotNow_moves x).frame.recovery, hot]
      rw [State.cooled_long out short, State.reachDark_eq, still, if_neg Bool.false_ne_true, State.lamp_darkNow]
      exact ⟨rfl, State.fan_moveLamp warm x _ _ _, by simp⟩

/-- The end of recovery, tested at a lamp `x` that no longer cools. -/
theorem State.tryEndRecovery_ends (hot : s.recovery = true) (fan : s.fan = true)
    (rests : s.power.state = .standby ∨ s.power.state = .stopping)
    (cold : (s.lamp x).state ∈ [LampState.out, .hot, .dark]) :
    s.tryEndRecovery.latch = s.latch
      ∧ if (s.lamp (otherLamp x)).state = .cooldown then
          s.tryEndRecovery.recovery = true ∧ s.tryEndRecovery.power.state = s.power.state
        else if s.latch = true ∨ s.thermalInput = true then
          s.tryEndRecovery.recovery = true ∧ s.tryEndRecovery.fan = true
            ∧ s.tryEndRecovery.power.state = .shutdown ∧ s.tryEndRecovery.power.intent = false
        else
          s.tryEndRecovery.recovery = false ∧ s.tryEndRecovery.fan = false
          ∧ s.tryEndRecovery.power.state
            = (if (s.lamp (otherLamp x)).state.busy = true then s.power.state else .standby)
          ∧ ∃ w : State, w.recovery = false
            ∧ s.tryEndRecovery = (w.offer (.thermal
              { event := .recovered, input := false, recovery := false, latch := false })).tryStandby := by
  have cooling := s.cooling_iff x
  have running : s.power.state ≠ .shutdown := by
    obtain is | is := rests <;> (rw [is]; nofun)
  have notCooling : (s.lamp x).state ≠ .cooldown := by
    intro is
    rw [is] at cold
    simp at cold
  split
  · rename_i partner
    have stays : s.tryEndRecovery = s := if_neg fun h => h.2.1 (cooling.mpr (.inr partner))
    rw [stays]
    exact ⟨rfl, hot, rfl⟩
  · rename_i partner
    have cool : s.cooling = false := by
      rw [← Bool.not_eq_true, cooling, not_or]
      exact ⟨notCooling, partner⟩
    have ends : s.tryEndRecovery = s.endRecovery := if_pos ⟨hot, by simp [cool], running⟩
    rw [ends]
    split
    · rename_i alarmed
      obtain ⟨recovery, line, latch, state, intent, -, -⟩ := State.endRecovery_alarmed alarmed
      exact ⟨latch, recovery.trans hot, line.trans fan, state, intent⟩
    · rename_i clear
      rw [not_or, Bool.not_eq_true, Bool.not_eq_true] at clear
      obtain ⟨told, recovery, line, latch, -, -⟩ := State.endRecovery_clear clear.1 clear.2
      refine ⟨latch, recovery, line.trans cool, ?_, s.setRecovery false, rfl, told⟩
      rw [told]
      generalize reported : (s.setRecovery false).offer
        (.thermal { event := .recovered, input := false, recovery := false, latch := false }) = w
      have lamps (y : LampId) : w.lamp y = s.lamp y := by rw [← reported]; cases y <;> rfl
      have state : w.power.state = s.power.state := by rw [← reported]; rfl
      have rest : w.mayRest ↔ (s.lamp (otherLamp x)).state.busy ≠ true := by
        rw [w.mayRest_iff x, lamps, lamps, ← LampState.not_busy_iff, ← LampState.not_busy_iff]
        have idle : ¬ (s.lamp x).state.busy = true := by
          rw [LampState.not_busy_iff]
          simp only [List.mem_cons, List.not_mem_nil, or_false] at cold ⊢
          tauto
        simp [← reported, idle]
      obtain standby | stopping := rests
      · rw [State.tryStandby_of_other (by rw [state, standby]; nofun), state, standby, ite_self]
      · obtain ⟨p, d, become, goes, stays, -⟩ := w.tryStandby_becomes (by rw [state]; exact stopping)
        rw [become.state]
        split
        · rename_i busy
          rw [stopping]
          exact stays fun h => rest.mp h busy
        · rename_i idle
          exact goes (rest.mpr idle)

/-! ## O45 -/

theorem LampMove.finish_recovery (r : LampMove) (x : LampId) : (LampMove.finish r x).recovery = r.1.recovery :=
  (State.lampEvent_entered _ _).recovery.trans (LampMove.settle_frame r x).recovery

/-- The end of a cooldown: the lamp OUT, in HOT, or on its way to DARK (R81). -/
theorem State.cooled_record (s : State) (x : LampId) (m : Lamp) (was : m = s.lamp x) :
    if m.out = true then
      (s.cooled x).2 = false ∧ ((s.cooled x).1.lamp x).state = .out ∧ ((s.cooled x).1.lamp x).demand = .off
        ∧ ((s.cooled x).1.lamp x).timer = none
    else if m.since < 1000 * max (s.item 8) (s.item 7) then
      (s.cooled x).2 = false ∧ ((s.cooled x).1.lamp x).state = .hot ∧ ((s.cooled x).1.lamp x).demand = .off
        ∧ ((s.cooled x).1.lamp x).waiting = m.waiting ∧ ((s.cooled x).1.lamp x).called = m.called
    else State.reaches x { m with state := .hot, demand := .off, timer := none, wakeTimer := none } (s.cooled x) := by
  subst was
  split
  · rename_i out
    rw [State.cooled_out out, State.lamp_moveLamp_same]
    exact ⟨rfl, rfl, rfl, rfl⟩
  · rename_i inService
    rw [Bool.not_eq_true] at inService
    split
    · rename_i short
      rw [State.cooled_short inService short, State.lamp_hotNow]
      exact ⟨rfl, rfl, rfl, rfl, rfl⟩
    · rename_i long
      rw [State.cooled_long inService long, ← s.lamp_hotNow x]
      exact State.reachDark_reaches _ x

theorem State.item_ranOut (s : State) (x : LampId) (n : Fin 104) : (s.ranOut x).item n = s.item n := by
  unfold State.item State.ranOut
  rw [State.setLamp_conf]

/-- Settles O45: warm-up, cooldown and hold, each concluded by `State.movesLamp.concludes`; a cooldown in recovery by
`State.tryEndRecovery_ends`. -/
theorem warmUpsCooldownsAndHoldsEnd : Obligations.WarmUpsCooldownsAndHoldsEnd := by
  intro s x m was
  subst was
  refine ⟨fun weak => ?_, ?_, ?_⟩
  · split
    · rename_i timing
      let sampled := s.sampled x weak
      have sampledLamp := s.lamp_sampled x weak timing.1
      have moves : s.movesLamp x (sampled.warmed x, false) :=
        .of_stays ((s.sampled_frame x weak).trans (sampled.warmed_frame x))
          ((sampled.partner_warmed x).trans (s.partner_sampled x weak))
      have ends := moves.concludes
      obtain ⟨history, record⟩ := sampled.lamp_warmed x _ _ sampledLamp.symm ends.lamp
      have conf : sampled.conf = s.conf := (s.sampled_frame x weak).conf
      have power : sampled.power = s.power := (s.sampled_frame x weak).power
      unfold State.item at record
      rw [conf, power] at record
      exact ⟨_, congrArg Host.Outcome.next (if_pos ((Lamp.timing_iff _ _).mpr timing)), ends.path, ends.stays rfl,
        history, record⟩
    · rename_i other
      exact congrArg Host.Outcome.next (if_neg (by rw [Lamp.timing_iff]; exact other))
  · split
    · rename_i timing
      obtain ⟨r, cooled⟩ : ∃ r, r = (s.ranOut x).cooled x := ⟨_, rfl⟩
      have moves : s.movesLamp x r := cooled ▸ ((s.ranOut x).cooled_moves x).after_setLamp
      have ends := moves.concludes
      have record := (s.ranOut x).cooled_record x _ (s.lamp_ranOut x).symm
      rw [State.item_ranOut, State.item_ranOut, ← cooled] at record
      dsimp only at record
      obtain ⟨w, finished⟩ : ∃ w, w = LampMove.finish r x := ⟨_, rfl⟩
      rw [← finished] at ends
      obtain ⟨⟨k, lamp⟩, last⟩ := w.lamp_tryEndRecovery x
      have recovery : w.recovery = s.recovery := by rw [finished, LampMove.finish_recovery, moves.frame.recovery]
      refine ⟨w.tryEndRecovery, ?_, ends.path.trans w.tryEndRecovery_frame, fun cool => ?_, fun hot rests idle => ?_, ?_⟩
      · rw [finished, cooled]
        exact congrArg Host.Outcome.next (if_pos ((Lamp.timing_iff _ _).mpr timing))
      · have same : w.tryEndRecovery = w := if_neg fun h => absurd h.1 (by simp [recovery, cool])
        rw [same]
        split
        · rename_i stays
          refine ends.stays ?_
          by_cases out : (s.lamp x).out = true
          · exact ((if_pos out).mp record).1
          · exact ((if_pos (stays.resolve_left out)).mp ((if_neg out).mp record)).1
        · rename_i goes
          rw [not_or] at goes
          have reaches := (if_neg goes.2).mp ((if_neg goes.1).mp record)
          exact reaches.follows ends
      · have warm : (s.ranOut x).recovery = true := by rw [State.ranOut, State.setLamp_recovery, hot]
        have rested := State.cooled_rests warm (by rw [State.lamp_ranOut]; exact idle)
        rw [← cooled] at rested
        obtain ⟨stays, fan, cold⟩ := rested
        have event : w = r.1.lampEvent .none := by
          rw [finished, LampMove.finish, LampMove.settle, stays]
          rfl
        obtain ⟨d, become⟩ := State.lampEvent_hot (s := r.1) (by rw [moves.frame.recovery, hot])
          (by rw [moves.frame.power]; exact rests) .none
        rw [← event] at become
        have kept : r.1.power.state = s.power.state := by rw [moves.frame.power]
        have state : w.power.state = s.power.state := become.state.trans kept
        have latch : w.latch = s.latch := by rw [ends.path]
        have input : w.thermalInput = s.thermalInput := by rw [ends.path]
        have rested : w.power.state = .standby ∨ w.power.state = .stopping := by rw [state]; exact rests
        have still : (w.lamp x).state ∈ [LampState.out, .hot, .dark] := by rw [become.lamp x]; exact cold
        have concluded := State.tryEndRecovery_ends (recovery.trans hot) (become.fan.trans fan) rested still
        rw [latch, input, state, become.lamp, moves.partner] at concluded
        exact concluded
      · split
        · rename_i out
          obtain ⟨-, state, demand, timer⟩ := (if_pos out).mp record
          rw [lamp, ends.lamp]
          exact ⟨state, demand, timer⟩
        · rename_i inService
          have record := (if_neg inService).mp record
          split
          · rename_i short
            obtain ⟨-, hot⟩ := (if_pos short).mp record
            rw [lamp, ends.lamp]
            exact hot
          · rename_i long
            have reaches := (if_neg long).mp record
            exact reaches.darkReached ⟨k, by rw [lamp, ends.lamp]⟩
              fun stays => last.trans (ends.lastStruck stays)
    · rename_i other
      exact congrArg Host.Outcome.next (if_neg (by rw [Lamp.timing_iff]; exact other))
  · split
    · rename_i is
      have ends := ((s.heldOut x).reachDark_moves x).after_setLamp.concludes
      have reaches := (s.heldOut x).reachDark_reaches x
      rw [State.lamp_heldOut] at reaches
      exact ⟨_, congrArg Host.Outcome.next (if_pos is), ends.path,
        reaches.darkReached ⟨_, ends.lamp⟩ ends.lastStruck, reaches.follows ends⟩
    · rename_i other
      exact congrArg Host.Outcome.next (if_neg other)

end Sys2Proof.Machine
end

section
/-! PROOFS. A thermal alarm: the switch unit at rest, the lamps stopped, and thermal recovery begun (R84, R111 to R115,
R138; O47). -/

set_option Elab.async false

namespace Sys2Proof.Machine

variable {s t u v : State} {x : LampId} {i : InputId} {muted : Bool} {shown fresh : Prop}

/-! ## The switch unit at rest (R138, R154) -/

/-- The switch unit at rest on input `i` with nothing in flight, pending or held, its lines driven; where it is `shown` the
picture is that input's, and where it is `fresh` the picture is fitted anew and with the scaler. -/
def State.switchedOff (i : InputId) (muted : Bool) (shown fresh : Prop) (v : State) : Prop :=
  v.sw.inFlight = none ∧ v.sw.slot = none ∧ v.sw.hold = none ∧ v.sw.mute = muted ∧ v.sw.selected = i
    ∧ v.sw.selectLines = v.sw.selected ∧ v.sw.blankLine = v.sw.mute
    ∧ (shown → v.geo.input = v.sw.selected)
    ∧ (fresh → v.runPicture.geo = v.geo ∧ v.geo.deferred = false ∧ v.scaler = v.geo.update)

/-- The picture of an input is fitted by the input's record, the settings and the geometry in force. -/
theorem State.runPicture_geo_of_same (input : t.input t.sw.selected = s.input s.sw.selected)
    (selected : t.sw.selected = s.sw.selected) (conf : t.conf = s.conf) (geo : t.geo = s.geo) :
    t.runPicture.geo = s.runPicture.geo := by
  have rect : t.pictureRect = s.pictureRect := by
    unfold State.pictureRect State.stableFormat State.formatIndex State.aspectMode State.item
    rw [input, selected, conf]
  unfold State.runPicture
  dsimp only
  rw [rect, geo, selected]

theorem State.switchedOff.of_same (h : s.switchedOff i muted shown fresh) (inputs : t.inputs = s.inputs := by rfl)
    (sw : t.sw = s.sw := by rfl) (conf : t.conf = s.conf := by rfl) (geo : t.geo = s.geo := by rfl)
    (scaler : t.scaler = s.scaler := by rfl) : t.switchedOff i muted shown fresh := by
  have picture : t.runPicture.geo = s.runPicture.geo :=
    State.runPicture_geo_of_same (by unfold State.input; rw [inputs, sw]) (by rw [sw]) conf geo
  unfold State.switchedOff
  rw [picture, sw, geo, scaler]
  exact h

theorem State.switchedOff.retestWatch (h : s.switchedOff i muted shown fresh) :
    s.retestWatch.switchedOff i muted shown fresh := by
  have watched (w : Watch) (g : Timer) : (s.putSwitch { s.sw with watch := w, grace := g }).switchedOff i muted shown
      fresh := by
    obtain ⟨flight, slot, hold, mute, selected, lines, blank, picture, fitted⟩ := h
    refine ⟨flight, slot, hold, mute, selected, ?_, ?_, picture, fitted⟩
    · show (match s.sw.inFlight with | some w => _ | none => _) = _
      rw [flight]
      rfl
    · show (s.sw.inFlight.isSome || s.sw.mute) = _
      rw [flight]
      rfl
  unfold State.retestWatch
  split
  · split
    · exact watched _ _
    · exact h
  · exact watched _ _

/-- The picture fitted anew and sent is fresh. -/
theorem State.switchedOff.sourceEvent (h : s.switchedOff i muted False False) :
    s.sourceEvent.switchedOff i muted shown fresh := by
  obtain ⟨flight, slot, hold, mute, selected, lines, blank, -, -⟩ := h
  have sent : s.sourceEvent = s.runPicture.sendUpdate .source false := by
    unfold State.sourceEvent State.dueUpdate
    rw [show s.runPicture.sw.inFlight = none from flight]
    rfl
  rw [sent]
  exact ⟨flight, slot, hold, mute, selected, lines, blank, fun _ => rfl, fun _ => ⟨rfl, rfl, rfl⟩⟩

theorem State.switchedOff.sourceSeen (h : s.switchedOff i muted shown fresh) (lit : s.power.state ≠ .dimmed) (b : Bool) :
    (s.sourceSeen b).switchedOff i muted shown fresh := by
  have idled : s.retestIdle.switchedOff i muted shown fresh := h.of_same
  unfold State.sourceSeen State.signalReturned
  split
  · split
    · exact absurd ‹_› lit
    · split
      · exact h.of_same
      · exact idled
    all_goals exact idled
  · exact idled

/-- An input that changes its signal state shows at the picture where it is the selected one. -/
theorem State.switchedOff.signalChange (h : s.switchedOff i muted shown fresh) (lit : s.power.state ≠ .dimmed)
    (j : InputId) (r : InputRecord) (c : InputCause) : (s.signalChange j r c).switchedOff i muted shown fresh := by
  obtain ⟨flight, slot, hold, mute, selected, lines, blank, picture, fitted⟩ := h
  let told := (s.setInput j r).reportInput j (s.input j).signal c
  have settled : told.awaitedSignal j = told := by
    unfold State.awaitedSignal
    rw [show told.sw.inFlight = none from flight]
  unfold State.signalChange
  dsimp only
  rw [show (told.awaitedSignal j).retestWatch = told.retestWatch by rw [settled]]
  split
  · have off : told.switchedOff i muted False False := ⟨flight, slot, hold, mute, selected, lines, blank, nofun, nofun⟩
    have calm := told.retestWatch_calm.trans (State.sourceEvent_calm _)
    exact off.retestWatch.sourceEvent.sourceSeen (by rw [calm.state]; exact lit) _
  · rename_i other
    have input : told.input told.sw.selected = s.input s.sw.selected := s.input_setInput_other (Ne.symm other) r
    have same : told.runPicture.geo = s.runPicture.geo := State.runPicture_geo_of_same input rfl rfl rfl
    have off : told.switchedOff i muted shown fresh :=
      ⟨flight, slot, hold, mute, selected, lines, blank, picture, fun new => by rw [same]; exact fitted new⟩
    exact off.retestWatch

theorem State.switchedOff.sleepInputs (h : s.switchedOff i muted shown fresh) (lit : s.power.state ≠ .dimmed) :
    s.sleepInputs.switchedOff i muted shown fresh := by
  have slept (is : List InputId) (s : State) (h : s.switchedOff i muted shown fresh) (lit : s.power.state ≠ .dimmed) :
      (is.foldl State.sleepInput s).switchedOff i muted shown fresh := by
    induction is generalizing s with
    | nil => exact h
    | cons j is ih =>
      have first : (s.sleepInput j).switchedOff i muted shown fresh ∧ (s.sleepInput j).power.state ≠ .dimmed := by
        unfold State.sleepInput
        split
        · exact ⟨h, lit⟩
        · refine ⟨h.signalChange lit j _ _, ?_⟩
          rw [(State.signalChange_calm lit _ _ _).state]
          exact lit
      exact ih _ first.1 first.2
  exact slept _ s h lit

theorem State.switchedOff.closeWindow (h : s.switchedOff i muted shown fresh) (e : ConfirmEvent) :
    (s.closeWindow e).switchedOff i muted shown fresh := by
  unfold State.closeWindow
  split
  · exact h
  · exact h.of_same

/-- A switch in flight is dropped: its target becomes the selected input, shown and fresh (R138, R154). -/
theorem State.stopSwitching_switchedOff (s : State) :
    s.stopSwitching.switchedOff ((s.sw.inFlight.map (·.target)).getD s.sw.selected) s.sw.mute
      (s.geo.input = s.sw.selected ∨ s.sw.inFlight.isSome = true) (s.sw.inFlight.isSome = true) := by
  have dropped : s.dropSwitch.sw.inFlight = none ∧ s.dropSwitch.sw.mute = s.sw.mute
      ∧ s.dropSwitch.sw.selected = (s.sw.inFlight.map (·.target)).getD s.sw.selected
      ∧ (s.geo.input = s.sw.selected ∨ s.sw.inFlight.isSome = true → s.dropSwitch.geo.input = s.dropSwitch.sw.selected)
      ∧ (s.sw.inFlight.isSome = true → s.dropSwitch.runPicture.geo = s.dropSwitch.geo
        ∧ s.dropSwitch.geo.deferred = false ∧ s.dropSwitch.scaler = s.dropSwitch.geo.update) := by
    unfold State.dropSwitch
    split
    · rename_i none
      simp [none]
    · rename_i w flight
      rw [flight]
      exact ⟨rfl, rfl, rfl, fun _ => rfl, fun _ => ⟨rfl, rfl, rfl⟩⟩
  obtain ⟨flight, mute, selected, picture, fitted⟩ := dropped
  let pended := s.dropSwitch.dropPending .superseded
  have pending : pended.sw.inFlight = none ∧ pended.sw.slot = none ∧ pended.sw.mute = s.dropSwitch.sw.mute
      ∧ pended.sw.selected = s.dropSwitch.sw.selected ∧ pended.geo = s.dropSwitch.geo
      ∧ pended.scaler = s.dropSwitch.scaler ∧ pended.inputs = s.dropSwitch.inputs ∧ pended.conf = s.dropSwitch.conf := by
    unfold pended State.dropPending
    split
    · rename_i none
      exact ⟨flight, none, rfl, rfl, rfl, rfl, rfl, rfl⟩
    · exact ⟨flight, rfl, rfl, rfl, rfl, rfl, rfl, rfl⟩
  obtain ⟨flight', slot, mute', selected', geo, scaler, inputs, conf⟩ := pending
  have stopped : s.stopSwitching = pended.putSwitch { pended.sw with hold := none, watch := .watching, grace := none } := rfl
  have fit : s.stopSwitching.runPicture.geo = s.dropSwitch.runPicture.geo := by
    refine State.runPicture_geo_of_same ?_ selected' conf geo
    unfold State.input
    rw [stopped]
    show pended.inputs.get pended.sw.selected = _
    rw [inputs, selected']
  refine ⟨flight', slot, rfl, mute'.trans mute, selected'.trans selected, ?_, ?_, fun was => ?_, fun was => ?_⟩
  · rw [stopped]
    show (match pended.sw.inFlight with | some w => _ | none => _) = _
    rw [flight']
    rfl
  · rw [stopped]
    show (pended.sw.inFlight.isSome || pended.sw.mute) = _
    rw [flight']
    rfl
  · exact (congrArg GeometryUnit.input geo).trans ((picture was).trans selected'.symm)
  · rw [fit]
    show _ = pended.geo ∧ pended.geo.deferred = false ∧ pended.scaler = pended.geo.update
    rw [geo, scaler]
    exact fitted was

theorem State.switchedOff.reportPower (h : s.switchedOff i muted shown fresh) (p : PowerState) (c : PowerCause)
    (o : PowerOutcome) : (s.reportPower p c o).switchedOff i muted shown fresh := h.of_same

theorem State.dropsSwitch_iff (s v : State) :
    s.dropsSwitch v ↔ v.switchedOff ((s.sw.inFlight.map (·.target)).getD s.sw.selected) s.sw.mute
      (s.geo.input = s.sw.selected ∨ s.sw.inFlight.isSome = true) (s.sw.inFlight.isSome = true) := Iff.rfl

theorem State.dropsSwitch.of_before (sw : t.sw = s.sw) (geo : t.geo = s.geo) (h : t.dropsSwitch v) : s.dropsSwitch v := by
  unfold State.dropsSwitch at *
  rw [sw, geo] at h
  exact h

/-- An entry to STOPPING drops the switch in flight (R138). -/
theorem State.enterStopping_dropsSwitch (s : State) (c : PowerCause) (o : PowerOutcome) :
    s.dropsSwitch (s.enterStopping c o) := by
  let entered := (s.setPower { s.power.stopTimers with state := .stopping, degraded := false }).stopWake
  rw [State.dropsSwitch_iff]
  unfold State.enterStopping
  exact (entered.stopSwitching_switchedOff.closeWindow _).reportPower _ _ _

/-- A switch that is dropped stays so through an entry to SHUTDOWN. -/
theorem State.dropsSwitch.enterShutdown (h : s.dropsSwitch t) (c : PowerCause) : s.dropsSwitch (t.enterShutdown c) := by
  let entered := (t.setPower { t.power.stopTimers with state := .shutdown, degraded := false }).stopWake.stopScan
  rw [State.dropsSwitch_iff] at h ⊢
  have begun := h.of_same (t := entered)
  have awake : entered.power.state ≠ .dimmed := nofun
  unfold State.enterShutdown
  exact ((begun.sleepInputs awake).closeWindow _).reportPower _ _ _

/-! ## The lamps at an alarm (R84) -/

/-- A lamp on a thermal alarm (R84). -/
theorem State.thermalLamp_record (s : State) (x : LampId) (m n : Lamp) (was : m = s.lamp x)
    (now : n = (s.thermalLamp x).lamp x) :
    n.history = m.history ∧ match m.state with
      | .ignite | .warmup | .lit | .dimmed =>
        n.state = .cooldown ∧ n.demand = .off ∧ n.called = false ∧ n.pendingOff = false ∧ n.since = 0
          ∧ n.timer = some (1000 * s.item 7) ∧ n.wear = m.wear
      | .retryWait =>
        n.called = false ∧ n.timer = none
          ∧ n.state = if m.since < 1000 * max (s.item 8) (s.item 7) then .hot else .dark
      | .cooldown | .hot =>
        n.state = m.state ∧ n.waiting = false ∧ n.timer = m.timer ∧ n.since = m.since
          ∧ (m.waiting = true → n.called = false)
      | .dark | .out => n.state = m.state := by
  subst was
  cases is : (s.lamp x).state with
  | ignite | warmup | lit | dimmed =>
    have stopped : s.thermalLamp x = s.extinguish x false .thermal := by rw [State.thermalLamp, is]
    rw [now, stopped, State.extinguish, State.lamp_moveLamp_same]
    exact ⟨rfl, rfl, rfl, rfl, rfl, rfl, rfl, rfl⟩
  | retryWait =>
    have stopped : s.thermalLamp x = s.moveLamp x s.endedDark true .thermal := by rw [State.thermalLamp, is]
    obtain ⟨state, -, uncalled, -⟩ := s.endedDark_darkened true (s.lamp x)
    rw [now, stopped, State.lamp_moveLamp_same]
    exact ⟨rfl, uncalled, rfl, state⟩
  | cooldown | hot =>
    by_cases waiting : (s.lamp x).waiting = true
    · have stopped : s.thermalLamp x
          = s.moveLamp x (fun m => { m with called := false, waiting := false }) false .thermal := by
        rw [State.thermalLamp, is]
        exact if_pos waiting
      rw [now, stopped, State.lamp_moveLamp_same]
      exact ⟨rfl, is, rfl, rfl, rfl, fun _ => rfl⟩
    · have stopped : s.thermalLamp x = s := by
        rw [State.thermalLamp, is]
        exact if_neg waiting
      rw [now, stopped]
      exact ⟨rfl, is, Bool.eq_false_iff.mpr waiting, rfl, rfl, fun is => absurd is waiting⟩
  | dark | out =>
    have stopped : s.thermalLamp x = s := by rw [State.thermalLamp, is]
    rw [now, stopped]
    exact ⟨rfl, is⟩

/-- Each lamp's part in an alarm leaves the fan running in recovery (R69). -/
theorem State.thermalLamp_fan (hot : s.recovery = true) (fan : s.fan = true) (x : LampId) :
    (s.thermalLamp x).fan = true := by
  unfold State.thermalLamp State.extinguish
  split
  case h_1 | h_2 | h_3 | h_4 | h_5 => exact State.fan_moveLamp hot x _ _ _
  case h_6 | h_7 =>
    split
    · exact State.fan_moveLamp hot x _ _ _
    · exact fan
  all_goals exact fan

/-- Both lamps at an alarm, lamp A first. -/
def State.lampsStopped (s : State) : State := (s.alarmTold.thermalLamp .a).thermalLamp .b

/-- Each lamp meets its part of the alarm as the alarm was told, whatever the other has done before. -/
theorem State.lampsStopped_from (s : State) (x : LampId) : ∃ t, s.alarmTold.lampsOnly t
    ∧ t.lamp x = s.alarmTold.lamp x ∧ s.lampsStopped.lamp x = (t.thermalLamp x).lamp x := by
  cases x with
  | a => exact ⟨s.alarmTold, rfl, rfl, State.partner_thermalLamp _ .b⟩
  | b => exact ⟨s.alarmTold.thermalLamp .a, State.thermalLamp_frame _ .a, State.partner_thermalLamp _ .a, rfl⟩

theorem State.lamp_alarmTold (s : State) (x : LampId) :
    s.alarmTold.lamp x = { s.lamp x with
      history := (({ kind := .thermal, cls := .note, lampState := (s.lamp x).state, wear := (s.lamp x).wear
                     time := s.clock.map (·.now) } : Incident) :: (s.lamp x).history).take 4 } := by
  cases x <;> rfl

/-! ## The power unit at an alarm (R112) -/

/-- The alarm sets the intent OFF, and takes a projector that runs to STOPPING. -/
theorem State.alarmPower_taken (s : State) :
    s.alarmPower.power.state = (if s.power.state.running = true then .stopping else s.power.state)
      ∧ s.alarmPower.power.intent = false ∧ s.alarmPower.recovery = s.recovery ∧ s.alarmPower.fan = s.fan
      ∧ s.alarmPower.thermalInput = s.thermalInput ∧ (∀ x, ∃ k, s.alarmPower.lamp x = { s.lamp x with wakeTimer := k })
      ∧ (s.power.state.running = true → s.dropsSwitch s.alarmPower) := by
  let off := s.setPower s.power.noIntent
  have calm := off.enterStopping_calm .thermal .none
  have lamps (x : LampId) : (off.enterStopping .thermal .none).lamp x = { s.lamp x with wakeTimer := none } :=
    (calm.lamp x).trans (by cases x <;> rfl)
  unfold State.alarmPower
  dsimp only
  split <;> rename_i is
  case h_1 | h_2 | h_3 =>
    rw [is]
    exact ⟨calm.state, calm.intent, calm.recovery, calm.fan, calm.thermalInput, fun x => ⟨none, lamps x⟩,
      fun _ => off.enterStopping_dropsSwitch .thermal .none⟩
  all_goals
    rw [is]
    exact ⟨is, rfl, rfl, rfl, rfl, fun x => ⟨(s.lamp x).wakeTimer, by cases x <;> rfl⟩,
      nofun⟩

/-! ## O47 -/

theorem State.alarmTaken_eq (s : State) : s.alarmTaken = s.lampsStopped.alarmPower := rfl

theorem State.alarmTold_frame (s : State) : ({ s with recovery := true } : State).lampsOnly s.alarmTold := rfl

theorem State.lampsStopped_frame (s : State) : ({ s with recovery := true } : State).lampsOnly s.lampsStopped :=
  (s.alarmTold_frame.trans (State.thermalLamp_frame _ .a)).trans (State.thermalLamp_frame _ .b)

theorem State.lampsStopped_fan (s : State) : s.lampsStopped.fan = true := by
  have told : s.alarmTold.fan = true := Bool.or_true _
  exact State.thermalLamp_fan (State.thermalLamp_frame s.alarmTold .a).recovery (State.thermalLamp_fan rfl told .a) .b

/-- What an alarm makes of a lamp (R84, R112). -/
theorem State.lampsStopped_record (s : State) (x : LampId) (m n : Lamp) (was : m = s.lamp x)
    (now : n = s.lampsStopped.lamp x) :
    n.history = (({ kind := .thermal, cls := .note, lampState := m.state, wear := m.wear
                    time := s.clock.map (·.now) } : Incident) :: m.history).take 4
      ∧ match m.state with
        | .ignite | .warmup | .lit | .dimmed =>
          n.state = .cooldown ∧ n.demand = .off ∧ n.called = false ∧ n.pendingOff = false ∧ n.since = 0
            ∧ n.timer = some (1000 * s.item 7) ∧ n.wear = m.wear
        | .retryWait =>
          n.called = false ∧ n.timer = none
            ∧ n.state = if m.since < 1000 * max (s.item 8) (s.item 7) then .hot else .dark
        | .cooldown | .hot =>
          n.state = m.state ∧ n.waiting = false ∧ n.timer = m.timer ∧ n.since = m.since
            ∧ (m.waiting = true → n.called = false)
        | .dark | .out => n.state = m.state := by
  subst was
  obtain ⟨t, frame, lamp, stopped⟩ := s.lampsStopped_from x
  have record := t.thermalLamp_record x _ n (lamp.trans (s.lamp_alarmTold x)).symm (now.trans stopped)
  have items (k : Fin 104) : t.item k = s.item k := by
    unfold State.item
    rw [frame.conf]
    rfl
  rw [items, items] at record
  exact record

theorem State.cooling_iff_exists (s : State) : s.cooling = true ↔ ∃ x, (s.lamp x).state = .cooldown := by
  rw [s.cooling_iff .a]
  refine ⟨fun h => h.elim (fun a => ⟨_, a⟩) (fun b => ⟨_, b⟩), fun ⟨x, h⟩ => ?_⟩
  cases x with
  | a => exact .inl h
  | b => exact .inr h

/-- Under an asserted alarm input the end of recovery is SHUTDOWN, where no lamp is left to cool (R113, R115). -/
theorem State.tryEndRecovery_asserted (hot : s.recovery = true) (fan : s.fan = true) (input : s.thermalInput = true)
    (intent : s.power.intent = false) :
    s.tryEndRecovery.recovery = true ∧ s.tryEndRecovery.fan = true ∧ s.tryEndRecovery.power.intent = false
      ∧ s.tryEndRecovery.power.state = (if s.cooling = false then .shutdown else s.power.state)
      ∧ ∀ u : State, u.dropsSwitch s → u.dropsSwitch s.tryEndRecovery := by
  by_cases ends : ¬s.cooling = true ∧ s.power.state ≠ .shutdown
  · have ended : s.tryEndRecovery = s.endRecovery := if_pos ⟨hot, ends⟩
    obtain ⟨recovery, line, -, state, off, -, -⟩ := State.endRecovery_alarmed (s := s) (.inr input)
    have shut : s.endRecovery = ((s.reportThermal .shutdown).setPower { s.power with intent := false }).enterShutdown
        .thermal := if_pos (by simp [input])
    rw [ended, if_pos (Bool.eq_false_iff.mpr ends.1)]
    refine ⟨recovery.trans hot, line.trans fan, off, state, fun u drops => ?_⟩
    rw [shut]
    refine State.dropsSwitch.enterShutdown ?_ .thermal
    rw [State.dropsSwitch_iff] at drops ⊢
    exact drops.of_same
  · have stays : s.tryEndRecovery = s := if_neg fun h => ends h.2
    rw [stays]
    refine ⟨hot, fan, intent, ?_, fun _ => id⟩
    split
    · rename_i cold
      by_contra other
      exact ends ⟨by simp [cold], other⟩
    · rfl

/-- Settles O47: the alarm taken, and the end of recovery in the same event where no lamp is left to cool. -/
theorem thermalAlarmsStopTheLamps : Obligations.ThermalAlarmsStopTheLamps := by
  intro s
  refine ⟨rfl, fun hot => ?_, fun cool => ?_⟩
  · refine congrArg Host.Outcome.next ?_
    rw [if_pos hot]
    unfold State.reportThermal
    rw [hot]
  · let alarmed : State := { s with thermalInput := true }
    have run : exec .thermalAlarm s = .next alarmed.alarmTaken.tryEndRecovery :=
      congrArg Host.Outcome.next (if_neg (by simp [cool]))
    have frame := alarmed.lampsStopped_frame
    have power : alarmed.lampsStopped.power = s.power := frame.power
    obtain ⟨state, intent, recovery, fan, input, lamps, drops⟩ := alarmed.lampsStopped.alarmPower_taken
    rw [← State.alarmTaken_eq] at *
    obtain ⟨recovery', fan', intent', state', drops'⟩ := State.tryEndRecovery_asserted
      (recovery.trans frame.recovery) (fan.trans alarmed.lampsStopped_fan) (input.trans (by rw [frame])) intent
    have kept (x : LampId) :
        ∃ k, alarmed.alarmTaken.tryEndRecovery.lamp x = { alarmed.lampsStopped.lamp x with wakeTimer := k } := by
      obtain ⟨⟨k, ends⟩, -⟩ := alarmed.alarmTaken.lamp_tryEndRecovery x
      obtain ⟨j, takes⟩ := lamps x
      exact ⟨k, by rw [ends, takes]⟩
    refine ⟨_, alarmed.alarmTaken.cooling, run, alarmed.thermalAlarm_frame, recovery', fan', intent', ?_, ?_, ?_,
      fun x => ?_⟩
    · rw [State.cooling_iff_exists]
      refine exists_congr fun x => ?_
      obtain ⟨k, lamp⟩ := kept x
      obtain ⟨j, took⟩ := lamps x
      rw [lamp, took]
    · rw [state', state, power]
    · intro running
      refine drops' s ?_
      have dropped := drops (by rw [power]; exact running)
      exact State.dropsSwitch.of_before (by rw [frame]) (by rw [frame]) dropped
    · obtain ⟨k, lamp⟩ := kept x
      obtain ⟨history, record⟩ := alarmed.lampsStopped_record x _ _ rfl rfl
      rw [lamp]
      exact ⟨history, record⟩

end Sys2Proof.Machine
end

section
/-! PROOFS. SET_LAMP_PLAN: the called set reshaped for the new plan, and the power unit's tests behind it (R70, R85 to R88,
R164; O36). -/

set_option Elab.async false

namespace Sys2Proof.Machine

variable {s t u v : State} {x : LampId} {told : PlaySignal}

/-! ## A lamp event in ON and DIMMED with a lamp that shines (R164) -/

theorem State.shines_of_lamp (x : LampId) (called : (s.lamp x).called = true) (lit : (s.lamp x).state = .lit) :
    (!s.lampA.shines && !s.lampB.shines) = false := by
  have shines : (s.lamp x).shines = true := (Lamp.shines_iff _).mpr ⟨called, .inl lit⟩
  cases x with
  | a => rw [show s.lampA.shines = true from shines]; rfl
  | b => rw [show s.lampB.shines = true from shines, Bool.not_true, Bool.and_false]

/-- In ON with a called lamp that is LIT a lamp event settles the degraded mark. -/
theorem State.lampEvent_on_quiet (on : s.power.state = .on) (x : LampId) (called : (s.lamp x).called = true)
    (lit : (s.lamp x).state = .lit) :
    s.lampEvent .none = s.setPower { s.power with degraded := s.markedBy .none } := by
  unfold State.lampEvent
  rw [on, State.shines_of_lamp x called lit]
  rfl

/-- A DEGRADED signal there is marked and told. -/
theorem State.lampEvent_on_degraded (on : s.power.state = .on) (x : LampId) (called : (s.lamp x).called = true)
    (lit : (s.lamp x).state = .lit) :
    s.lampEvent .degraded = (s.setPower { s.power with degraded := true }).reportPower .on .lamps .degraded := by
  have marked : s.markedBy .degraded = true := Bool.or_true _
  rw [← marked]
  unfold State.lampEvent
  rw [on, State.shines_of_lamp x called lit]
  rfl

/-- Outside DUAL the degraded mark does not outlast a lamp event. -/
theorem State.markedBy_of_other (other : s.conf.plan ≠ .dual) : s.markedBy .none = false := by
  rw [State.markedBy_eq, decide_eq_false other]
  simp

/-! ## Only the lamps, with none struck -/

/-- Only the links, the lamps, the fan and the lamp record's writing differ: what a move of the lamps reaches, none of them
struck. -/
def State.unstruck (s t : State) : Prop :=
  t = { s with control := t.control, lectern := t.lectern, lampA := t.lampA, lampB := t.lampB, fan := t.fan
               lampWrite := t.lampWrite, waitingCheckpoint := t.waitingCheckpoint }

theorem State.lampsOnly.unstruck (h : s.lampsOnly t) (last : t.lastStruck = s.lastStruck) : s.unstruck t := by
  refine Eq.trans h ?_
  rw [last]

theorem State.lastStruck_moveLamp (s : State) (x : LampId) (f : Lamp → Lamp) (b : Bool) (c : LampCause) :
    (s.moveLamp x f b c).lastStruck = s.lastStruck := by
  unfold State.moveLamp State.reportLamp
  rw [State.offer_lastStruck]
  split
  · rw [State.lastStruck_checkpointFor, State.putLamp_lastStruck]
  · rw [State.putLamp_lastStruck]

/-! ## Releases and calls for a plan (R71, R88) -/

theorem State.releaseLamp_lit (called : (s.lamp x).called = true) (lit : (s.lamp x).state = .lit) :
    s.releaseLamp x = s.extinguish x false .extinguish := by
  unfold State.releaseLamp
  rw [called, lit]
  rfl

/-- A lamp in LIT that is released goes into COOLDOWN. -/
theorem State.lamp_extinguish (s : State) (x : LampId) (b : Bool) (c : LampCause) :
    ((s.extinguish x b c).lamp x).state = .cooldown ∧ ((s.extinguish x b c).lamp x).called = false
      ∧ ((s.extinguish x b c).lamp x).demand = .off := by
  unfold State.extinguish
  rw [State.lamp_moveLamp_same]
  exact ⟨rfl, rfl, rfl⟩

theorem State.callUncalled_one_called (called : (s.lamp x).called = true) : s.callUncalled [x] = s := by
  simp [State.callUncalled, called, State.callLamps]

theorem State.callUncalled_one (uncalled : (s.lamp x).called = false) (stays : (s.callLamp x).2 = false) :
    s.callUncalled [x] = (s.callLamp x).1 := by
  simp [State.callUncalled, uncalled, State.callLamps, LampMove.settle, stays]

/-- Under DUAL the one lamp that is not called is called. -/
theorem State.callUncalled_both (x : LampId) (called : (s.lamp x).called = true)
    (uncalled : (s.lamp (otherLamp x)).called = false) : s.callUncalled [.a, .b] = s.callUncalled [otherLamp x] := by
  unfold State.callUncalled
  cases x with
  | a => simp_all [otherLamp]
  | b => simp_all [otherLamp]

/-! ## The lamp that ALTERNATE prefers (R86) -/

theorem prefer_eq (c : LampId → Bool) (rest : LampId) :
    prefer c rest = if c .a ≠ c .b then (if c .a = true then .a else .b) else rest := by
  unfold prefer
  cases c .a <;> cases c .b <;> rfl

/-- The lamp of lower wear, then the one not struck last, then lamp A. -/
theorem State.preferByWear_eq (s : State) :
    s.preferByWear = if s.lampA.wear ≠ s.lampB.wear then (if s.lampA.wear < s.lampB.wear then .a else .b)
      else if s.lastStruck = some .a then .b else .a := by
  have last : prefer (fun x => s.lastStruck != some x) .a = if s.lastStruck = some .a then .b else .a := by
    match s.lastStruck with
    | none => rfl
    | some .a => rfl
    | some .b => rfl
  unfold State.preferByWear
  rw [last, prefer_eq]
  show (if decide (s.lampA.wear < s.lampB.wear) ≠ decide (s.lampB.wear < s.lampA.wear) then
    (if decide (s.lampA.wear < s.lampB.wear) = true then _ else _) else _) = _
  rcases Nat.lt_trichotomy s.lampA.wear s.lampB.wear with less | same | more
  · simp [less, less.ne, less.not_gt]
  · simp [same]
  · simp [more, more.ne', more.not_gt]

theorem State.lampToKeep_of_lit (lit : ∀ y, (s.lamp y).state = .lit) :
    s.lampToKeep = if s.lampA.available ≠ s.lampB.available then (if s.lampA.available = true then .a else .b)
      else s.preferByWear := by
  have burning : prefer (fun x => (s.lamp x).state.burning) s.preferByWear = s.preferByWear :=
    prefer_of_same (by rw [lit, lit]) _
  unfold State.lampToKeep
  rw [burning, prefer_eq]
  rfl

/-! ## SET_LAMP_PLAN (R87, R88) -/

/-- The part with a new plan in force. -/
def State.planned (s : State) (p : Plan) : State := { s with conf := { s.conf with plan := p } }

theorem State.takePlan_barred (p : Plan) (barred : s.power.state = .shutdown ∨ s.planBarred p = true) :
    s.takePlan p = s.refuse .state := by
  unfold State.takePlan
  split
  · rfl
  · rename_i up
    rw [if_pos (barred.resolve_left up)]

theorem State.takePlan_free (p : Plan) (up : s.power.state ≠ .shutdown) (free : s.planBarred p = false) :
    s.takePlan p = (⟨.ok, [byte p.code]⟩,
      if p = s.conf.plan then s
      else if s.power.intent then (s.planned p).reshape.lampEvent (s.planned p).reshape.calledSignal
      else (s.planned p).settleDegraded) := by
  unfold State.takePlan
  rw [if_neg up, free, if_neg Bool.false_ne_true]
  split
  · rfl
  · rfl

theorem State.planBarred_iff (s : State) (p : Plan) : s.planBarred p = true
    ↔ (p = .fixedA ∧ s.lampA.available = false) ∨ (p = .fixedB ∧ s.lampB.available = false) := by
  cases p <;> simp [State.planBarred]

theorem Plan.arg_code (p : Plan) : Plan.ofCode (arg [byte p.code] 0) = some p := by cases p <;> rfl

/-- A change that extinguishes the one lamp of two and leaves the other LIT. -/
theorem State.planned_keeps (p : Plan) (x : LampId) (other : p ≠ .dual) (on : s.power.state = .on)
    (lit : ∀ y, (s.lamp y).state = .lit) (called : ∀ y, (s.lamp y).called = true)
    (shape : (s.planned p).reshape = (s.planned p).releaseLamp (otherLamp x)) :
    let v := (s.planned p).reshape.lampEvent (s.planned p).reshape.calledSignal
    ((s.planned p).setPower { s.power with degraded := false }).unstruck v
      ∧ v.lamp x = s.lamp x ∧ (v.lamp (otherLamp x)).state = .cooldown
      ∧ (v.lamp (otherLamp x)).called = false ∧ (v.lamp (otherLamp x)).demand = .off := by
  have lamps (y : LampId) : (s.planned p).lamp y = s.lamp y := by cases y <;> rfl
  let released := (s.planned p).extinguish (otherLamp x) false .extinguish
  have is : (s.planned p).reshape = released :=
    shape.trans (State.releaseLamp_lit (by rw [lamps, called]) (by rw [lamps, lit]))
  have frame : (s.planned p).lampsOnly released := State.extinguish_frame _ _ _ _
  have kept : released.lamp x = s.lamp x := by
    have partner := (s.planned p).partner_extinguish (otherLamp x) false .extinguish
    rw [otherLamp_otherLamp] at partner
    exact partner.trans (lamps x)
  obtain ⟨cooling, uncalled, off⟩ := (s.planned p).lamp_extinguish (otherLamp x) false .extinguish
  have signal : released.calledSignal = .none := by
    rw [State.calledSignal_of_partner uncalled (by rw [otherLamp_otherLamp, kept, called])]
    exact if_neg (by rw [frame.conf]; exact other)
  have event : released.lampEvent .none = released.setPower { released.power with degraded := false } := by
    rw [State.lampEvent_on_quiet (by rw [frame.power]; exact on) x (by rw [kept, called]) (by rw [kept, lit]),
      State.markedBy_of_other (by rw [frame.conf]; exact other)]
  have unstruck : (s.planned p).unstruck released := frame.unstruck (State.lastStruck_moveLamp _ _ _ _ _)
  dsimp only
  rw [is, signal, event]
  refine ⟨?_, ?_⟩
  · have power : released.power = s.power := frame.power
    rw [power]
    unfold State.unstruck at *
    rw [unstruck]
    rfl
  · exact ⟨by cases x <;> exact kept, by cases x <;> exact cooling, by cases x <;> exact uncalled,
      by cases x <;> exact off⟩

/-- A lamp that has been called is not yet LIT. -/
theorem State.callMakes_dark {m n : Lamp} (callable : m.callable) (makes : s.callMakes m n) :
    n.state ≠ .lit ∧ n.state ≠ .dimmed := by
  obtain ⟨-, -, state⟩ := callable
  unfold State.callMakes at makes
  cases is : m.state with
  | dark =>
    rw [is] at makes
    rw [makes.1]
    exact ⟨nofun, nofun⟩
  | cooldown | hot | ignite | warmup =>
    rw [is] at makes
    rw [makes]
    exact ⟨nofun, nofun⟩
  | retryWait | lit | dimmed | out =>
    rw [is] at state
    exact state.elim

/-- A change that keeps the one lamp that is called and LIT, and asks nothing of the other. -/
theorem State.planned_same (x : LampId) (on : s.power.state = .on) (lit : (s.lamp x).state = .lit)
    (called : (s.lamp x).called = true) (uncalled : (s.lamp (otherLamp x)).called = false) :
    (s.planned .alternate).reshape.lampEvent (s.planned .alternate).reshape.calledSignal
      = (s.planned .alternate).setPower { s.power with degraded := false } := by
  let t := s.planned .alternate
  have lamps (y : LampId) : t.lamp y = s.lamp y := by cases y <;> rfl
  have shape : t.reshape = t := by
    refine if_neg ?_
    cases x with
    | a => simp [show t.lampB.called = false from uncalled]
    | b => simp [show t.lampA.called = false from uncalled]
  have signal : t.calledSignal = .none := by
    rw [State.calledSignal_of_partner (x := otherLamp x) (by rw [lamps, uncalled])
      (by rw [otherLamp_otherLamp, lamps, called])]
    exact if_neg nofun
  rw [shape, signal, State.lampEvent_on_quiet (s := t) on x (by rw [lamps, called]) (by rw [lamps, lit]),
    State.markedBy_of_other (s := t) nofun]
  rfl

/-- A change to DUAL asks for the lamp that is not called. -/
theorem State.planned_dual_shape (x : LampId) (called : (s.lamp x).called = true)
    (uncalled : (s.lamp (otherLamp x)).called = false)
    (stays : ((s.planned .dual).callLamp (otherLamp x)).2 = false) :
    (s.planned .dual).reshape = ((s.planned .dual).callLamp (otherLamp x)).1 := by
  have lamps (y : LampId) : (s.planned .dual).lamp y = s.lamp y := by cases y <;> rfl
  have shape : (s.planned .dual).reshape = (s.planned .dual).callUncalled [.a, .b] := rfl
  rw [shape, State.callUncalled_both x (by rw [lamps, called]) (by rw [lamps, uncalled]),
    State.callUncalled_one (by rw [lamps, uncalled]) stays]

/-- DUAL with the other lamp out of service is DEGRADED. -/
theorem State.planned_degraded (x : LampId) (on : s.power.state = .on) (lit : (s.lamp x).state = .lit)
    (called : (s.lamp x).called = true) (uncalled : (s.lamp (otherLamp x)).called = false)
    (unfit : (s.lamp (otherLamp x)).available = false) :
    (s.planned .dual).reshape.lampEvent (s.planned .dual).reshape.calledSignal
      = ((s.planned .dual).setPower { s.power with degraded := true }).reportPower .on .lamps .degraded := by
  let t := s.planned .dual
  have lamps (y : LampId) : t.lamp y = s.lamp y := by cases y <;> rfl
  have calls : t.callLamp (otherLamp x) = (t, false) := State.callLamp_unavailable (by rw [lamps, unfit])
  have shape : t.reshape = t := by
    rw [State.planned_dual_shape x called uncalled (by rw [calls]), calls]
  have signal : t.calledSignal = .degraded := by
    rw [State.calledSignal_of_partner (x := otherLamp x) (by rw [lamps, uncalled])
      (by rw [otherLamp_otherLamp, lamps, called])]
    exact if_pos rfl
  rw [shape, signal]
  exact State.lampEvent_on_degraded on x (by rw [lamps, called]) (by rw [lamps, lit])

/-- DUAL with the other lamp called beside the one in LIT. -/
theorem State.planned_joins (x : LampId) (on : s.power.state = .on) (lit : (s.lamp x).state = .lit)
    (called : (s.lamp x).called = true) (uncalled : (s.lamp (otherLamp x)).called = false)
    (callable : (s.lamp (otherLamp x)).callable) :
    let v := (s.planned .dual).reshape.lampEvent (s.planned .dual).reshape.calledSignal
    ((s.planned .dual).setPower { s.power with degraded := false }).lampsOnly v
      ∧ v.lastStruck = (if (s.lamp (otherLamp x)).state = .dark then some (otherLamp x) else s.lastStruck)
      ∧ v.lamp x = s.lamp x ∧ s.callMakes (s.lamp (otherLamp x)) (v.lamp (otherLamp x)) := by
  let t := s.planned .dual
  have lamps (y : LampId) : t.lamp y = s.lamp y := by cases y <;> rfl
  obtain ⟨w, calls, call⟩ := t.callLamp_callable (x := otherLamp x) (by rw [lamps]; exact callable)
  have shape : t.reshape = w := by
    rw [State.planned_dual_shape x called uncalled (by rw [calls]), calls]
  have kept : w.lamp x = s.lamp x := by
    have partner := call.partner
    rw [otherLamp_otherLamp] at partner
    exact partner.trans (lamps x)
  have signal : w.calledSignal = .none := by
    unfold State.calledSignal
    rw [w.calledCount_eq x, kept, called, call.called]
    simp
  have event : w.lampEvent .none = w.setPower { w.power with degraded := false } := by
    have mark : w.markedBy .none = false := by
      unfold State.markedBy
      rw [w.calledCount_eq x, kept, called, call.called]
      simp
    rw [State.lampEvent_on_quiet (by rw [call.frame.power]; exact on) x (by rw [kept, called]) (by rw [kept, lit]), mark]
  have power : w.power = s.power := call.frame.power
  dsimp only
  rw [shape, signal, event, power]
  refine ⟨?_, ?_, ?_, ?_⟩
  · have frame := call.frame
    unfold State.lampsOnly at *
    rw [frame]
    rfl
  · rw [← lamps (otherLamp x)]
    exact call.lastStruck
  · cases x <;> exact kept
  · have makes := call.makes
    rw [lamps] at makes
    cases x <;> exact makes

/-- A change to the fixed plan of the other lamp extinguishes the one in LIT and calls the other: STARTING. -/
theorem State.planned_changes (p : Plan) (x : LampId) (fixed : p = .fixedA ∨ p = .fixedB) (on : s.power.state = .on)
    (intent : s.power.intent = true) (lit : (s.lamp x).state = .lit) (called : (s.lamp x).called = true)
    (uncalled : (s.lamp (otherLamp x)).called = false) (callable : (s.lamp (otherLamp x)).callable)
    (shape : (s.planned p).reshape = ((s.planned p).releaseLamp x).callUncalled [otherLamp x]) :
    let v := (s.planned p).reshape.lampEvent (s.planned p).reshape.calledSignal
    (s.planned p).lampPathOnly v ∧ v.power.state = .starting ∧ v.power.intent = true
      ∧ (v.lamp x).state = .cooldown ∧ (v.lamp x).called = false ∧ (v.lamp x).demand = .off
      ∧ s.callMakes (s.lamp (otherLamp x)) (v.lamp (otherLamp x)) := by
  have lamps (y : LampId) : (s.planned p).lamp y = s.lamp y := by cases y <;> rfl
  let released := (s.planned p).extinguish x false .extinguish
  have goes : (s.planned p).releaseLamp x = released :=
    State.releaseLamp_lit (by rw [lamps, called]) (by rw [lamps, lit])
  have frame : (s.planned p).lampsOnly released := State.extinguish_frame _ _ _ _
  have partner : released.lamp (otherLamp x) = s.lamp (otherLamp x) :=
    ((s.planned p).partner_extinguish x false .extinguish).trans (lamps _)
  obtain ⟨w, calls, call⟩ := released.callLamp_callable (x := otherLamp x) (by rw [partner]; exact callable)
  have is : (s.planned p).reshape = w := by
    rw [shape, goes, State.callUncalled_one (by rw [partner, uncalled]) (by rw [calls]), calls]
  have whole := frame.trans call.frame
  have kept : w.lamp x = released.lamp x := by
    have other := call.partner
    rw [otherLamp_otherLamp] at other
    exact other
  obtain ⟨cooling, ended, off⟩ := (s.planned p).lamp_extinguish x false .extinguish
  rw [← show w.lamp x = ((s.planned p).extinguish x false .extinguish).lamp x from kept] at cooling ended off
  have makes : s.callMakes (s.lamp (otherLamp x)) (w.lamp (otherLamp x)) := by
    have made := call.makes
    rw [partner] at made
    unfold State.callMakes State.item at *
    rw [frame.conf] at made
    exact made
  have signal : w.calledSignal = .none := by
    rw [State.calledSignal_of_partner ended call.called, whole.conf]
    exact if_neg (by obtain is | is := fixed <;> (rw [is]; nofun))
  have dark : (w.lampA.shines || w.lampB.shines) = false := by
    have darkX : (w.lamp x).shines = false := by simp [Lamp.shines, ended]
    have darkY : (w.lamp (otherLamp x)).shines = false := by
      have unlit := State.callMakes_dark callable makes
      simp [Lamp.shines, unlit.1, unlit.2]
    cases x with
    | a => rw [show w.lampA.shines = false from darkX, show w.lampB.shines = false from darkY]; rfl
    | b => rw [show w.lampA.shines = false from darkY, show w.lampB.shines = false from darkX]; rfl
  have become := State.lampEvent_alight (s := w) (told := .none) (.inl (by rw [whole.power]; exact on)) nofun
  rw [dark, if_neg Bool.false_ne_true] at become
  dsimp only
  rw [is, signal]
  refine ⟨whole.toPath.trans (w.lampEvent_frame .none), become.state, become.intent.trans ?_, ?_⟩
  · show w.power.intent = true
    rw [whole.power]
    exact intent
  · rw [become.lamp, become.lamp]
    exact ⟨cooling, ended, off, makes⟩

/-- Settles O36: each change of the plan, with the lamp event behind it. -/
theorem lampPlanChangesTheCalledSet : Obligations.LampPlanChangesTheCalledSet := by
  intro s l tag p t pr u takes permits
  have ran : exec (.setLampPlan l tag [byte p.code]) s
      = .next ((u.takePlan p).2.reply l ⟨0x98, tag, (u.takePlan p).1.result, (u.takePlan p).1.payload⟩) := by
    show Host.Outcome.next (s.operational l 0x18 tag [byte p.code] ((Plan.ofCode _).map .setLampPlan)) = _
    rw [Plan.arg_code, Option.map_some, State.operational_permitted takes rfl rfl permits]
    rfl
  intro barred answered planned keep
  have barred_iff : barred ↔ u.power.state = .shutdown ∨ u.planBarred p = true := or_congr_right (u.planBarred_iff p).symm
  have free (open_ : ¬ barred) : exec (.setLampPlan l tag [byte p.code]) s = .next ((
      if p = u.conf.plan then u
      else if u.power.intent then (u.planned p).reshape.lampEvent (u.planned p).reshape.calledSignal
      else (u.planned p).settleDegraded).reply l ⟨0x98, tag, .ok, [byte p.code]⟩) := by
    rw [barred_iff, not_or, Bool.not_eq_true] at open_
    rw [ran, State.takePlan_free p open_.1 open_.2]
  have changed (open_ : ¬ barred) (other : p ≠ u.conf.plan) (on : u.power.intent = true) :
      answered ((u.planned p).reshape.lampEvent (u.planned p).reshape.calledSignal) := by
    refine (free open_).trans ?_
    rw [if_neg other, on]
    rfl
  refine ⟨fun closed => ?_, fun open_ same => ?_, fun open_ other off clear => ?_,
    fun x open_ other intent on lit called kind => ?_, fun x y pair open_ other intent on lit called uncalled => ?_⟩
  · rw [ran, State.takePlan_barred p (barred_iff.mp closed)]
    rfl
  · refine (free open_).trans ?_
    rw [if_pos same]
  · refine (free open_).trans ?_
    rw [if_neg other, off, if_neg Bool.false_ne_true]
    unfold State.settleDegraded
    rw [show (u.planned p).power.degraded = false from clear, Bool.false_and, Bool.false_and, ← clear]
    rfl
  · have shape : (u.planned p).reshape = (u.planned p).releaseLamp (otherLamp x) := by
      obtain ⟨rfl, rfl⟩ | ⟨rfl, rfl⟩ | ⟨rfl, kept⟩ := kind
      · exact State.callUncalled_one_called ((congrArg Lamp.called (State.partner_releaseLamp _ .b)).trans (called .a))
      · exact State.callUncalled_one_called ((congrArg Lamp.called (State.partner_releaseLamp _ .a)).trans (called .b))
      · have keeps : (u.planned .alternate).lampToKeep = x := by
          have alight (y : LampId) : ((u.planned .alternate).lamp y).state = .lit := by
            rw [← lit y]
            cases y <;> rfl
          rw [State.lampToKeep_of_lit alight, State.preferByWear_eq, kept]
          rfl
        have both : ((u.planned .alternate).lampA.called && (u.planned .alternate).lampB.called) = true :=
          (Bool.and_eq_true _ _).mpr ⟨called .a, called .b⟩
        rw [← keeps]
        exact if_pos both
    have single : p ≠ .dual := by
      obtain ⟨rfl, -⟩ | ⟨rfl, -⟩ | ⟨rfl, -⟩ := kind
      · nofun
      · nofun
      · nofun
    exact ⟨_, changed open_ other intent, u.planned_keeps p x single on lit called shape⟩
  · subst pair
    refine ⟨fun is => ?_, fun is unfit => ?_, fun is callable => ?_, fun kind callable => ?_⟩
    · have answer := changed open_ other intent
      subst is
      rw [u.planned_same x on lit called uncalled] at answer
      exact answer
    · have answer := changed open_ other intent
      subst is
      rw [u.planned_degraded x on lit called uncalled unfit] at answer
      exact answer
    · have answer := changed open_ other intent
      subst is
      exact ⟨_, answer, u.planned_joins x on lit called uncalled callable⟩
    · have fixed : p = .fixedA ∨ p = .fixedB := kind.imp And.left And.left
      have shape : (u.planned p).reshape = ((u.planned p).releaseLamp x).callUncalled [otherLamp x] := by
        obtain ⟨rfl, is⟩ | ⟨rfl, is⟩ := kind
        · cases x with
          | a => exact absurd is nofun
          | b => rfl
        · cases x with
          | a => rfl
          | b => exact absurd is nofun
      exact ⟨_, changed open_ other intent, u.planned_changes p x fixed on intent lit called uncalled callable shape⟩

end Sys2Proof.Machine
end

section
/-! PROOFS. POWER_ON: the ways out of DIMMED and the idle-expired mark, and the call of the plan's lamps (R70, R72, R79,
R85, R86, R161, R162, R169, R170; O33). -/

set_option Elab.async false

namespace Sys2Proof.Machine

variable {s t u v : State} {x : LampId}

/-! ## The ways out of DIMMED and of the mark (R79, R169, R170) -/

/-- A lamp as UNDIM leaves it: one in DIMMED goes to LIT at the level in force, its wake timer started unless its at-level
line stands asserted (R79, R170). -/
def State.undimmed (s : State) (m : Lamp) : Lamp :=
  if m.state = .dimmed then
    { m with state := .lit, demand := if s.conf.lampLevel = .full then .full else .eco
             wakeTimer := if m.atLevelLine = true then none else some (1000 * s.item 30) }
  else m

theorem State.undimLamp_lines (s : State) (x : LampId) : s.linesOnly (s.undimLamp x) := by
  unfold State.undimLamp
  split
  · exact s.moveLamp_lines x _ .undim
  · rfl

theorem State.lamp_undimLamp_same (s : State) (x : LampId) : (s.undimLamp x).lamp x = s.undimmed (s.lamp x) := by
  unfold State.undimLamp State.undimmed
  split
  · rw [State.lamp_moveLamp_same]
    unfold State.moved demandOf
    cases s.conf.lampLevel <;> rfl
  · rfl

@[simp] theorem State.partner_undimLamp (s : State) (x : LampId) :
    (s.undimLamp x).lamp (otherLamp x) = s.lamp (otherLamp x) := by
  unfold State.undimLamp
  split
  · exact s.partner_moveLamp x _ _ _
  · rfl

/-- Both lamps are undimmed, each by its own record. -/
theorem State.lamp_undimmed (s : State) (x : LampId) :
    ((s.undimLamp .a).undimLamp .b).lamp x = s.undimmed (s.lamp x) := by
  cases x with
  | a => exact (State.partner_undimLamp _ .b).trans (s.lamp_undimLamp_same .a)
  | b =>
    rw [State.lamp_undimLamp_same]
    have conf : (s.undimLamp .a).conf = s.conf := by rw [s.undimLamp_lines .a]
    have partner : (s.undimLamp .a).lamp .b = s.lamp .b := s.partner_undimLamp .a
    unfold State.undimmed State.item
    rw [conf, partner]

/-- What the power unit leaves of itself on the way out of DIMMED or the mark. -/
structure PowerUnit.wakes (p : PowerUnit) (marked : Bool) (q : PowerUnit) : Prop where
  state : q.state = .on
  autoOff : q.autoOff = none
  intent : q.intent = p.intent
  intentClass : q.intentClass = p.intentClass
  intentPriority : q.intentPriority = p.intentPriority
  idleExpired : q.idleExpired = marked

/-- Only the links, the lamps with the fan, and the power unit differ: what leaving DIMMED or the mark reaches. -/
def State.wakesOnly (s t : State) : Prop :=
  t = { s with control := t.control, lectern := t.lectern, lampA := t.lampA, lampB := t.lampB, fan := t.fan
               power := t.power }

theorem State.wakesOnly.trans (h : s.wakesOnly t) (k : t.wakesOnly u) : s.wakesOnly u := by
  refine Eq.trans k ?_
  rw [h]

theorem State.linesOnly.wakes (h : s.linesOnly t) : s.wakesOnly t := by
  unfold State.linesOnly at h
  unfold State.wakesOnly
  rw [h]

theorem State.setPower_wakes (s : State) (p : PowerUnit) : s.wakesOnly (s.setPower p) := rfl
theorem State.reportPower_wakes (s : State) (p : PowerState) (c : PowerCause) (o : PowerOutcome) :
    s.wakesOnly (s.reportPower p c o) := rfl

/-- The auto-off timer stopped and both lamps undimmed, before the power unit enters ON. -/
def State.relit (s : State) : State := ((s.setPower { s.power with autoOff := none }).undimLamp .a).undimLamp .b

theorem State.relit_lines (s : State) : (s.setPower { s.power with autoOff := none }).linesOnly s.relit :=
  (State.undimLamp_lines _ .a).trans (State.undimLamp_lines _ .b)

theorem State.relit_power (s : State) : s.relit.power = { s.power with autoOff := none } := by
  rw [s.relit_lines]
  rfl

theorem State.lamp_relit (s : State) (x : LampId) : s.relit.lamp x = s.undimmed (s.lamp x) :=
  ((s.setPower { s.power with autoOff := none }).lamp_undimmed x).trans (by cases x <;> rfl)

theorem State.leaveDimmed_wakes (s : State) : s.power.wakes s.power.idleExpired s.leaveDimmed.power := by
  have power := s.relit_power
  have autoOff : s.relit.power.autoOff = none := by rw [power]
  have intent : s.relit.power.intent = s.power.intent := by rw [power]
  have cls : s.relit.power.intentClass = s.power.intentClass := by rw [power]
  have priority : s.relit.power.intentPriority = s.power.intentPriority := by rw [power]
  have mark : s.relit.power.idleExpired = s.power.idleExpired := by rw [power]
  exact ⟨rfl, autoOff, intent, cls, priority, mark⟩

theorem State.leaveDimmed_only (s : State) : s.wakesOnly s.leaveDimmed :=
  (s.setPower_wakes _).trans (s.relit_lines.wakes.trans
    (((s.relit.setPower_wakes _).trans (State.reportPower_wakes _ _ _ _)).trans (State.setPower_wakes _ _)))

theorem State.lamp_leaveDimmed (s : State) (x : LampId) : s.leaveDimmed.lamp x = s.undimmed (s.lamp x) := by
  rw [← s.lamp_relit x]
  cases x <;> rfl

theorem State.leaveMark_wakes (s : State) (on : s.power.state = .on) : s.power.wakes false s.leaveMark.power :=
  ⟨on, rfl, rfl, rfl, rfl, rfl⟩

/-! ## Activity (R167, R169) -/

theorem State.activity_dimmed (dimmed : s.power.state = .dimmed) : s.activity = s.leaveDimmed := by
  unfold State.activity
  rw [dimmed]

theorem State.activity_marked (on : s.power.state = .on) (marked : s.power.idleExpired = true) :
    s.activity = s.leaveMark := by
  unfold State.activity
  rw [on, marked]
  rfl

theorem State.activity_idle (on : s.power.state = .on) (clear : s.power.idleExpired = false) :
    s.activity = if s.idleHolds then s.setPower { s.power with idle := some s.idleWaitMs } else s := by
  unfold State.activity
  rw [on, clear]
  rfl

theorem State.activity_other (on : s.power.state ≠ .on) (dimmed : s.power.state ≠ .dimmed) : s.activity = s := by
  unfold State.activity
  split
  · exact absurd ‹_› dimmed
  · exact absurd ‹_› on
  all_goals rfl

theorem State.idleHolds_iff (on : s.power.state = .on) (clear : s.power.idleExpired = false) :
    s.idleHolds = true ↔ ¬((s.input s.sw.selected).signal = .stable ∧ s.sw.mute = false) := by
  unfold State.idleHolds State.selectedStable
  rw [on, clear]
  simp [imp_iff_not_or]

/-- What activity leaves of a projector that runs (R162, R169). -/
theorem State.activity_running (running : s.power.state.running = true) :
    s.wakesOnly s.activity
      ∧ s.activity.power.state = (if s.power.state = .starting then .starting else .on)
      ∧ s.activity.power.intent = s.power.intent ∧ s.activity.power.intentClass = s.power.intentClass
      ∧ s.activity.power.intentPriority = s.power.intentPriority
      ∧ s.activity.power.idleExpired = (decide (s.power.state ≠ .on) && s.power.idleExpired)
      ∧ (∀ x, s.activity.lamp x
        = if s.power.state = .dimmed ∧ (s.lamp x).state = .dimmed then s.undimmed (s.lamp x) else s.lamp x)
      ∧ (s.power.state = .dimmed ∨ s.power.state = .on ∧ s.power.idleExpired = true →
        s.activity.power.autoOff = none) := by
  cases is : s.power.state with
  | dimmed =>
    have wakes := s.leaveDimmed_wakes
    rw [State.activity_dimmed is]
    refine ⟨s.leaveDimmed_only, wakes.state, wakes.intent, wakes.intentClass, wakes.intentPriority, wakes.idleExpired,
      fun x => ?_, fun _ => wakes.autoOff⟩
    rw [s.lamp_leaveDimmed x]
    split
    · rfl
    · rename_i other
      exact if_neg fun h => other ⟨rfl, h⟩
  | on =>
    cases marked : s.power.idleExpired with
    | true =>
      have wakes := s.leaveMark_wakes is
      rw [State.activity_marked is marked]
      refine ⟨rfl, wakes.state, wakes.intent, wakes.intentClass, wakes.intentPriority, wakes.idleExpired, fun x => ?_,
        fun _ => wakes.autoOff⟩
      rw [if_neg fun h => nomatch h.1]
      cases x <;> rfl
    | false =>
      rw [State.activity_idle is marked]
      split
      · refine ⟨rfl, is, rfl, rfl, rfl, marked, fun x => ?_, fun h => ?_⟩
        · rw [if_neg fun h => nomatch h.1]
          cases x <;> rfl
        · exact h.elim nofun fun h => nomatch h.2
      · refine ⟨rfl, is, rfl, rfl, rfl, marked, fun x => ?_, fun h => ?_⟩
        · rw [if_neg fun h => nomatch h.1]
        · exact h.elim nofun fun h => nomatch h.2
  | starting =>
    rw [State.activity_other (by simp [is]) (by simp [is])]
    refine ⟨rfl, is, rfl, rfl, rfl, rfl, fun x => ?_, fun h => ?_⟩
    · rw [if_neg fun h => nomatch h.1]
    · exact h.elim nofun fun h => nomatch h.1
  | standby | stopping | shutdown =>
    rw [is] at running
    exact absurd running (by decide)

/-! ## The lamps that a plan calls (R85, R86) -/

/-- A lamp that goes on without its pending off is the one that ALTERNATE prefers next (R86). -/
theorem LampState.alight_iff (p : LampState) : p.alight = decide (p ∈ [LampState.ignite, .warmup, .lit, .dimmed]) := by
  cases p <;> rfl

theorem State.lampToCall_eq (s : State) :
    s.lampToCall =
      if s.lampA.available ≠ s.lampB.available then (if s.lampA.available = true then .a else .b)
      else if (s.lampA.state.alight && s.lampA.pendingOff) ≠ (s.lampB.state.alight && s.lampB.pendingOff) then
        (if (s.lampA.state.alight && s.lampA.pendingOff) = true then .a else .b)
      else if decide (s.lampA.state = .dark) ≠ decide (s.lampB.state = .dark) then
        (if s.lampA.state = .dark then .a else .b)
      else s.preferByWear := by
  have dark : prefer (fun x => (s.lamp x).state == .dark) s.preferByWear
      = if decide (s.lampA.state = .dark) ≠ decide (s.lampB.state = .dark) then
          (if s.lampA.state = .dark then .a else .b)
        else s.preferByWear := by
    rw [prefer_eq]
    show (if decide (s.lampA.state = .dark) ≠ decide (s.lampB.state = .dark) then
      (if decide (s.lampA.state = .dark) = true then _ else _) else _) = _
    rw [if_congr (decide_eq_true_iff) rfl rfl]
  unfold State.lampToCall
  rw [prefer_eq, prefer_eq, dark]
  rfl

/-! ## The calls of a plan (R70, R85) -/

/-- `u` is what the calls of the lamps `xs` leave, each of which can be called or is out of service. -/
structure State.callsAll (s : State) (xs : List LampId) (u : State) : Prop where
  frame : s.lampsOnly u
  makes : ∀ x ∈ xs, (s.lamp x).callable → (u.lamp x).called = true ∧ s.callMakes (s.lamp x) (u.lamp x)
  other : ∀ x, x ∉ xs ∨ (s.lamp x).available = false → u.lamp x = s.lamp x

theorem Lamp.callable.available {m : Lamp} (h : m.callable) : m.available = true :=
  (Lamp.available_iff m).mpr ⟨h.1, h.2.1⟩

theorem State.callLamps_all {xs : List LampId} (once : xs.Nodup)
    (each : ∀ x ∈ xs, (s.lamp x).callable ∨ (s.lamp x).available = false) : s.callsAll xs (s.callLamps xs) := by
  induction xs generalizing s with
  | nil => exact ⟨rfl, nofun, fun _ _ => rfl⟩
  | cons x xs ih =>
    obtain ⟨fresh, once⟩ := List.nodup_cons.mp once
    obtain ⟨t, calls, frame, partner, made⟩ : ∃ t, s.callLamp x = (t, false) ∧ s.lampsOnly t
        ∧ t.lamp (otherLamp x) = s.lamp (otherLamp x)
        ∧ (((s.lamp x).callable ∧ (t.lamp x).called = true ∧ s.callMakes (s.lamp x) (t.lamp x))
          ∨ ((s.lamp x).available = false ∧ t.lamp x = s.lamp x)) := by
      rcases each x List.mem_cons_self with callable | unfit
      · obtain ⟨t, calls, call⟩ := State.callLamp_callable callable
        exact ⟨t, calls, call.frame, call.partner, .inl ⟨callable, call.called, call.makes⟩⟩
      · exact ⟨s, State.callLamp_unavailable unfit, rfl, rfl, .inr ⟨unfit, rfl⟩⟩
    have others (y : LampId) (h : y ≠ x) : t.lamp y = s.lamp y := by
      obtain rfl | rfl := lamp_cases x y
      · exact absurd rfl h
      · exact partner
    have apart (y : LampId) (h : y ∈ xs) : y ≠ x := fun is => fresh (is ▸ h)
    have rest : t.callsAll xs (t.callLamps xs) := ih once fun y h => by
      rw [others y (apart y h)]
      exact each y (List.mem_cons_of_mem _ h)
    have whole : s.callLamps (x :: xs) = t.callLamps xs := by
      show (LampMove.settle (s.callLamp x) x).1.callLamps xs = _
      rw [calls]
      rfl
    have same : t.callMakes = s.callMakes := by
      unfold State.callMakes State.item
      rw [frame.conf]
    rw [whole]
    refine ⟨frame.trans rest.frame, fun y h callable => ?_, fun y h => ?_⟩
    · obtain rfl | later := List.mem_cons.mp h
      · have first := made.resolve_right fun h => by simp [callable.available] at h
        rw [rest.other y (.inl fresh)]
        exact first.2
      · have made := rest.makes y later (by rw [others y (apart y later)]; exact callable)
        rw [others y (apart y later), same] at made
        exact made
    · by_cases is : y = x
      · subst is
        rw [rest.other y (.inl fresh)]
        obtain outside | unfit := h
        · exact absurd List.mem_cons_self outside
        · exact (made.resolve_left fun h => by simp [h.1.available] at unfit).2
      · rw [rest.other y (h.imp (fun out inside => out (List.mem_cons_of_mem _ inside)) fun unfit => by
          rw [others y is]; exact unfit), others y is]

theorem State.callLamps_unavailable {xs : List LampId} (none : ∀ x ∈ xs, (s.lamp x).available = false) :
    s.callLamps xs = s := by
  induction xs with
  | nil => rfl
  | cons x xs ih =>
    show (LampMove.settle (s.callLamp x) x).1.callLamps xs = s
    rw [State.callLamp_unavailable (none x List.mem_cons_self)]
    exact ih fun y h => none y (List.mem_cons_of_mem _ h)

/-- A plan names no lamp twice (R85). -/
theorem State.planLamps_nodup (s : State) : s.planLamps.Nodup := by
  unfold State.planLamps
  split
  · decide
  all_goals exact List.nodup_singleton _

/-- A plan that names two lamps is DUAL (R85). -/
theorem State.planLamps_dual {x y : LampId} (inX : x ∈ s.planLamps) (inY : y ∈ s.planLamps) (apart : x ≠ y) :
    s.conf.plan = .dual := by
  unfold State.planLamps at inX inY
  cases is : s.conf.plan with
  | dual => rfl
  | alternate | fixedA | fixedB =>
    rw [is] at inX inY
    exact absurd ((List.mem_singleton.mp inX).trans (List.mem_singleton.mp inY).symm) apart

/-! ## The start of the plan's lamps (R162) -/

/-- Every lamp that the plan names can be called, or is uncalled and out of service. -/
def State.startable (s : State) : Prop :=
  ∀ x ∈ s.planLamps, (s.lamp x).callable
    ∨ (s.lamp x).called = false ∧ ((s.lamp x).out = true ∨ (s.lamp x).expired = true)

theorem State.startable.calls (h : s.startable) : s.callsAll s.planLamps (s.callLamps s.planLamps) :=
  State.callLamps_all s.planLamps_nodup fun x named => (h x named).imp_right fun unfit =>
    (Lamp.unavailable_iff _).mpr unfit.2

/-- Some lamp is in play once one of the plan's could be called. -/
theorem State.callsAll.signal_ne (h : s.callsAll s.planLamps u) (named : x ∈ s.planLamps) (can : (s.lamp x).callable) :
    u.calledSignal ≠ .noLamp := by
  have called := (h.makes x named can).1
  unfold State.calledSignal
  rw [if_neg (by rw [u.calledCount_eq x, called]; simp)]
  split <;> nofun

/-- With each of the plan's lamps called DUAL is not short of a lamp (R85). -/
theorem State.callsAll.signal_full (h : s.callsAll s.planLamps u) (all : ∀ x ∈ s.planLamps, (s.lamp x).callable) :
    u.calledSignal ≠ .degraded := by
  unfold State.calledSignal
  split
  · nofun
  · split
    · rename_i short
      have dual : s.planLamps = [.a, .b] := by
        unfold State.planLamps
        rw [← h.frame.conf, short.1]
      have called (x : LampId) : (u.lamp x).called = true :=
        have named : x ∈ s.planLamps := by rw [dual]; cases x <;> decide
        (h.makes x named (all x named)).1
      have count := u.calledCount_eq .a
      rw [called, called, short.2] at count
      exact absurd count (by decide)
    · nofun

/-- With one of the plan's lamps out of service the other is called alone under DUAL, which is DEGRADED (R85). -/
theorem State.callsAll.signal_short (h : s.callsAll s.planLamps u) (named : x ∈ s.planLamps)
    (unfit : (s.lamp x).available = false) (uncalled : (s.lamp x).called = false)
    (some : ∃ y ∈ s.planLamps, (s.lamp y).callable) : u.calledSignal = .degraded := by
  obtain ⟨y, also, can⟩ := some
  have apart : x ≠ y := by
    rintro rfl
    simp [can.available] at unfit
  have dual := State.planLamps_dual named also apart
  obtain rfl | rfl := lamp_cases x y
  · exact absurd rfl apart
  · rw [State.calledSignal_of_partner (x := x) (by rw [h.other x (.inr unfit), uncalled]) (h.makes _ also can).1,
      h.frame.conf, if_pos dual]

/-- With a lamp in play POWER_ON records who asked and enters STARTING, degraded where DUAL is short of a lamp. -/
theorem State.startUpLamps_eq (a : Asker) (play : (s.callLamps s.planLamps).calledSignal ≠ .noLamp) :
    ∃ c o, s.startUpLamps a = (⟨.accepted, [1]⟩,
      ((s.callLamps s.planLamps).handed a
        (decide ((s.callLamps s.planLamps).calledSignal = .degraded) || (s.callLamps s.planLamps).power.degraded)
      ).enterStarting c o) := by
  have begun (r : State) (c : PowerCause) (o : PowerOutcome) :
      (⟨⟨.accepted, (r.enterStarting c o).stateByte⟩, r.enterStarting c o⟩ : Taken)
        = (⟨.accepted, [1]⟩, r.enterStarting c o) := by
    unfold State.stateByte
    rw [(r.enterStarting_calm c o).state]
    rfl
  unfold State.startUpLamps
  dsimp only
  cases signal : (s.callLamps s.planLamps).calledSignal with
  | noLamp => exact absurd signal play
  | degraded => exact ⟨.request, .degraded, begun _ _ _⟩
  | none => exact ⟨.request, .none, begun _ _ _⟩

/-- The calls and an entry that leaves the window and the hold reach nothing outside the lamp path. -/
theorem State.lampsOnly.entered {p : PowerUnit} (frame : s.lampsOnly t) (enters : (t.setPower p).calm v)
    (window : v.window = t.window) (hold : v.hold = t.hold) :
    v = { s with
      control := v.control, lectern := v.lectern, lampA := v.lampA, lampB := v.lampB, lastStruck := v.lastStruck
      fan := v.fan, lampWrite := v.lampWrite, waitingCheckpoint := v.waitingCheckpoint, power := v.power
      inputs := v.inputs, sw := v.sw, geo := v.geo, scaler := v.scaler, scan := v.scan } := by
  cases s; cases t; cases v
  simp only [State.lampsOnly, State.calm, State.setPower, State.mk.injEq] at *
  simp_all

/-! ## POWER_ON (R162) -/

theorem State.takePowerOn_running (running : s.power.state.running = true) (a : Asker) (asks : a.cls ≠ .auto) :
    s.takePowerOn a
      = (⟨.ok, [byte (s.recordIntent true a).activity.power.state.code]⟩, (s.recordIntent true a).activity) := by
  unfold State.takePowerOn
  cases is : s.power.state with
  | starting | on | dimmed =>
    dsimp only
    rw [if_neg asks]
    rfl
  | standby | stopping | shutdown =>
    rw [is] at running
    exact absurd running (by decide)

theorem State.takePowerOn_barred (a : Asker) (barred : s.power.state = .shutdown
    ∨ ((s.power.state = .standby ∨ s.power.state = .stopping) ∧ s.recovery = true)) :
    s.takePowerOn a = (⟨.state, []⟩, s) := by
  unfold State.takePowerOn
  obtain is | ⟨is | is, hot⟩ := barred
  · rw [is]
    rfl
  · rw [is, hot]
    rfl
  · rw [is, hot]
    rfl

theorem State.takePowerOn_cool (a : Asker) (off : s.power.state = .standby ∨ s.power.state = .stopping)
    (cool : s.recovery = false) : s.takePowerOn a = s.startUpLamps a := by
  unfold State.takePowerOn
  obtain is | is := off
  · rw [is, cool]
    rfl
  · rw [is, cool]
    rfl

/-- With no lamp to call a POWER_ON in STANDBY reports the failed start and leaves the rest (R85, R162). -/
theorem State.startUpLamps_fails (a : Asker) (standby : s.power.state = .standby) (whole : s.power.degraded = false)
    (outA : s.lampA.available = false) (outB : s.lampB.available = false) (none : s.calledCount = 0) :
    s.startUpLamps a = (⟨.state, []⟩, s.reportPower .standby .request .startFailed) := by
  have calls : s.callLamps s.planLamps = s := State.callLamps_unavailable fun x _ => by
    cases x
    · exact outA
    · exact outB
  have signal : s.calledSignal = .noLamp := if_pos none
  have settled : (s.reportPower .standby .request .startFailed).lampEvent .none
      = s.reportPower .standby .request .startFailed := State.lampEvent_of_standby standby whole
  unfold State.startUpLamps
  dsimp only
  rw [calls, signal]
  dsimp only
  rw [standby, settled]
  rfl

/-- Settles O33: activity in each power state, the plan's lamps, and POWER_ON in each power state. -/
theorem powerOnStrikesThePlansLamps : Obligations.PowerOnStrikesThePlansLamps := by
  unfold Obligations.PowerOnStrikesThePlansLamps
  intro lightened
  refine ⟨fun u => ⟨fun is => ?_, fun is marked => ?_, fun is clear => ?_, fun on dimmed => ?_⟩,
    fun u => ?_,
    fun s l tag t pr u takes permits => ?_⟩
  · have wakes := u.leaveDimmed_wakes
    refine ⟨_, rfl, fun x => ?_, ?_⟩
    · obtain ⟨-, -, -, -, -, -, lamps, -⟩ := State.activity_running (s := u) (by rw [is]; rfl)
      rw [lamps x]
      split
      · exact if_pos ‹_ ∧ _›.2
      · rfl
    · rw [State.activity_dimmed is]
      exact ⟨wakes.state, wakes.autoOff, wakes.intent, u.leaveDimmed_only⟩
  · have wakes := u.leaveMark_wakes is
    rw [State.activity_marked is marked]
    exact ⟨_, rfl, wakes.state, wakes.idleExpired, wakes.autoOff, rfl⟩
  · rw [State.activity_idle is clear, if_congr (State.idleHolds_iff is clear) rfl rfl, ite_not]
    rfl
  · exact State.activity_other on dimmed
  · intro resumes
    refine ⟨fun is => ?_, fun is => ?_, fun is => ?_, fun is _ => ?_⟩
    · unfold State.planLamps
      rw [is]
    · unfold State.planLamps
      rw [is]
    · unfold State.planLamps
      rw [is]
    · unfold State.planLamps
      rw [is, u.lampToCall_eq, u.preferByWear_eq, LampState.alight_iff, LampState.alight_iff]
  · let a : Asker := ⟨ReqClass.ofLink l, pr, some (l, tag)⟩
    have asks : a.cls ≠ .auto := by
      show ReqClass.ofLink l ≠ .auto
      cases l <;> decide
    have ran : exec (.powerOn l tag []) s
        = .next ((u.takePowerOn a).2.reply l ⟨0x90, tag, (u.takePowerOn a).1.result, (u.takePowerOn a).1.payload⟩) :=
      congrArg Host.Outcome.next (State.operational_permitted takes rfl rfl permits)
    refine ⟨fun running => ?_, fun off cool each some => ?_, fun barred => ?_,
      fun standby cool whole outA outB none => ?_⟩
    · rw [State.takePowerOn_running running a asks] at ran
      obtain ⟨only, state, intent, cls, priority, expired, lamps, autoOff⟩ :=
        State.activity_running (s := u.recordIntent true a) running
      refine ⟨_, ran, state, intent, cls, priority, expired, fun x => ?_, autoOff, only⟩
      rw [lamps x]
      have same : (u.recordIntent true a).lamp x = u.lamp x := by cases x <;> rfl
      rw [same]
      split
      · rename_i h
        exact (if_pos h.2).trans (if_pos (α := Lamp) h).symm
      · rename_i h
        exact (if_neg (α := Lamp) h).symm
    · have calls := State.startable.calls each
      obtain ⟨x, named, can⟩ := some
      obtain ⟨c, o, starts⟩ := State.startUpLamps_eq a (calls.signal_ne named can)
      rw [State.takePowerOn_cool a off cool, starts] at ran
      generalize u.callLamps u.planLamps = w at *
      have enters := State.enterStarting_calm
        (w.handed a (decide (w.calledSignal = .degraded) || w.power.degraded)) c o
      obtain ⟨window, hold⟩ := State.enterStarting_window
        (w.handed a (decide (w.calledSignal = .degraded) || w.power.degraded)) c o
      have lamps (y : LampId) : _ = w.lamp y := (enters.lamp y).trans (by cases y <;> rfl)
      have marked : _ = (decide (w.calledSignal = .degraded) || w.power.degraded) := enters.degraded
      refine ⟨_, ran, enters.state, enters.intent, enters.intentClass, enters.intentPriority,
        fun y named can => ?_, fun y out => ?_, fun all => ?_, fun y named unfit => ?_,
        calls.frame.entered enters window hold⟩
      · rw [lamps y]
        exact (calls.makes y named can).2
      · rw [lamps y]
        exact calls.other y (out.imp_right (Lamp.unavailable_iff _).mpr)
      · rw [marked, decide_eq_false (calls.signal_full all), Bool.false_or, calls.frame.power]
      · have uncalled := (each y named).resolve_left fun can => by
          have fit := can.available
          rw [(Lamp.unavailable_iff _).mpr unfit] at fit
          exact Bool.false_ne_true fit
        rw [marked, calls.signal_short named ((Lamp.unavailable_iff _).mpr unfit) uncalled.1 ⟨x, ‹_›, can⟩]
        rfl
    · rw [State.takePowerOn_barred a barred] at ran
      exact ran
    · rw [State.takePowerOn_cool a (.inl standby) cool, State.startUpLamps_fails a standby whole outA outB none] at ran
      exact ran

end Sys2Proof.Machine
end

section
/-! PROOFS. LEARN_BASE and WRITE_SETTING (R98, R128, R140, R152, R172, R175, R194; O22). -/

set_option Elab.async false

namespace Sys2Proof.Machine

variable {s t u v : State} {x : LampId} {set : Nat}

/-! ## LEARN_BASE (R175) -/

/-- `u` is `s` after the inputs `is` that stand in a set have learned their bases. -/
structure State.learned (s : State) (set : Nat) (is : List InputId) (u : State) : Prop where
  frame : u = { s with conf := { s.conf with items := u.conf.items }, scan := u.scan }
  base : ∀ i, u.scanBase i = if set.testBit i.val = true ∧ i ∈ is then (s.input i).activity else s.scanBase i
  others : ∀ m : Fin 104, m.val < 80 ∨ 88 ≤ m.val → u.item m = s.item m
  intervals : ∀ g : GroupId, (u.scan.get g).interval = (s.scan.get g).interval
  runs : ∀ (g : GroupId) (i : InputId), (u.scan.get g).runs.get i
    = if set.testBit i.val = true ∧ i ∈ is then 0 else (s.scan.get g).runs.get i

theorem inputItem_inj {first : Nat} {h : first ≤ 96} {i j : InputId} (same : inputItem first h i = inputItem first h j) :
    i = j := by
  have values := congrArg Fin.val same
  exact Fin.ext (Nat.add_left_cancel values)

theorem State.learnInput_learned (s : State) (set : Nat) (i : InputId) : s.learned set [i] (State.learnInput set s i) := by
  unfold State.learnInput
  split
  · rename_i named
    refine ⟨rfl, fun j => ?_, fun m outside => ?_, fun g => ?_, fun g j => ?_⟩
    · by_cases is : j = i
      · subst is
        rw [if_pos ⟨named, List.mem_singleton_self j⟩]
        exact s.item_setItem_same (inputItem 80 (by decide) j) (s.input j).activity
      · rw [if_neg fun h => is (List.mem_singleton.mp h.2)]
        exact s.item_setItem_other (fun same => is (inputItem_inj same)) (s.input i).activity
    · refine s.item_setItem_other (n := inputItem 80 (by decide) i) (fun same => ?_) (s.input i).activity
      have value : m.val = 80 + i.val := congrArg Fin.val same
      omega
    · exact (congrArg ScanGroup.interval (vector_get_map _ s.scan g)).trans rfl
    · refine (congrArg (fun r : ScanGroup => r.runs.get j) (vector_get_map _ s.scan g)).trans ?_
      by_cases is : j = i
      · subst is
        rw [if_pos ⟨named, List.mem_singleton_self j⟩]
        exact vector_get_set_same _ _ _
      · rw [if_neg fun h => is (List.mem_singleton.mp h.2)]
        exact vector_get_set_other _ is _
  · rename_i unnamed
    have none (j : InputId) : ¬(set.testBit j.val = true ∧ j ∈ [i]) := fun h =>
      unnamed (List.mem_singleton.mp h.2 ▸ h.1)
    exact ⟨rfl, fun j => (if_neg (none j)).symm, fun _ _ => rfl, fun _ => rfl, fun _ j => (if_neg (none j)).symm⟩

theorem State.learned.cons {i : InputId} {is : List InputId} (first : s.learned set [i] t) (rest : t.learned set is u) :
    s.learned set (i :: is) u := by
  have inputs (j : InputId) : t.input j = s.input j := by
    unfold State.input
    rw [first.frame]
  have either {α : Type} (j : InputId) (new old : α) :
      (if set.testBit j.val = true ∧ j ∈ is then new else if set.testBit j.val = true ∧ j ∈ [i] then new else old)
        = if set.testBit j.val = true ∧ j ∈ i :: is then new else old := by
    by_cases named : set.testBit j.val = true
    · by_cases later : j ∈ is
      · simp [named, later]
      · simp [named, later]
    · simp [named]
  refine ⟨?_, fun j => ?_, fun m outside => (rest.others m outside).trans (first.others m outside),
    fun g => (rest.intervals g).trans (first.intervals g), fun g j => ?_⟩
  · refine Eq.trans rest.frame ?_
    rw [first.frame]
  · rw [rest.base, first.base, inputs, either]
  · rw [rest.runs, first.runs, either]

theorem State.foldl_learned (is : List InputId) (s : State) : s.learned set is (is.foldl (State.learnInput set) s) := by
  induction is generalizing s with
  | nil => exact ⟨rfl, fun _ => (if_neg nofun).symm, fun _ _ => rfl, fun _ => rfl, fun _ _ => (if_neg nofun).symm⟩
  | cons i is ih => exact (s.learnInput_learned set i).cons (ih _)

/-- LEARN_BASE answers the bases as it has set them (R175). -/
theorem learnBase_learns {l : Link} {tag set : Byte} (manages : t.mayManage l)
    (takes : s.linkTakes l ⟨0x38, tag, [set]⟩ t) :
    ∃ u : State,
      exec (.learnBase l tag [set]) s
        = .next (u.reply l ⟨0xB8, tag, .ok, (List.finRange 8).flatMap fun i => be16 (u.scanBase i)⟩)
      ∧ u = { t with conf := { t.conf with items := u.conf.items }, scan := u.scan }
      ∧ (∀ i : InputId, u.scanBase i = if set.getLsbD i.val then (t.input i).activity else t.scanBase i)
      ∧ (∀ m : Fin 104, m.val < 80 ∨ 88 ≤ m.val → u.item m = t.item m)
      ∧ ∀ (g : GroupId) (i : InputId), (u.scan.get g).interval = (t.scan.get g).interval
          ∧ (u.scan.get g).runs.get i = if set.getLsbD i.val then 0 else (t.scan.get g).runs.get i := by
  have learned := State.foldl_learned (set := set.toNat) (List.finRange 8) t
  have every (i : InputId) : (set.toNat.testBit i.val = true ∧ i ∈ List.finRange 8) ↔ set.getLsbD i.val = true :=
    and_iff_left (List.mem_finRange i)
  refine ⟨_, congrArg Host.Outcome.next
    (State.request_managed takes manages (State.bodyLearnBase [set]) rfl (by decide) rfl), learned.frame, fun i => ?_,
    learned.others, fun g i => ⟨learned.intervals g, ?_⟩⟩
  · exact (learned.base i).trans (if_congr (every i) rfl rfl)
  · exact (learned.runs g i).trans (if_congr (every i) rfl rfl)

/-! ## The items and their forms (R194) -/

theorem itemOf_val {n : Nat} {m : Fin 104} {f : ItemForm} (h : itemOf n = some (m, f)) :
    m.val = n ∧ itemForm m.val = some f := by
  refine ⟨?_, itemOf_eq_some h⟩
  unfold itemOf at h
  split at h
  · obtain ⟨g, form, same⟩ := Option.map_eq_some_iff.mp h
    exact (congrArg (fun r => r.1.val) same).symm
  · cases h

/-- Every range of the item table runs upwards (R194). -/
theorem itemForm_ordered (m : Fin 104) {lo hi : Nat} (h : itemForm m.val = some (.range lo hi)) : lo ≤ hi := by
  have all : ∀ m : Fin 104, (itemForm m.val).all
      (fun f => match f with | .range lo hi => decide (lo ≤ hi) | _ => true) = true := by decide +kernel
  simpa [h] using all m

/-- The value in force for a value written: the nearest one of the item's form (R172, R194). -/
def ItemForm.nearest (f : ItemForm) (v : Nat) : Nat :=
  match f with
  | .range lo hi => if v < lo then lo else if hi < v then hi else v
  | .bits b => v % 2 ^ b
  | .multiple => if v < 2 then 1 else if v = 2 then 2 else if v < 6 then 4 else 8

theorem ItemForm.apply_nearest {f : ItemForm} (v : Nat) (ordered : ∀ lo hi, f = .range lo hi → lo ≤ hi) :
    f.apply v = f.nearest v := by
  cases f with
  | range lo hi =>
    have upwards := ordered lo hi rfl
    show max lo (min hi v) = if v < lo then lo else if hi < v then hi else v
    split
    · omega
    · split <;> omega
  | bits b => rfl
  | multiple =>
    show nearestMultiple v = if v < 2 then 1 else if v = 2 then 2 else if v < 6 then 4 else 8
    unfold nearestMultiple
    grind

/-! ## What an item's owner does at once -/

/-- The state with a written value in force, and what the item's owner has done (R98, R128, R140, R172). -/
def State.wrote (s : State) (m : Fin 104) (w : Nat) : State := (s.setItem m w).itemWritten m.val

theorem State.holdChanged_frame (s : State) (x : LampId) : s.lampPathOnly (s.holdChanged x) := by
  unfold State.holdChanged
  dsimp only
  split
  · split
    · exact (s.reachDark_frame x).toPath.trans (LampMove.finish_frame _ x)
    · rfl
  · split
    · exact (s.moveLamp_frame x _ _ _).toPath
    · rfl
  · split
    · exact (s.strike_frame x).toPath.trans (LampMove.finish_frame _ x)
    · rfl
  all_goals rfl

theorem State.groupWritten_frame (s : State) (g : GroupId) : s.lampPathOnly (s.groupWritten g) := by
  unfold State.groupWritten
  split <;> rfl

theorem State.itemWritten_frame (s : State) (n : Nat) : s.lampPathOnly (s.itemWritten n) := by
  unfold State.itemWritten
  split
  · exact (s.holdChanged_frame .a).trans (State.holdChanged_frame _ .b)
  split
  · exact ((s.testThresholds_frame .a).trans (State.testThresholds_frame _ .b)).toPath
  split
  · exact s.retestWatch_frame.toPath
  split
  · exact s.groupWritten_frame 0
  split
  · exact s.groupWritten_frame 1
  split
  · exact s.sourceEvent_frame.toPath
  · rfl

/-- Outside items 7 and 8 no owner reaches the credential hold. -/
theorem State.itemWritten_hold {n : Nat} (seven : n ≠ 7) (eight : n ≠ 8) : (s.itemWritten n).hold = s.hold := by
  unfold State.itemWritten
  rw [if_neg (not_or.mpr ⟨seven, eight⟩)]
  split
  · rw [(s.testThresholds_frame .a).trans (State.testThresholds_frame _ .b)]
  split
  · rw [s.retestWatch_frame]
  split
  · unfold State.groupWritten
    split <;> rfl
  split
  · unfold State.groupWritten
    split <;> rfl
  split
  · rw [s.sourceEvent_frame]
  · rfl

theorem State.wrote_conf (s : State) (m : Fin 104) (w : Nat) : (s.wrote m w).conf = (s.setItem m w).conf := by
  unfold State.wrote
  rw [State.itemWritten_frame]

/-- An item whose owner acts only later. -/
theorem State.itemWritten_later {n : Nat}
    (later : n ∉ [7, 8, 11, 12, 13, 22, 33, 34, 35, 36, 37, 38, 64 + s.sw.selected.val]) : s.itemWritten n = s := by
  unfold State.itemWritten
  simp only [List.mem_cons, List.not_mem_nil, not_or] at later
  simp [later]

/-- An item of a scan group (R172). -/
theorem State.itemWritten_group {n : Nat} {g : GroupId} (group : n ∈ (if g = 0 then [33, 34, 35] else [36, 37, 38])) :
    s.itemWritten n = s.groupWritten g := by
  have two : ∀ g : GroupId, g = 0 ∨ g = 1 := by decide
  obtain rfl | rfl := two g
  all_goals
    simp only [List.mem_cons, List.not_mem_nil, if_true, one_ne_zero, if_false, or_false] at group
    unfold State.itemWritten
    rcases group with rfl | rfl | rfl <;> rfl

theorem State.groupWritten_eq (s : State) (g : GroupId) :
    s.groupWritten g = { s with
      scan := s.scan.set g.val
        ⟨if s.power.state = .standby then some (s.scanIntervalMs g) else none, Vector.replicate 8 0⟩ g.isLt } := by
  unfold State.groupWritten
  split <;> rfl

/-! ### The thresholds (R98) -/

theorem State.crossings_of_same (x : LampId) (lamp : t.lamp x = s.lamp x) (conf : t.conf = s.conf)
    (clock : t.clock = s.clock) : t.crossings x = s.crossings x := by
  unfold State.crossings State.incidentIf State.incidentOf State.dateTime State.warningAt State.endAt State.expiryAt
    State.item
  rw [lamp, conf, clock]

/-- A lamp as a test of the thresholds leaves it (R96, R106). -/
def State.testedLamp (s : State) (x : LampId) : Lamp :=
  { s.flagged (s.lamp x) with
    history := if s.crossings x = [] then (s.lamp x).history
      else ((s.crossings x).reverse ++ (s.lamp x).history).take Config.historyPlaces }

theorem State.testThresholds_offers (s : State) (x : LampId) :
    s.testThresholds x = (s.setLamp x (s.testedLamp x)).offers ((s.crossings x).map (.incident x)) := by
  rw [State.testThresholds_noted, State.noted, State.lamp_setLamp_same, State.setLamp_setLamp]
  rfl

/-- The test of lamp A does not reach that of lamp B. -/
theorem State.testBoth_offers (s : State) :
    (s.testThresholds .a).testThresholds .b
      = ({ s with lampA := s.testedLamp .a, lampB := s.testedLamp .b } : State).offers
          ((s.crossings .a).map (.incident .a) ++ (s.crossings .b).map (.incident .b)) := by
  have frame := s.testThresholds_frame .a
  have partner : (s.testThresholds .a).lamp .b = s.lamp .b := s.partner_testThresholds .a
  have crossings : (s.testThresholds .a).crossings .b = s.crossings .b :=
    State.crossings_of_same .b partner frame.conf (by rw [frame])
  have tested : (s.testThresholds .a).testedLamp .b = s.testedLamp .b := by
    unfold State.testedLamp State.flagged State.warningAt State.endAt State.expiryAt State.item
    rw [crossings, partner, frame.conf]
  rw [State.testThresholds_offers, crossings, tested, State.testThresholds_offers, State.offers_setLamp,
    State.offers_append]
  rfl

/-! ### The loss watch (R140) and the picture (R128, R152) -/

theorem State.watchActs_iff (s : State) : s.watchActs = true ↔
    s.item 22 ≠ 0 ∧ (s.power.state = .on ∨ s.power.state = .dimmed) ∧ s.sw.inFlight = none := by
  simp [State.watchActs, and_assoc]

theorem State.retestWatch_figures (s : State) :
    let acts := s.item 22 ≠ 0 ∧ (s.power.state = .on ∨ s.power.state = .dimmed) ∧ s.sw.inFlight = none
      ∧ (s.input s.sw.selected).signal ≠ .stable
    s.retestWatch = { s with sw := { s.sw with
      watch := if acts then (if s.sw.watch = .watching then .grace else s.sw.watch) else .watching
      grace := if acts then (if s.sw.watch = .watching then some (1000 * s.item 23) else s.sw.grace) else none
      selectLines := s.retestWatch.sw.selectLines, blankLine := s.retestWatch.sw.blankLine } }
    ∧ (s.sw.drive = s.sw →
      s.retestWatch.sw.selectLines = s.sw.selectLines ∧ s.retestWatch.sw.blankLine = s.sw.blankLine) := by
  intro acts
  have acts_iff : (s.watchActs && !s.selectedStable) = true ↔ acts := by
    rw [Bool.and_eq_true, State.watchActs_iff]
    simp [acts, State.selectedStable, and_assoc]
  have driven (v : SwitchUnit) (flight : v.inFlight = s.sw.inFlight) (selected : v.selected = s.sw.selected)
      (mute : v.mute = s.sw.mute) (drives : s.sw.drive = s.sw) :
      v.drive.selectLines = s.sw.selectLines ∧ v.drive.blankLine = s.sw.blankLine := by
    rw [← drives]
    unfold SwitchUnit.drive
    rw [flight, selected, mute]
    exact ⟨rfl, rfl⟩
  unfold State.retestWatch
  by_cases act : acts
  · rw [if_pos (acts_iff.mpr act), if_pos act, if_pos act]
    split
    · exact ⟨rfl, driven _ rfl rfl rfl⟩
    · exact ⟨rfl, fun _ => ⟨rfl, rfl⟩⟩
  · rw [if_neg (fun h => act (acts_iff.mp h)), if_neg act, if_neg act]
    exact ⟨rfl, driven _ rfl rfl rfl⟩

/-- The picture fitted anew is sent, or waits for the end of the switch in flight (R152 to R154). -/
theorem State.sourceEvent_eq (s : State) :
    s.sourceEvent = { s with
      control := s.sourceEvent.control, lectern := s.sourceEvent.lectern, geo := s.sourceEvent.geo
      scaler := s.sourceEvent.scaler }
    ∧ s.sourceEvent.geo.input = s.sw.selected ∧ s.sourceEvent.geo.quad = s.geo.quad
    ∧ s.sourceEvent.geo.area = s.geo.area ∧ s.sourceEvent.runPicture.geo = s.sourceEvent.geo
    ∧ (if s.sw.inFlight.isSome = true then s.sourceEvent.geo.deferred = true ∧ s.sourceEvent.scaler = s.scaler
      else s.sourceEvent.geo.deferred = false ∧ s.sourceEvent.scaler = s.sourceEvent.geo.update) := by
  unfold State.sourceEvent State.dueUpdate
  show _ ∧ _ ∧ _ ∧ _ ∧ _ ∧ (if s.runPicture.sw.inFlight.isSome = true then _ else _)
  split
  · exact ⟨rfl, rfl, rfl, rfl, rfl, rfl, rfl⟩
  · exact ⟨rfl, rfl, rfl, rfl, rfl, rfl, rfl⟩

end Sys2Proof.Machine
end

section
/-! PROOFS. The restrike hold written anew, and WRITE_SETTING whole (R75, R82, R194; O22). -/

set_option Elab.async false

namespace Sys2Proof.Machine

variable {s t u v : State} {x : LampId} {h : Nat}

/-! ## A lamp under a new restrike hold (R75, R82) -/

/-- A lamp that is struck as the restrike hold becomes `h`, if it is available. -/
def Lamp.strikesAt (h : Nat) (m : Lamp) : Prop :=
  h ≤ m.since ∧ (m.state = .hot ∧ m.waiting = true ∨ m.state = .retryWait ∧ m.timer = none)

/-- A lamp that the restrike hold `h` leaves as it is. -/
def Lamp.stillAt (h : Nat) (m : Lamp) : Prop :=
  ¬ m.strikesAt h ∧ (m.state = .hot → m.since < h) ∧ (m.state = .dark → h ≤ m.since)

/-- A lamp in DARK below the hold, returned to HOT. -/
def State.holdRaised (s : State) (x : LampId) : State :=
  s.moveLamp x (fun m => { m with state := .hot }) false .holdRaised

/-- What the new hold does to a lamp, by the lamp's state. -/
inductive State.reholds (s : State) (x : LampId) : State → Prop
  | stays (still : (s.lamp x).stillAt s.restrikeHold) : s.reholds x s
  | rises (dark : (s.lamp x).state = .dark) (short : (s.lamp x).since < s.restrikeHold) : s.reholds x (s.holdRaised x)
  | reaches (hot : (s.lamp x).state = .hot) (long : s.restrikeHold ≤ (s.lamp x).since) :
    s.reholds x (LampMove.finish (s.reachDark x) x)
  | strikes (waits : (s.lamp x).state = .retryWait) (due : (s.lamp x).timer = none)
      (long : s.restrikeHold ≤ (s.lamp x).since) : s.reholds x (LampMove.finish (s.strike x) x)

theorem State.holdChanged_reholds (s : State) (x : LampId) : s.reholds x (s.holdChanged x) := by
  have other (hot : (s.lamp x).state ≠ .hot) (retry : (s.lamp x).state ≠ .retryWait)
      (dark : (s.lamp x).state ≠ .dark) : s.reholds x s :=
    .stays ⟨fun strikes => strikes.2.elim (fun is => hot is.1) fun is => retry is.1, fun is => absurd is hot,
      fun is => absurd is dark⟩
  unfold State.holdChanged
  dsimp only
  split
  case h_1 is =>
    split
    · exact .reaches is ‹_›
    · rename_i short
      exact .stays ⟨fun strikes => short strikes.1, fun _ => Nat.lt_of_not_le short, fun dark => by simp [is] at dark⟩
  case h_2 is =>
    split
    · exact .rises is ‹_›
    · rename_i long
      exact .stays ⟨fun strikes => by simp [Lamp.strikesAt, is] at strikes, fun hot => by simp [is] at hot,
        fun _ => Nat.le_of_not_lt long⟩
  case h_3 is =>
    split
    · rename_i due
      exact .strikes is (Option.isNone_iff_eq_none.mp due.1) due.2
    · rename_i waits
      refine .stays ⟨fun strikes => waits ⟨?_, strikes.1⟩, fun hot => by simp [is] at hot, fun dark => by simp [is] at dark⟩
      have due := strikes.2.resolve_left (by simp [is])
      rw [due.2]
      rfl
  all_goals
    rename_i is
    exact other (by simp [is]) (by simp [is]) (by simp [is])

/-! ### The move behind it -/

/-- The end of a retry wait leaves the other lamp; a lamp that leaves play there has ended its call. -/
theorem State.strike_moves_retry (waits : (s.lamp x).state = .retryWait) : s.movesLamp x (s.strike x) := by
  cases fit : (s.lamp x).available with
  | false =>
    have frame := s.moveLamp_frame x s.endedDark true .unavailable
    rw [State.strike_unavailable fit, if_pos waits]
    refine ⟨frame, s.partner_moveLamp x _ _ _, fun _ => ?_⟩
    rw [State.lamp_moveLamp_same]
    exact ⟨rfl, fit, s.endedDark_unlit true _⟩
  | true =>
    have entered := s.igniteEntered_strikes x
    unfold State.strike
    rw [if_pos fit, State.ignite_eq]
    split
    · exact (State.faultInIgnite_moves _ x).after entered.frame entered.partner
    · exact entered.moves

/-- A move of one lamp leaves the other where that is out of service and its wake timer stands (R89). -/
theorem State.movesLamp.spares {r : LampMove} (moves : s.movesLamp x r)
    (unfit : (s.lamp (otherLamp x)).available = false) (still : (s.lamp (otherLamp x)).wakeTimer = none) :
    (LampMove.finish r x).lamp (otherLamp x) = s.lamp (otherLamp x) := by
  have settled : (LampMove.settle r x).1.lamp (otherLamp x) = s.lamp (otherLamp x) := by
    unfold LampMove.settle
    split
    · exact (State.lamp_failover (by rw [moves.partner]; exact unfit) x 2).trans moves.partner
    · exact moves.partner
  unfold LampMove.finish
  rw [State.lamp_lampEvent _ (by rw [settled]; exact still), settled]

/-- What a lamp's own part of the new hold leaves: a move of that lamp, carried to its end. -/
theorem State.reholds.moves (made : s.reholds x v) :
    v = s ∨ v = s.holdRaised x ∨ ∃ r, s.movesLamp x r ∧ v = LampMove.finish r x := by
  cases made with
  | stays => exact .inl rfl
  | rises => exact .inr (.inl rfl)
  | reaches => exact .inr (.inr ⟨_, s.reachDark_moves x, rfl⟩)
  | strikes waits => exact .inr (.inr ⟨_, State.strike_moves_retry waits, rfl⟩)

theorem State.partner_holdRaised (s : State) (x : LampId) : (s.holdRaised x).lamp (otherLamp x) = s.lamp (otherLamp x) :=
  s.partner_moveLamp x _ _ _

/-- A lamp out of service, its wake timer at rest, is not reached by what the hold does to its partner. -/
theorem State.reholds.spares (made : s.reholds x v) (unfit : (s.lamp (otherLamp x)).available = false)
    (still : (s.lamp (otherLamp x)).wakeTimer = none) : v.lamp (otherLamp x) = s.lamp (otherLamp x) := by
  obtain rfl | rfl | ⟨r, moves, rfl⟩ := made.moves
  · rfl
  · exact s.partner_holdRaised x
  · exact moves.spares unfit still

/-- A lamp that stays in play leaves its partner as it is. -/
theorem State.reholds.partner (made : s.reholds x v) (sound : (s.lamp x).strikesAt s.restrikeHold →
    (s.lamp x).available = true ∧ (s.lamp x).faultLine = false) : v.lamp (otherLamp x) = s.lamp (otherLamp x) := by
  cases made with
  | stays => rfl
  | rises => exact s.partner_holdRaised x
  | reaches hot long =>
    have reach := s.reachDark_reaches x
    refine ((s.reachDark_moves x).concludes.stays ?_).2
    by_cases waiting : (s.lamp x).waiting = true
    · obtain ⟨fit, healthy⟩ := sound ⟨long, .inl ⟨hot, waiting⟩⟩
      exact (reach.strikes waiting fit healthy).1
    · exact (reach.idle (Bool.eq_false_iff.mpr waiting)).1
  | strikes waits due long =>
    obtain ⟨fit, healthy⟩ := sound ⟨long, .inr ⟨waits, due⟩⟩
    obtain ⟨u, struck, -⟩ := State.strike_healthy fit healthy
    exact ((State.strike_moves_retry waits).concludes.stays (by rw [struck])).2

/-- Only a strike moves the record of the lamp struck last. -/
theorem State.reholds.lastStruck (made : s.reholds x v) (idle : ¬ (s.lamp x).strikesAt s.restrikeHold) :
    v.lastStruck = s.lastStruck := by
  cases made with
  | stays => rfl
  | rises => exact State.lastStruck_moveLamp s x _ _ _
  | reaches hot long =>
    have resting : (s.lamp x).waiting = false := Bool.eq_false_iff.mpr fun waiting => idle ⟨long, .inl ⟨hot, waiting⟩⟩
    rw [(s.reachDark_moves x).concludes.lastStruck ((s.reachDark_reaches x).idle resting).1, State.reachDark_eq, resting]
    exact State.lastStruck_moveLamp s x _ _ _
  | strikes waits due long => exact absurd ⟨long, .inr ⟨waits, due⟩⟩ idle

/-! ### What becomes of the lamp itself -/

theorem State.reholds.still (made : s.reholds x v) (still : (s.lamp x).stillAt s.restrikeHold) : v = s := by
  obtain ⟨idle, hot, dark⟩ := still
  cases made with
  | stays => rfl
  | rises is short => exact absurd short (Nat.not_lt_of_le (dark is))
  | reaches is long => exact absurd (hot is) (Nat.not_lt_of_le long)
  | strikes waits due long => exact absurd ⟨long, .inr ⟨waits, due⟩⟩ idle

theorem State.reholds.raised (made : s.reholds x v) (dark : (s.lamp x).state = .dark)
    (short : (s.lamp x).since < s.restrikeHold) : v = s.holdRaised x := by
  cases made with
  | stays still => exact absurd short (Nat.not_lt_of_le (still.2.2 dark))
  | rises => rfl
  | reaches is => simp [dark] at is
  | strikes is => simp [dark] at is

theorem State.reholds.reached (made : s.reholds x v) (hot : (s.lamp x).state = .hot)
    (long : s.restrikeHold ≤ (s.lamp x).since) : v = LampMove.finish (s.reachDark x) x := by
  cases made with
  | stays still => exact absurd (still.2.1 hot) (Nat.not_lt_of_le long)
  | rises is => simp [hot] at is
  | reaches => rfl
  | strikes is => simp [hot] at is

theorem State.reholds.retried (made : s.reholds x v) (waits : (s.lamp x).state = .retryWait)
    (due : (s.lamp x).timer = none) (long : s.restrikeHold ≤ (s.lamp x).since) : v = LampMove.finish (s.strike x) x := by
  cases made with
  | stays still => exact absurd ⟨long, .inr ⟨waits, due⟩⟩ still.1
  | rises is => simp [waits] at is
  | reaches is => simp [waits] at is
  | strikes => rfl

/-- A lamp `n` whose call has ended in DARK as it was to be struck, `m` before (R72, R75). -/
structure Lamp.gaveUp (m n : Lamp) : Prop where
  state : n.state = .dark
  demand : n.demand = .off
  called : n.called = false
  wear : n.wear = m.wear
  timer : m.state = .retryWait → n.timer = none
  waiting : m.state = .hot → n.waiting = false
  wakeTimer : n.wakeTimer = none
  available : n.available = m.available

theorem State.reholds.gaveUp (made : s.reholds x v) (strikes : (s.lamp x).strikesAt s.restrikeHold)
    (unfit : (s.lamp x).available = false) : (s.lamp x).gaveUp (v.lamp x) := by
  obtain ⟨long, ⟨hot, waiting⟩ | ⟨waits, due⟩⟩ := strikes
  · have ended := ((s.reachDark_reaches x).ends waiting unfit).2
    rw [made.reached hot long, (s.reachDark_moves x).concludes.lamp, ended]
    exact ⟨rfl, rfl, rfl, rfl, fun is => by simp [hot] at is, fun _ => rfl, rfl, rfl⟩
  · rw [made.retried waits due long, (State.strike_moves_retry waits).concludes.lamp, State.strike_unavailable unfit,
      if_pos waits, State.lamp_moveLamp_same]
    obtain ⟨dark, off, uncalled, -⟩ := s.endedDark_darkened true (s.lamp x)
    exact ⟨dark.trans (if_neg (Nat.not_lt_of_le long)), off, uncalled, rfl, fun _ => rfl,
      fun is => by simp [waits] at is, s.endedDark_unlit true _, rfl⟩

/-- A lamp `n` struck, `m` before (R72). -/
def Lamp.restruck (m n : Lamp) : Prop :=
  n.state = .ignite ∧ n.demand = .ignite ∧ n.called = m.called ∧ n.timer = some 2000 ∧ n.attempts = m.attempts + 1
    ∧ n.strikeCount = min (m.strikeCount + 1) 65535 ∧ n.wear = min (m.wear + 600) 4294967295
    ∧ (m.state = .hot → n.waiting = false)

theorem State.reholds.restruck (made : s.reholds x v) (strikes : (s.lamp x).strikesAt s.restrikeHold)
    (fit : (s.lamp x).available = true) (sound : (s.lamp x).faultLine = false) :
    (s.lamp x).restruck (v.lamp x) ∧ v.lastStruck = some x := by
  obtain ⟨long, ⟨hot, waiting⟩ | ⟨waits, due⟩⟩ := strikes
  · obtain ⟨stays, last, struck⟩ := (s.reachDark_reaches x).strikes waiting fit sound
    have ends := (s.reachDark_moves x).concludes
    rw [made.reached hot long, ends.lamp, ends.lastStruck stays, struck]
    exact ⟨⟨rfl, rfl, rfl, rfl, rfl, rfl, rfl, fun _ => rfl⟩, last⟩
  · obtain ⟨u, struck, strikes⟩ := State.strike_healthy fit sound
    have ends := (State.strike_moves_retry waits).concludes
    rw [made.retried waits due long, ends.lamp, ends.lastStruck (by rw [struck]), struck, strikes.lamp]
    exact ⟨⟨rfl, rfl, rfl, rfl, rfl, rfl, rfl, fun is => by simp [waits] at is⟩, strikes.lastStruck⟩

/-! ### Both lamps under the new hold -/

/-- The part of lamp `x` in a change of the hold from `s` to `u`, lamp A before lamp B: it runs from `p` to `q`, the other
lamp's part before it or behind it. -/
structure State.reheld (s : State) (x : LampId) (p q u : State) : Prop where
  was : p.lamp x = s.lamp x
  hold : p.restrikeHold = s.restrikeHold
  made : p.reholds x q
  lamp : ((s.lamp x).strikesAt s.restrikeHold → (s.lamp x).available = true → (s.lamp x).faultLine = false) →
    u.lamp x = q.lamp x
  alone : (s.lamp (otherLamp x)).stillAt s.restrikeHold → ¬ (s.lamp x).strikesAt s.restrikeHold → p = s ∧ u = q
  last : ¬ (s.lamp (otherLamp x)).strikesAt s.restrikeHold → (s.lamp x).available = true →
    (s.lamp x).faultLine = false → u.lastStruck = q.lastStruck

theorem State.reholds.hold (made : s.reholds x v) : v.restrikeHold = s.restrikeHold := by
  have frame : s.lampPathOnly v := by
    obtain rfl | rfl | ⟨r, moves, rfl⟩ := made.moves
    · rfl
    · exact (s.moveLamp_frame x _ _ _).toPath
    · exact moves.concludes.path
  unfold State.restrikeHold State.item
  rw [frame]

/-- Lamp A's part is the first: lamp B's leaves what it has made. -/
theorem State.reheld_first (sound : (s.lamp .b).strikesAt s.restrikeHold →
      (s.lamp .b).available = true ∧ (s.lamp .b).faultLine = false)
    (first : s.reholds .a v) (second : v.reholds .b u) : s.reheld .a s v u where
  was := rfl
  hold := rfl
  made := first
  lamp healthy := by
    by_cases gone : (s.lamp .a).strikesAt s.restrikeHold ∧ (s.lamp .a).available = false
    · have ended := first.gaveUp gone.1 gone.2
      exact second.spares (ended.available.trans gone.2) ended.wakeTimer
    · have kept : v.lamp .b = s.lamp .b := first.partner fun strikes =>
        have fit := eq_true_of_ne_false fun unfit => gone ⟨strikes, unfit⟩
        ⟨fit, healthy strikes fit⟩
      exact second.partner (by rw [kept, first.hold]; exact sound)
  alone still idle := by
    have kept : v.lamp .b = s.lamp .b := first.partner fun strikes => absurd strikes idle
    exact ⟨rfl, second.still (by rw [kept, first.hold]; exact still)⟩
  last idle fit healthy := by
    have kept : v.lamp .b = s.lamp .b := first.partner fun _ => ⟨fit, healthy⟩
    exact second.lastStruck (by rw [kept, first.hold]; exact idle)

/-- Lamp B's part is the last: lamp A's leaves lamp B to it. -/
theorem State.reheld_second (sound : (s.lamp .a).strikesAt s.restrikeHold →
      (s.lamp .a).available = true ∧ (s.lamp .a).faultLine = false)
    (first : s.reholds .a v) (second : v.reholds .b u) : s.reheld .b v u u where
  was := first.partner sound
  hold := first.hold
  made := second
  lamp _ := rfl
  alone still _ := ⟨first.still still, rfl⟩
  last _ _ _ := rfl

theorem State.holdsChanged_reheld (x : LampId) (sound : (s.lamp (otherLamp x)).strikesAt s.restrikeHold →
    (s.lamp (otherLamp x)).available = true ∧ (s.lamp (otherLamp x)).faultLine = false) :
    ∃ p q, s.reheld x p q ((s.holdChanged .a).holdChanged .b) := by
  have first := s.holdChanged_reholds .a
  have second := (s.holdChanged .a).holdChanged_reholds .b
  cases x with
  | a => exact ⟨_, _, State.reheld_first sound first second⟩
  | b => exact ⟨_, _, State.reheld_second sound first second⟩

/-- A lamp whose demand is OFF as `u` holds it, in `s` otherwise, with the report of its move (R67, R69, R91). -/
def State.darkTold (s u : State) (x : LampId) (previous : LampState) (cause : LampCause) : State :=
  ({ s.setLamp x (u.lamp x) with fan := u.fan } : State).offer (.lampState
    { lamp := x, state := (u.lamp x).state, previous := previous, cause := cause, demand := .off
      flags := (u.lamp x).flags, attempts := (s.lamp x).attempts
      limit := if (s.lamp x).called = true then (s.lamp x).limit else 0 })

theorem State.moveLamp_told {f : Lamp → Lamp} {c : LampCause} (moved : u = s.moveLamp x f false c)
    (off : (u.lamp x).demand = .off) (unlit : (u.lamp x).state.alight = false)
    (attempts : (u.lamp x).attempts = (s.lamp x).attempts) (called : (u.lamp x).called = (s.lamp x).called)
    (limit : (u.lamp x).limit = (s.lamp x).limit) : u = s.darkTold u x (s.lamp x).state c := by
  have report : lampReport x (u.lamp x) (s.lamp x).state c = .lampState
      { lamp := x, state := (u.lamp x).state, previous := (s.lamp x).state, cause := c, demand := .off
        flags := (u.lamp x).flags, attempts := (s.lamp x).attempts
        limit := if (s.lamp x).called = true then (s.lamp x).limit else 0 } := by
    unfold lampReport
    rw [off, unlit, Bool.or_false, attempts, called, limit]
  unfold State.darkTold
  rw [← report, moved]
  cases x <;> rfl

theorem State.reheld.of_idle {p q : State} (part : s.reheld x p q u) (idle : ¬ (s.lamp x).strikesAt s.restrikeHold) :
    u.lamp x = q.lamp x := part.lamp fun strikes => absurd strikes idle

theorem State.reheld.stays {p q : State} (part : s.reheld x p q u) (still : (s.lamp x).stillAt s.restrikeHold) :
    u.lamp x = s.lamp x := by
  rw [part.of_idle still.1, part.made.still (by rw [part.was, part.hold]; exact still), part.was]

/-- A lamp in DARK below the new hold returns to HOT (R82). -/
theorem State.reheld.raised {p q : State} (part : s.reheld x p q u) (dark : (s.lamp x).state = .dark)
    (short : (s.lamp x).since < s.restrikeHold) :
    u.lamp x = { s.lamp x with state := .hot, demand := .off, wakeTimer := none }
    ∧ ((s.lamp (otherLamp x)).stillAt s.restrikeHold → u = s.darkTold u x .dark .holdRaised) := by
  have idle : ¬ (s.lamp x).strikesAt s.restrikeHold := fun strikes => by simp [Lamp.strikesAt, dark] at strikes
  have raised := part.made.raised (by rw [part.was, dark]) (by rw [part.was, part.hold]; exact short)
  have now : u.lamp x = { s.lamp x with state := .hot, demand := .off, wakeTimer := none } := by
    rw [part.of_idle idle, raised, State.holdRaised, State.lamp_moveLamp_same, part.was]
    rfl
  refine ⟨now, fun still => ?_⟩
  obtain ⟨rfl, rfl⟩ := part.alone still idle
  rw [← dark]
  exact State.moveLamp_told raised (by rw [now]) (by rw [now]; rfl) (by rw [now]) (by rw [now]) (by rw [now])

/-- A lamp in HOT that has reached the new hold enters DARK (R82). -/
theorem State.reheld.ready {p q : State} (part : s.reheld x p q u) (hot : (s.lamp x).state = .hot)
    (long : s.restrikeHold ≤ (s.lamp x).since) (resting : (s.lamp x).waiting = false) :
    u.lamp x = { s.lamp x with state := .dark, demand := .off, wakeTimer := none }
    ∧ ((s.lamp (otherLamp x)).stillAt s.restrikeHold → s.power.state = .standby → s.power.degraded = false →
      u = s.darkTold u x .hot .ready) := by
  have idle : ¬ (s.lamp x).strikesAt s.restrikeHold := fun strikes => by
    simp [Lamp.strikesAt, hot, resting] at strikes
  have reached := part.made.reached (by rw [part.was, hot]) (by rw [part.was, part.hold]; exact long)
  have now : u.lamp x = { s.lamp x with state := .dark, demand := .off, wakeTimer := none } := by
    rw [part.of_idle idle, reached, (p.reachDark_moves x).concludes.lamp,
      ((p.reachDark_reaches x).idle (by rw [part.was, resting])).2, part.was, ← resting]
  refine ⟨now, fun still standby whole => ?_⟩
  obtain ⟨rfl, rfl⟩ := part.alone still idle
  have power : (p.darkNow x).power = p.power := (p.darkNow_moves x).frame.power
  have moved : u = p.darkNow x := by
    rw [reached, State.reachDark_eq, resting]
    exact State.lampEvent_of_standby (s := p.darkNow x) (by rw [power, standby]) (by rw [power, whole])
  rw [← hot]
  exact State.moveLamp_told moved (by rw [now]) (by rw [now]; rfl) (by rw [now]) (by rw [now]) (by rw [now])

theorem State.reheld.gaveUp {p q : State} (part : s.reheld x p q u) (strikes : (s.lamp x).strikesAt s.restrikeHold)
    (unfit : (s.lamp x).available = false) : (s.lamp x).gaveUp (u.lamp x) := by
  have made := part.made
  rw [part.lamp fun _ fit => by simp [unfit] at fit]
  rw [← part.was, ← part.hold] at strikes
  rw [← part.was] at unfit ⊢
  exact made.gaveUp strikes unfit

theorem State.reheld.restruck {p q : State} (part : s.reheld x p q u) (strikes : (s.lamp x).strikesAt s.restrikeHold)
    (fit : (s.lamp x).available = true) (sound : (s.lamp x).faultLine = false) :
    (s.lamp x).restruck (u.lamp x)
    ∧ (¬ (s.lamp (otherLamp x)).strikesAt s.restrikeHold → u.lastStruck = some x) := by
  obtain ⟨struck, last⟩ := part.made.restruck (by rw [part.was, part.hold]; exact strikes) (by rw [part.was]; exact fit)
    (by rw [part.was]; exact sound)
  rw [part.was] at struck
  refine ⟨?_, fun idle => (part.last idle fit sound).trans last⟩
  rw [part.lamp fun _ _ => sound]
  exact struck

theorem State.holdsChanged_still (made : u = (s.holdChanged .a).holdChanged .b)
    (still : ∀ x, (s.lamp x).stillAt s.restrikeHold) : u = s := by
  have first : s.holdChanged .a = s := (s.holdChanged_reholds .a).still (still .a)
  rw [made, first]
  exact (s.holdChanged_reholds .b).still (still .b)

/-! ## WRITE_SETTING (R194) -/

theorem byte_toNat (b : Byte) : byte b.toNat = b := by
  rw [byte, BitVec.ofNat_toNat, BitVec.setWidth_eq]

/-- The payload of WRITE_SETTING carries the value, its high byte first. -/
theorem arg16_item {n : Byte} {w : Nat} (small : w < 65536) : arg16 (n :: be16 w) 1 = w := arg16_eq rfl rfl small

theorem State.bodyWriteSetting_none {n : Byte} {w : Nat} (unnamed : itemOf n.toNat = none) :
    s.bodyWriteSetting (n :: be16 w) = (⟨.badValue, []⟩, s) := by
  have item : itemOf (arg (n :: be16 w) 0) = none := unnamed
  unfold State.bodyWriteSetting
  rw [item]
  rfl

theorem State.bodyWriteSetting_some {n : Byte} {w : Nat} {m : Fin 104} {f : ItemForm} (small : w < 65536)
    (named : itemOf n.toNat = some (m, f)) :
    s.bodyWriteSetting (n :: be16 w) = (⟨.ok, n :: be16 (f.nearest w)⟩, s.wrote m (f.nearest w)) := by
  obtain ⟨value, form⟩ := itemOf_val named
  have item : itemOf (arg (n :: be16 w) 0) = some (m, f) := named
  have nearest : f.apply w = f.nearest w :=
    ItemForm.apply_nearest w fun lo hi is => itemForm_ordered m (form.trans (congrArg some is))
  unfold State.bodyWriteSetting
  rw [item]
  dsimp only
  unfold State.itemBytes
  rw [arg16_item small, nearest, State.item_setItem_same, show byte m.val = n by rw [value, byte_toNat]]
  rfl

theorem State.itemWritten_hold_both {n : Nat} (hold : n = 7 ∨ n = 8) :
    s.itemWritten n = (s.holdChanged .a).holdChanged .b := if_pos hold

theorem State.itemWritten_thresholds {n : Nat} (threshold : n ∈ [11, 12, 13]) :
    s.itemWritten n = (s.testThresholds .a).testThresholds .b := by
  simp only [List.mem_cons, List.not_mem_nil, or_false] at threshold
  unfold State.itemWritten
  rw [if_neg (by omega), if_pos threshold]

theorem State.itemWritten_watch : s.itemWritten 22 = s.retestWatch := rfl

theorem State.itemWritten_aspect {n : Nat} (aspect : n = 64 + s.sw.selected.val) : s.itemWritten n = s.sourceEvent := by
  unfold State.itemWritten
  rw [if_neg (by omega), if_neg (by omega), if_neg (by omega), if_neg (by omega), if_neg (by omega), if_pos aspect]

/-- The crossings of a test, flag by flag in their order (R96). -/
theorem State.incidentIf_eq (s : State) (x : LampId) (flag : Bool) (threshold : Nat) (k : IncidentKind)
    (cls : IncidentClass) (is : k.classIn (s.lamp x).state = cls) :
    s.incidentIf (decide (threshold ≤ (s.lamp x).wear) && !flag) x k =
      if flag = false ∧ threshold ≤ (s.lamp x).wear then
        [{ kind := k, cls := cls, lampState := (s.lamp x).state, wear := (s.lamp x).wear
           time := s.clock.map (·.now) }]
      else [] := by
  subst is
  unfold State.incidentIf
  refine if_congr ?_ rfl rfl
  simp [and_comm]

theorem foldl_incidents (xs ys : List Incident) (s : State) :
    (xs.map (LampId.a, ·) ++ ys.map (LampId.b, ·)).foldl (fun w r => w.offer (.incident r.1 r.2)) s
      = s.offers (xs.map (.incident .a) ++ ys.map (.incident .b)) := by
  simp [State.offers, List.foldl_map]

/-- Settles O22: LEARN_BASE, and WRITE_SETTING by what the item's owner does at once. -/
theorem settingWritesTakeTheNearestValueInRange : Obligations.SettingWritesTakeTheNearestValueInRange := by
  unfold Obligations.SettingWritesTakeTheNearestValueInRange
  refine ⟨fun s l tag set t manages takes => learnBase_learns manages takes,
    fun s l tag n v t manages small takes => ?_⟩
  have ran : exec (.writeSetting l tag (n :: be16 v)) s = .next ((t.bodyWriteSetting (n :: be16 v)).2.reply l
      ⟨0xB6, tag, (t.bodyWriteSetting (n :: be16 v)).1.result, (t.bodyWriteSetting (n :: be16 v)).1.payload⟩) :=
    congrArg Host.Outcome.next
      (State.request_managed takes manages (State.bodyWriteSetting (n :: be16 v)) rfl (by decide) rfl)
  split
  · rename_i unnamed
    rw [State.bodyWriteSetting_none unnamed] at ran
    exact ran
  · rename_i m form named
    rw [State.bodyWriteSetting_some small named] at ran
    generalize is : form.nearest v = w at ran
    have frame : (t.setItem m w).lampPathOnly (t.wrote m w) := State.itemWritten_frame _ m.val
    have made : t.wrote m w = ({ t with conf := (t.wrote m w).conf } : State).itemWritten m.val := by
      rw [State.wrote_conf]
      rfl
    have written : (t.wrote m w).item m = w := by
      unfold State.item
      rw [State.wrote_conf]
      exact t.item_setItem_same m w
    have kept {i : Fin 104} (other : i ≠ m) : (t.wrote m w).item i = t.item i := by
      unfold State.item
      rw [State.wrote_conf]
      exact t.item_setItem_other other w
    refine ⟨t.wrote m w, w, is.symm, ran, t.wrote_conf m w, ?_, ?_, ?_, ?_,
      fun seven eight => State.itemWritten_hold (s := t.setItem m w) seven eight, ?_⟩
    case refine_1 | refine_2 | refine_3 | refine_4 =>
      rw [frame]
      rfl
    clear ran frame
    generalize t.wrote m w = u at *
    refine ⟨fun later => ?_, fun g group => ?_, fun threshold => ?_, fun watch => ?_, fun aspect => ?_,
      fun restrike => ?_⟩
    · exact made.trans (State.itemWritten_later later)
    · exact (made.trans (State.itemWritten_group group)).trans (State.groupWritten_eq _ g)
    · intro written life crossing crossed
      have each (x : LampId) : crossed (t.lamp x) = written.crossings x := by
        unfold State.crossings
        rw [State.incidentIf_eq _ _ _ _ _ .note rfl, State.incidentIf_eq _ _ _ _ _ .note rfl,
          State.incidentIf_eq _ _ _ _ _ .abort rfl]
        rfl
      have ends := (made.trans (State.itemWritten_thresholds threshold)).trans (State.testBoth_offers written)
      have lamps (x : LampId) : u.lamp x = written.testedLamp x := by
        rw [ends, State.lamp_offers]
        cases x <;> rfl
      refine ⟨?_, fun x => ?_⟩
      · rw [show u.lampA = written.testedLamp .a from lamps .a, show u.lampB = written.testedLamp .b from lamps .b,
          foldl_incidents, show crossed t.lampA = written.crossings .a from each .a,
          show crossed t.lampB = written.crossings .b from each .b]
        exact ends
      · rw [lamps x, each x]
        rfl
    · intro acts
      have twoTwo : u.item 22 = w := by
        rw [← written]
        exact congrArg u.item (Fin.ext watch.symm)
      have twoThree : u.item 23 = t.item 23 := kept fun is => by
        rw [← is] at watch
        exact absurd watch (by decide)
      have figures := State.retestWatch_figures { t with conf := u.conf }
      rw [watch] at made
      rw [← State.itemWritten_watch, ← made, show State.item { t with conf := u.conf } 22 = w from twoTwo,
        show State.item { t with conf := u.conf } 23 = t.item 23 from twoThree] at figures
      exact figures
    · have ends := made.trans (State.itemWritten_aspect (s := { t with conf := u.conf }) aspect)
      have figures := State.sourceEvent_eq { t with conf := u.conf }
      rw [← ends] at figures
      exact figures
    · intro hold written strikes still told
      have ends := made.trans (State.itemWritten_hold_both restrike)
      refine ⟨made ▸ State.itemWritten_frame written m.val, fun every => State.holdsChanged_still ends every,
        fun x sound => ?_⟩
      obtain ⟨p, q, part⟩ := State.holdsChanged_reheld (s := written) x sound
      rw [← ends] at part
      refine ⟨fun rests => ?_, fun dark short => part.raised dark short,
        fun hot long resting => part.ready hot long resting, fun struck unfit => ?_, fun struck fit healthy => ?_⟩
      · exact part.stays rests
      · have ended := part.gaveUp struck unfit
        exact ⟨ended.state, ended.demand, ended.called, ended.wear, ended.timer, ended.waiting⟩
      · obtain ⟨⟨state, demand, called, timer, attempts, count, wear, waiting⟩, last⟩ := part.restruck struck fit healthy
        exact ⟨state, demand, called, timer, attempts, count, wear, waiting, last⟩

end Sys2Proof.Machine
end
